-- ==== Sys2Proof/Word.lean ====
section
/-! DEFINITION. The words and the index types of the Nelbrin 4828. -/

namespace Sys2Proof

/-- One byte, of cluster memory, of a frame's data area or of a field on the diskette. -/
abbrev Byte := BitVec 8

/-- A 16-bit count or a CRC. -/
abbrev Half := BitVec 16

/-- A 32-bit register word, a cluster memory address, a sector version or a value of the global clock G. -/
abbrev Word := BitVec 32

/-- A drive, 0 to 3 (00_scope.md, Conventions). -/
abbrev DriveNo := Fin 4

/-- A drive port: 0 is port A with drives 0 and 1, 1 is port B with drives 2 and 3. -/
abbrev PortNo := Fin 2

/-- A desk, 0 to 15. -/
abbrev DeskNo := Fin 16

/-- A frame of the Track Image Store, 0 to 15 (R63). -/
abbrev FrameNo := Fin 16

/-- An entry of the Active Order Table, 0 to 31 (R121). -/
abbrev EntryNo := Fin 32

end Sys2Proof
end

