-- ==== Sys2Proof/Syntax.lean ====
section
/-! DEFINITION. The commands of the part: one constructor per row of spec/opcode_table.json. The table gives its
rows no operands; each constructor carries what its rule says the event brings (log 34). -/

namespace Sys2Proof

/-- How a DMA read by the part ended: the bytes read, lowest address first, or a memory-bus error. -/
inductive DmaRead where
  | data (bytes : List Byte)
  | busError
  deriving DecidableEq, Repr

/-- How a DMA write by the part ended: whole, or with a memory-bus error after `written` bytes were written
(R116: "the block is left as far as it was written"; R139: "the bytes written before the failed access"). -/
inductive DmaWrite where
  | ok
  | busError (written : Nat)
  deriving DecidableEq, Repr

/-- Which order's result writes a completion belongs to: an entry of the Active Order Table, or the k-th oldest
of the writes that a restart left outstanding (R128). -/
inductive WriteRef where
  | entry (e : EntryNo)
  | orphan (k : Nat)
  deriving DecidableEq, Repr

/-- The four record bytes of an ID field (01, 1.4) as they were read. -/
structure IdRecord where
  cylinder : Byte
  head : Byte
  sector : Byte
  size : Byte
  deriving DecidableEq, Repr

/-- A flux transition of the read signal of a port (R46): when it came, in ns from the nominal start of the first bit
cell of the stretch that the event reports, and its amplitude. Where an event reports its stretch part by part, every part
counts from that same cell. -/
structure Flux where
  time : Nat
  amplitude : Nat
  deriving DecidableEq, Repr

/-- The commands and events of the part. -/
inductive Instr where
  /-- POWER_ON (R181). -/
  | powerOn
  /-- REGISTER_WRITE (R107): a write of `size` bytes at window offset `offset`. -/
  | registerWrite (offset : BitVec 5) (size : Nat) (value : Word)
  /-- RUN_SET (R182): a CONTROL write with RUN 1, RESTART 0 and the given DRIVE_NOTICE bit. -/
  | runSet (driveNotice : Bool)
  /-- RUN_CLEAR (R184): a CONTROL write with RUN 0, RESTART 0 and the given DRIVE_NOTICE bit. -/
  | runClear (driveNotice : Bool)
  /-- RESTART (R187): a CONTROL write with RESTART set. -/
  | restart
  /-- TABLE_BASE_WRITE (R109). -/
  | tableBaseWrite (value : Word)
  /-- NOTICE_CLEAR (R110). -/
  | noticeClear (value : Word)
  /-- ATTEND (R124). -/
  | attend (d : DeskNo)
  /-- HALT (R125). -/
  | halt (d : DeskNo)
  /-- DESK_RESTART (R126). -/
  | deskRestart (d : DeskNo)
  /-- RELEASE_LOCKS (R127, R163). -/
  | releaseLocks (d : DeskNo)
  /-- MEDIA_LOAD (R4): READY rises; the levels of WRITE PROTECT and TWO SIDED at that instant. -/
  | mediaLoad (v : DriveNo) (writeProtect twoSided : Bool)
  /-- MEDIA_CHANGE (R7): READY falls. -/
  | mediaChange (v : DriveNo)
  /-- DRIVE_FAULT_RISE (R8). -/
  | driveFaultRise (v : DriveNo)
  /-- DRIVE_FAULT_FALL (R9). -/
  | driveFaultFall (v : DriveNo)
  /-- POWER_WARNING_RISE (R185). -/
  | powerWarningRise
  /-- POWER_WARNING_FALL (R186). -/
  | powerWarningFall
  /-- INDEX_PULSE (R27). -/
  | indexPulse (v : DriveNo)
  /-- NO_INDEX_TIMEOUT (R29). -/
  | noIndexTimeout (v : DriveNo)
  /-- SPINUP_LIMIT (R5). -/
  | spinupLimit (v : DriveNo)
  /-- FAULT_EXPIRY (R10). -/
  | faultExpiry (v : DriveNo)
  /-- HEAD_LOAD_DONE (R12). -/
  | headLoadDone (v : DriveNo)
  /-- PROBE_STEP_DONE (R3): the wait after a probe pulse ends; the level of TRACK ZERO. -/
  | probeStepDone (v : DriveNo) (trackZero : Bool)
  /-- PROBE_SETTLED (R3): the levels of WRITE PROTECT and TWO SIDED, for a media load found there. -/
  | probeSettled (v : DriveNo) (writeProtect twoSided : Bool)
  /-- SEEK_STEP_DONE (R13): the wait after a seek pulse ends; the level of TRACK ZERO. -/
  | seekStepDone (v : DriveNo) (trackZero : Bool)
  /-- ARM_SETTLED (R13). -/
  | armSettled (v : DriveNo)
  /-- RECAL_STEP_DONE (R14): the wait after a recalibration pulse ends; the level of TRACK ZERO. -/
  | recalStepDone (v : DriveNo) (trackZero : Bool)
  /-- RECAL_SETTLED (R14). -/
  | recalSettled (v : DriveNo)
  /-- STAMP_BOUND (R24). -/
  | stampBound
  /-- SNAPSHOT_EXPIRY (R179). -/
  | snapshotExpiry
  /-- FWQ_STALL (R86): the Frame Wait Queue entry of the order in table entry `e`. -/
  | fwqStall (e : EntryNo)
  /-- HEADER_READ_DONE (R182): the 64 bytes of the header. -/
  | headerReadDone (r : DmaRead)
  /-- PROFILE_READ_DONE (R2): the five profile bytes; the level of TRACK ZERO, for a probe that then begins. -/
  | profileReadDone (v : DriveNo) (r : DmaRead) (trackZero : Bool)
  /-- LINK_READ_DONE (R118): the four bytes of the link. -/
  | linkReadDone (d : DeskNo) (r : DmaRead)
  /-- BLOCK_READ_DONE (R118): the 64 bytes of the block. -/
  | blockReadDone (d : DeskNo) (r : DmaRead)
  /-- TAKE (R120): the TAKEN write of the desk's next block ends. -/
  | take (d : DeskNo) (r : DmaWrite)
  /-- FETCH_DONE (R139): the bytes of the current track's part. -/
  | fetchDone (e : EntryNo) (r : DmaRead)
  /-- DELIVERY_DONE (R139). -/
  | deliveryDone (e : EntryNo) (r : DmaWrite)
  /-- LAYOUT_READ_DONE (R167): the 68 bytes of a supplied layout. -/
  | layoutReadDone (e : EntryNo) (r : DmaRead)
  /-- RESULT_WRITE_DONE (R116). -/
  | resultWriteDone (w : WriteRef) (r : DmaWrite)
  /-- DONE_WRITE_DONE (R116). -/
  | doneWriteDone (w : WriteRef) (r : DmaWrite)
  /-- DESK_ENTRY_WRITE_DONE (R112): the oldest outstanding entry write of the desk. -/
  | deskEntryWriteDone (d : DeskNo) (r : DmaWrite)
  /-- ARMING_TIME (R45). -/
  | armingTime (p : PortNo)
  /-- SIDE_SELECT_SET (R45). -/
  | sideSelectSet (p : PortNo)
  /-- ID_MARK_SEEN (R46): the signal over the 64 bit cells of the sync run and the 8 of the mark. -/
  | idMarkSeen (p : PortNo) (flux : List Flux)
  /-- ID_FIELD_END (R48): the signal over the 48 bit cells of the field, in its parts: the record bytes and the two CRC
  bytes. -/
  | idFieldEnd (p : PortNo) (record crcHigh crcLow : List Flux)
  /-- DATA_MARK_SEEN (R49): the signal over the 64 bit cells of the sync run, and over the 8 of the mark. -/
  | dataMarkSeen (p : PortNo) (sync mark : List Flux)
  /-- DATA_FIELD_END (R49): the signal over the bit cells of the field, in its parts: the N data bytes and the two CRC
  bytes. -/
  | dataFieldEnd (p : PortNo) (data crcHigh crcLow : List Flux)
  /-- DATA_MARK_TIMEOUT (R49). -/
  | dataMarkTimeout (p : PortNo)
  /-- HUNT_LIMIT (R48). -/
  | huntLimit (p : PortNo)
  /-- FLUX_LOSS (R47): the signal over the latest 64 bit cells. -/
  | fluxLoss (p : PortNo) (flux : List Flux)
  /-- GATE_OPEN_TIME (R54). -/
  | gateOpenTime (p : PortNo)
  /-- GATE_CLOSE (R54). -/
  | gateClose (p : PortNo)
  /-- DISCARD_RETRY (R168). -/
  | discardRetry (e : EntryNo)
  /-- FORMAT_ENTRY_STEP (R171). -/
  | formatEntryStep (e : EntryNo)
  /-- FORMAT_JOB_REPOST (R169, R172). -/
  | formatJobRepost (e : EntryNo)
  /-- DRIVE_RECORD_WRITE_DONE (R113, R114): the oldest outstanding record write of the drive. -/
  | driveRecordWriteDone (v : DriveNo) (r : DmaWrite)
  deriving DecidableEq, Repr

end Sys2Proof
end

