-- ==== Sys2Proof/Config.lean ====
section
/-! DEFINITION. The free values of the model: what the spec leaves open for every implementation. -/

namespace Sys2Proof

/-- The byte at an address of a frame's data area that nothing has written since power-on: "its bytes have no
meaning until a sector's state says it holds data" (R63). A free value: no body, nothing constrains it (log 5). -/
opaque Config.unwrittenByte : FrameNo → Nat → Byte

/-- The level of TRACK ZERO that Drive Control sees (R1) where no command has brought it since the last STEP pulse to
the drive: a free value of the drive and of the number of pulses given to it, since the arm moves by these alone (log
25). -/
opaque Config.trackZero : DriveNo → Nat → Bool

end Sys2Proof
end

