-- ==== Sys2Proof/Machine/State.lean ====
section
/-! DEFINITION. Everything the part holds, as plain data, and its value after power-on. Each type names the rule
of spec/ that gives it. -/

namespace Sys2Proof.Machine

open Sys2Proof

/-- Why a command stops the model. -/
inductive Fault where
  /-- Raised by a command that brings a list of bytes of another length than the transfer it ends
  (HEADER_READ_DONE, PROFILE_READ_DONE, LINK_READ_DONE, BLOCK_READ_DONE, LAYOUT_READ_DONE, FETCH_DONE). Such a
  command describes no event of the part. Safe (log 3). -/
  | wrongLength
  deriving DecidableEq, Repr

/-- Why the model has no meaning for a command. -/
inductive Refusal where
  /-- A command whose meaning is not modelled, by its mnemonic. No arm answers with it. Safe. -/
  | notModelled (mnemonic : String)
  deriving DecidableEq, Repr

/-- An addressed buffer or memory: (address, byte) cells with strictly rising addresses. An unlisted address
reads as nothing (log 4, 5). -/
abbrev Mem := List Host.Cell

/-! ### Controller Control -/

/-- The controller states (06, 6.1). -/
inductive CtlState where
  | stopped | starting | running | draining | shedding | safe | failed
  deriving DecidableEq, Repr

/-- The start-failure codes (06, 6.1). -/
inductive StartCode where
  | none | badMark | badDeskCount | badOverdue | headerBusError
  deriving DecidableEq, Repr

/-- The four values held from the Station Table header (R111). -/
structure Header where
  deskCount : Nat
  overdue : Nat
  snapshotInterval : Nat
  salvageFill : Byte
  deriving DecidableEq, Repr

/-- How far a start has come (R182). -/
inductive StartPhase where
  /-- No start is in progress. -/
  | idle
  /-- The header is being read. -/
  | readingHeader
  /-- The header has passed its checks; profiles are read and drives probed, or the start waits on the warning. -/
  | probing (h : Header)
  deriving DecidableEq, Repr

/-! ### Drive Control -/

/-- The drive states (01, 1.2). -/
inductive DriveState where
  | absent | empty | spinup | recal | discovery | ready | blank | formatting | fault
  deriving DecidableEq, Repr

/-- The cause field of a drive (01, 1.2). -/
inductive Cause where
  | none | speed | seek | drive | unformatted | mixed | gapped | illegal | incomplete
  deriving DecidableEq, Repr

/-- The held profile of a drive (R2), after clamping. -/
structure Profile where
  stepMs : Nat
  settleMs : Nat
  headLoadMs : Nat
  headIdleRevs : Nat
  enabled : Bool
  deriving DecidableEq, Repr

/-- What a profile read is for (R2). -/
inductive ReadPurpose where
  | start | probe | load
  deriving DecidableEq, Repr

/-- The head states (R12); LOADING carries its start stamp. -/
inductive Heads where
  | unloaded
  | loading (start : Word)
  | loaded
  deriving DecidableEq, Repr

/-- Where a probe's stepping stands (R3). -/
inductive ProbePhase where
  /-- TRACK ZERO was high; the inward pulse has been given. -/
  | inward
  /-- The outward pulse has been given; whether TRACK ZERO was low after the inward one. -/
  | back (wentLow : Bool)
  /-- TRACK ZERO was low; pulses are stepped outward. -/
  | outward
  deriving DecidableEq, Repr

/-- The arm of a drive: free, or what moves it and when the present wait ends (R3, R13, R14). -/
inductive Arm where
  | free
  | probe (phase : ProbePhase) (pulses : Nat) (due : Word)
  | probeSettle (due : Word)
  /-- A seek with `left` pulses still to give after this wait; `back` marks the seek back of a RECAL job. -/
  | seek (left : Nat) (due : Word) (back : Bool)
  | seekSettle (due : Word) (back : Bool)
  /-- A recalibration with `pulses` given; `back` is the cylinder a RECAL job seeks back to, none in bring-up. -/
  | recal (pulses : Nat) (due : Word) (back : Option Nat)
  | recalSettle (due : Word) (back : Option Nat)
  deriving DecidableEq, Repr

/-- The fault expiry of R10. -/
inductive Expiry where
  | none | armed | arrived
  deriving DecidableEq, Repr

/-- The lines of a drive that Drive Control watches and drives (01, 1.1). `trackZero` is the level of TRACK ZERO, none
where no command has brought it since the last STEP pulse; `steps` counts the STEP pulses driven: the model's own count
(log 25). -/
structure Lines where
  ready : Bool := false
  trackZero : Option Bool := some false
  writeProtect : Bool := false
  twoSided : Bool := false
  driveFault : Bool := false
  inward : Bool := false
  steps : Nat := 0
  deriving DecidableEq, Repr

/-! ### Layouts and the Rotation Timer -/

/-- Single or double density (01, 1.5). -/
inductive Density where
  | fm | mfm
  deriving DecidableEq, Repr

/-- A layout (01, 1.5). -/
structure Layout where
  density : Density
  sizeCode : Nat
  spt : Nat
  first : Nat
  g0 : Nat
  g3 : Nat
  map : List Nat
  deriving DecidableEq, Repr

/-- A Rotation Timer (02, 2.2). The slot table is computed from `active` (R34). -/
structure Timer where
  phi : Nat := 0
  prev : Option Word := none
  acc : Nat := 0
  rej : Nat := 0
  p16 : Option Nat := none
  noIndex : Option Word := none
  active : Option Layout := none
  staged : Option Layout := none
  deriving DecidableEq, Repr

/-! ### The Access Scheduler -/

/-- What a request, a candidate or a track job asks (R40, R93, R94). -/
inductive WorkKind where
  | read | write | check | formatTrack | discover | recal
  deriving DecidableEq, Repr

/-- Who posted a track job (R94). `gone` is a FORMAT that a restart ended (R174): its mark is set where that was a
diskette format, whose drive is left FORMATTING until the job's outcome. -/
inductive Requester where
  | driveControl
  | format (e : EntryNo)
  | channel
  | gone (formatting : Bool)
  deriving DecidableEq, Repr

/-- A track job (05, 5.1). `running` is set from CHANNEL GRANTED, or from a RECAL job's begin, to its end. -/
structure Job where
  kind : WorkKind
  cylinder : Nat
  head : Nat
  stamp : Word
  rush : Bool
  requester : Requester
  running : Bool
  density : Density
  fill : Byte
  deriving DecidableEq, Repr

/-- The scheduler states (05, 5.1). -/
inductive SchedState where
  | quiet | moving | filed | served | recalibrating
  deriving DecidableEq, Repr

/-- The identity of a candidate: cylinder, head and slot; no slot for a track job. -/
structure Place where
  cylinder : Nat
  head : Nat
  slot : Option Nat
  deriving DecidableEq, Repr

/-- An Access Scheduler (05, 5.1). `busy` lists the requesters answered JOB BUSY (R94). -/
structure Sched where
  state : SchedState := .quiet
  job : Option Job := none
  target : Option Place := none
  idle : Nat := 0
  hold : Bool := false
  busy : List Requester := []
  deriving DecidableEq, Repr

/-! ### Health Counters and the drive record -/

/-- The values a snapshot copies (R177). -/
structure Snapshot where
  counters : Vector Half 8
  overflow : BitVec 8
  candMark : Nat
  framesMark : Nat
  stamp : Word
  deriving DecidableEq, Repr

/-- The Health Counters of a drive (R175, R176, R178). -/
structure Health where
  counters : Vector Half 8 := Vector.replicate 8 0
  overflow : BitVec 8 := 0
  candMark : Nat := 0
  framesMark : Nat := 0
  snapshot : Option Snapshot := none
  deriving DecidableEq, Repr

/-- An outstanding DMA write of a record with the address and the bytes it carries (log 22). -/
structure PendingWrite where
  addr : Nat
  bytes : List Byte
  deriving DecidableEq, Repr

/-- An outstanding desk entry write (R112). `dropped` says that a bus error on it is no desk fault but drops it: the
write of a desk fault, a later one of a desk that stands HALTING or HALTED in that fault, or a write of the restart's
abandonment (R123, R128, log 22). -/
structure EntryWrite where
  addr : Nat
  bytes : List Byte
  dropped : Bool
  deriving DecidableEq, Repr

/-- An outstanding drive record write (R113). `change` is present when a change of state or cause made the write,
and says whether the change entered READY (R114). -/
structure RecordWrite where
  write : PendingWrite
  change : Option Bool
  deriving DecidableEq, Repr

/-- All that the part holds for one drive. -/
structure Drive where
  state : DriveState := .absent
  cause : Cause := .none
  incomplete : Bool := false
  layoutKnown : Bool := false
  generation : Half := 0
  cylinder : Nat := 0
  heads : Heads := .unloaded
  headCount : Nat := 1
  writeProtect : Bool := false
  faultStamp : Option Word := none
  expiry : Expiry := .none
  loadStamp : Option Word := none
  recalStopped : Bool := false
  profile : Option Profile := none
  profileReads : List ReadPurpose := []
  arm : Arm := .free
  revolution : Nat := 1
  lines : Lines := {}
  timer : Timer := {}
  sched : Sched := {}
  health : Health := {}
  recordWrites : List RecordWrite := []
  deriving DecidableEq, Repr

/-! ### The Data Channel and the Port Arbiter -/

/-- The channel states (03, 3.1). -/
inductive ChanState where
  | idle | selecting | armed | id | data | gate | trackWrite | listen
  deriving DecidableEq, Repr

/-- The sampling window of an attempt (R46, R51). -/
inductive Window where
  | centre | early | late
  deriving DecidableEq, Repr

/-- The attempt settings of the channel (03, 3.1): density, window, threshold in percent. -/
structure Settings where
  density : Density := .mfm
  window : Window := .centre
  threshold : Nat := 50
  deriving DecidableEq, Repr

/-- A request to the Port Arbiter, and the channel's current work once granted (R40). `slot` is 0 for a track job.
`attempt` is the attempt number, 0 until the attempt is begun (R50); `density` and `fill` are a track job's. -/
structure Request where
  drive : DriveNo
  kind : WorkKind
  cylinder : Nat
  head : Nat
  slot : Nat
  start : Word
  overdue : Bool
  rush : Bool
  attempt : Nat
  density : Density
  fill : Byte
  deriving DecidableEq, Repr

/-- An entry of the listen list (R59): the four record bytes and the mark time. -/
structure Heard where
  id : IdRecord
  mark : Nat
  deriving DecidableEq, Repr

/-- What the WRITE DATA line is to carry while a gate is open, or was to carry while it last was (R54, R57). -/
inductive Stream where
  | silent
  | sector (density : Density) (bytes : List Byte)
  | track (layout : Layout) (cylinder head : Nat) (fill : Byte)
  deriving DecidableEq, Repr

/-- A Data Channel with its Port Arbiter (03, 3.1). `opened` and `closed` are when a write gate last opened and last
closed. -/
structure Channel where
  state : ChanState := .idle
  work : Option Request := none
  burst : Nat := 0
  selected : Option (DriveNo × Nat) := none
  selectLine : Option DriveNo := none
  sideLine : Bool := false
  selectDue : Option Word := none
  settings : Settings := {}
  arming : Word := 0
  staging : List Byte := []
  captured : Word := 0
  listen : List Heard := []
  owedLow : Bool := false
  owedHigh : Bool := false
  reference : Nat := 0
  found : Option Word := none
  field : Option Nat := none
  opened : Word := 0
  closed : Word := 0
  stream : Stream := .silent
  acrossRestart : Bool := false
  pendLow : Option Request := none
  pendHigh : Option Request := none
  roundOpen : Bool := false
  deriving DecidableEq, Repr

/-! ### The Track Image Store -/

/-- The sector states (04, 4.2). -/
inductive SectorState where
  | absent | wanted | reading | valid | dirty | writing | checkDue | checking | bad | stranded
  deriving DecidableEq, Repr

/-- The cause of a stranding (R78). -/
inductive StrandCause where
  | write | check | fault
  deriving DecidableEq, Repr

/-- A sector record (04, 4.2). `cause` is the cause of the latest stranding (log 13). -/
structure Sector where
  state : SectorState
  number : Nat
  dataVer : Word
  writtenVer : Word
  settledVer : Word
  writtenCrc : Half
  stamp : Word
  rush : Bool
  attempts : Nat
  redirty : Bool
  verify : Bool
  check : Bool
  cause : StrandCause
  deriving DecidableEq, Repr

/-- The key of a frame (04, 4.1). -/
structure Key where
  drive : DriveNo
  cylinder : Nat
  head : Nat
  deriving DecidableEq, Repr

/-- A frame (04, 4.1). `sectors` and `slotMap` are indexed by slot. -/
structure Frame where
  held : Bool := false
  key : Key := ⟨0, 0, 0⟩
  generation : Half := 0
  density : Density := .mfm
  sizeCode : Nat := 0
  spt : Nat := 0
  first : Nat := 0
  slotMap : List Nat := []
  area : Mem := []
  uses : Nat := 0
  lru : Word := 0
  sectors : List Sector := []
  deriving DecidableEq, Repr

/-- A Frame Wait Queue entry (R84). -/
structure Waiting where
  order : EntryNo
  key : Key
  generation : Half
  stamp : Word
  stalled : Bool
  deriving DecidableEq, Repr

/-- A FORMAT's wait for FRAME QUIET on a frame (R168); `told` once FRAME QUIET was reported. -/
structure QuietWait where
  order : EntryNo
  frame : FrameNo
  told : Bool
  deriving DecidableEq, Repr

/-! ### Orders -/

/-- The order kinds (06, 6.3). -/
inductive Kind where
  | read | write | exchange | flush | discard | checkout | release | format | snapshot
  deriving DecidableEq, Repr

/-- The fields of an Order Block as read at the take (06, 6.3; R129). -/
structure OrderFields where
  kind : Byte
  options : Byte
  drive : Nat
  block : Nat
  count : Nat
  mode : Byte
  scope : Nat
  offset : Nat
  length : Nat
  buffer : Nat
  buffer2 : Nat
  deriving DecidableEq, Repr

/-- The completion codes (R154). -/
inductive Code where
  | ok | salvaged | badOrder | range | notReady | blank | writeProtected | locked | busy | tableFull | alreadyHeld
  | notHeld | inUse | hardRead | notFound | writeFault | verifyFail | trackOverrun | mediaChanged | abandoned
  | busError | discarded
  deriving DecidableEq, Repr

/-- The stages of an order (07, 7.1). A FORMAT whose supplied layout is still being read is in `check` (log 21). -/
inductive Stage where
  | check | frame | fetch | fill | deliver | settle | lock | job | finish
  deriving DecidableEq, Repr

/-- A run of blocks on a drive; `count` none is every block of the drive (R121, R162). -/
structure Extent where
  drive : Nat
  first : Nat
  count : Option Nat
  deriving DecidableEq, Repr

/-- An entry of an order's wait list (R129). One whose fill mark is set is waited for no more (R141, log 53). -/
structure Wanted where
  frame : FrameNo
  sector : Nat
  block : Nat
  found : Bool
  fill : Bool := false
  deriving DecidableEq, Repr

/-- The state of a target (R129), with the cause of a stranding. -/
inductive TargetState where
  | awaited
  | durable
  | stranded (cause : StrandCause)
  deriving DecidableEq, Repr

/-- An entry of an order's target list or FLUSH set (R129). -/
structure Target where
  frame : FrameNo
  drive : DriveNo
  sector : Nat
  block : Nat
  version : Word
  state : TargetState
  deriving DecidableEq, Repr

/-- The layout figures an order's blocks are mapped with (R22): sectors per track, first sector number, data bytes
per sector, head count. -/
structure Geometry where
  spt : Nat
  first : Nat
  size : Nat
  heads : Nat
  deriving DecidableEq, Repr

/-- Where a FORMAT stands (R167 to R172). -/
inductive FormatPhase where
  | none
  /-- The supplied layout is being read (R167). -/
  | readLayout
  /-- Track scope: the first discard is to be asked or is waiting (R169). -/
  | discard1
  /-- A FORMAT_TRACK job is pending or granted (R169, R172). -/
  | posted
  /-- The post was answered JOB BUSY (R169). -/
  | busy
  /-- JOB SLOT FREE was reported (R169). -/
  | slotFree
  /-- Track scope: the second discard is waiting; whether the job overran (R169). -/
  | discard2 (overrun : Bool)
  /-- Diskette scope: the drain set is followed (R170). -/
  | drain
  /-- Diskette scope: the entry step waits for FRAME QUIET (R171). -/
  | entry
  deriving DecidableEq, Repr

/-- How an order ended (R154), and the done stamp. -/
structure Result where
  code : Code
  detail : Nat
  stamp : Word
  deriving DecidableEq, Repr

/-- An order record (R129). The fields from `geometry` on are the model's bookkeeping of R22, R137, R162, R36,
R167 to R172 and R116. -/
structure Order where
  addr : Word
  desk : DeskNo
  fields : OrderFields
  generation : Half
  takeStamp : Word
  /-- The order of take among the orders of the table (R159). -/
  seq : Nat
  stage : Stage
  track : Option Nat := none
  frame : Option FrameNo := none
  staging : List Byte := []
  wait : List Wanted := []
  targets : List Target := []
  failure : Option (Code × Nat) := none
  highest : Nat := 0
  bytes : Nat := 0
  tracks : Nat := 0
  fillUsed : Option Nat := none
  geometry : Geometry := ⟨0, 0, 0, 0⟩
  wantsDue : Bool := false
  passed : Bool := false
  extent : Option Extent := none
  period : Option Nat := none
  phase : FormatPhase := .none
  layout : Option Layout := none
  result : Option Result := none
  resultWritten : Bool := false
  deriving DecidableEq, Repr

/-- An entry of the Active Order Table (R122, R129). -/
inductive Slot where
  | free
  | reserved (d : DeskNo)
  | order (o : Order)
  deriving DecidableEq, Repr

/-- The writes a restart left outstanding for one order (R128): the results, then DONE. `counts` until a start sets
the desks up afresh: while it is set, the DONE written moves the desk's done count (log 12). -/
structure Orphan where
  addr : Word
  desk : DeskNo
  bytes : List Byte
  resultWritten : Bool
  counts : Bool := true
  deriving DecidableEq, Repr

/-! ### Desks -/

/-- The desk states (06, 6.4). -/
inductive DeskState where
  | idle | fetching | halting | halted
  deriving DecidableEq, Repr

/-- The desk fault codes (06, 6.2). -/
inductive DeskFault where
  | none | badLink | busError
  deriving DecidableEq, Repr

/-- The holds of R121. -/
inductive Hold where
  | window | table | barrier | overlap
  deriving DecidableEq, Repr

/-- What a desk's look along its chain is doing (R118 to R121). -/
inductive Look where
  | none
  | link
  | block (addr : Word)
  | taking (addr : Word) (fields : OrderFields)
  | held (h : Hold)
  deriving DecidableEq, Repr

/-- A desk (06, 6.4). -/
structure Desk where
  state : DeskState := .halted
  fault : DeskFault := .none
  cursor : Option Word := none
  latch : Bool := false
  taken : Half := 0
  done : Half := 0
  inFlight : Nat := 0
  look : Look := .none
  entryWrites : List EntryWrite := []
  deriving DecidableEq, Repr

/-! ### The Lock Table -/

/-- The lock modes (R155). -/
inductive LockMode where
  | edit | share
  deriving DecidableEq, Repr

/-- A held lock (R155); its place in the list is its grant position. -/
structure Lock where
  drive : Nat
  first : Nat
  count : Nat
  mode : LockMode
  holders : List DeskNo
  deriving DecidableEq, Repr

/-- A Checkout Wait List entry (R160). -/
structure Waiter where
  order : EntryNo
  desk : DeskNo
  drive : Nat
  first : Nat
  count : Nat
  mode : LockMode
  deriving DecidableEq, Repr

/-! ### The whole part -/

/-- The state of the part. -/
structure State where
  g : Word := 0
  ctl : CtlState := .stopped
  run : Bool := false
  driveNotice : Bool := false
  startCode : StartCode := .none
  tableBase : Word := 0
  runBase : Word := 0
  notice : Word := 0
  noticeEnable : Word := 0
  warning : Bool := false
  start : StartPhase := .idle
  header : Option Header := none
  snapTimer : Option Word := none
  drives : Vector Drive 4 := Vector.replicate 4 {}
  channels : Vector Channel 2 := Vector.replicate 2 {}
  frames : Vector Frame 16 := Vector.replicate 16 {}
  fwq : List Waiting := []
  quiet : List QuietWait := []
  table : Vector Slot 32 := Vector.replicate 32 .free
  tableWait : List DeskNo := []
  desks : Vector Desk 16 := Vector.replicate 16 {}
  locks : List Lock := []
  waiters : List Waiter := []
  orphans : List Orphan := []
  mem : Mem := []
  /-- The commands waiting, first in, first out: the model's queue. -/
  pending : List Instr := []
  deriving DecidableEq, Repr

/-- The part right after power-on (R181), with every input line low and nothing waiting (log 15, 32). -/
def State.reset : State := {}

end Sys2Proof.Machine
end

