-- ==== Sys2Proof/Machine/Bits.lean ====
section
/-! DEFINITION. Byte order, the field check (CRC), addressed memory, and times on the global clock. -/

namespace Sys2Proof.Machine

open Sys2Proof

/-! ### Little-endian fields (00_scope.md, Conventions) -/

/-- The `n` little-endian bytes of `v`, the least significant first. -/
def leBytes : Nat → Nat → List Byte
  | 0, _ => []
  | n + 1, v => BitVec.ofNat 8 v :: leBytes n (v / 256)

/-- The number that little-endian bytes hold. -/
def leNat : List Byte → Nat
  | [] => 0
  | b :: bs => b.toNat + 256 * leNat bs

/-- The little-endian field of `n` bytes at `offset` of a record that was read. -/
def fieldAt (bytes : List Byte) (offset n : Nat) : Nat :=
  leNat ((bytes.drop offset).take n)

/-- The byte at `offset` of a record that was read. -/
def byteAt (bytes : List Byte) (offset : Nat) : Byte :=
  bytes.getD offset 0

/-! ### The cyclic check of a field (R17) -/

/-- One bit shift of the check register, generator x^16 + x^12 + x^5 + 1. -/
def crcShift (r : Half) : Half :=
  if r.msb then (r <<< 1) ^^^ 0x1021 else r <<< 1

/-- One byte into the check, most significant bit first. -/
def crcByte (r : Half) (b : Byte) : Half :=
  let x := r ^^^ ((b.setWidth 16) <<< 8)
  crcShift (crcShift (crcShift (crcShift (crcShift (crcShift (crcShift (crcShift x)))))))

/-- The check register after the bytes of a field, preset to all ones. -/
def crc (bytes : List Byte) : Half := bytes.foldl crcByte 0xFFFF

/-- The high CRC byte, recorded first. -/
def crcHigh (r : Half) : Byte := (r >>> 8).setWidth 8

/-- The low CRC byte. -/
def crcLow (r : Half) : Byte := r.setWidth 8

/-- A field, its bytes with the two recorded CRC bytes, is good when the register holds zero after it and its mark. -/
def fieldGood (mark : Byte) (field : List Byte) : Bool := crc (mark :: field) == 0

/-- The ID mark (01, 1.4). -/
def idMark : Byte := 0xC7

/-- The data mark (01, 1.4). -/
def dataMark : Byte := 0xCB

/-- Gap fill (01, 1.4). -/
def gapFill : Byte := 0xB4

/-- The record bytes of an ID field, in the order recorded (01, 1.4). -/
def idBytes (r : IdRecord) : List Byte := [r.cylinder, r.head, r.sector, r.size]

/-- The record that an ID field holds. -/
def idOf (field : List Byte) : IdRecord := ⟨field.getD 0 0, field.getD 1 0, field.getD 2 0, field.getD 3 0⟩

/-- The check of an ID field covers the mark and the four record bytes (R17). -/
def idGood (field : List Byte) : Bool := fieldGood idMark field

/-- The data CRC of a sector's bytes: the mark and the data (R17). -/
def dataCrc (bytes : List Byte) : Half := crc (dataMark :: bytes)

/-! ### Addressed memory -/

/-- The byte listed at an address, none where the address is unlisted. -/
def Mem.read : Mem → Nat → Option Byte
  | [], _ => none
  | (k, b) :: m, a => if a = k then some b else Mem.read m a

/-- Write one byte, keeping the addresses strictly rising. -/
def Mem.write : Mem → Nat → Byte → Mem
  | [], a, b => [(a, b)]
  | (k, x) :: m, a, b =>
    if a < k then (a, b) :: (k, x) :: m
    else if a = k then (a, b) :: m
    else (k, x) :: Mem.write m a b

/-- Write bytes at rising addresses from `a`. -/
def Mem.writeAll : Mem → Nat → List Byte → Mem
  | m, _, [] => m
  | m, a, b :: bs => Mem.writeAll (Mem.write m a b) (a + 1) bs

/-- Every address of the memory is above `k`. -/
def Mem.above (k : Nat) : Mem → Bool
  | [] => true
  | (a, _) :: m => k < a && Mem.above k m

/-- The canonical form: addresses strictly rising. An unlisted address reads as nothing, so no entry equals what
an unlisted address reads as. -/
def Mem.wf : Mem → Bool
  | [] => true
  | (a, _) :: m => Mem.above a m && Mem.wf m

/-- The bytes that a DMA write leaves written: all of them, or those before the access that failed (R116,
R139; of drive record writes, desk entry writes and an EXCHANGE's delivery the model's choice, log 76). -/
def writtenPart (r : DmaWrite) (bytes : List Byte) : List Byte :=
  match r with
  | .ok => bytes
  | .busError written => bytes.take written

/-! ### The global clock (R23, R24) -/

/-- The age of a stamp: (G - s) modulo 2^32 (R24). -/
def ageAt (g s : Word) : Nat := (g - s).toNat

/-- A time measured on G has been reached: every interval compared is shorter than 2^31 µs (00_scope.md). -/
def reached (g due : Word) : Bool := (g - due).toNat < 2 ^ 31

/-- The time `us` microseconds after `g`. -/
def later (g : Word) (us : Nat) : Word := g + BitVec.ofNat 32 us

/-- The age limit of stamps held for comparison, 2^30 µs (R24). -/
def ageLimit : Nat := 2 ^ 30

/-- A held stamp, advanced so that its age is at most the limit (R24). -/
def boundStamp (g s : Word) : Word :=
  if ageAt g s > ageLimit then g - BitVec.ofNat 32 ageLimit else s

/-- Version a is not older than version b: (a - b) modulo 2^32 is below 2^31 (R77). -/
def notOlder (a b : Word) : Bool := (a - b).toNat < 2 ^ 31

end Sys2Proof.Machine
end

