-- ==== Sys2Proof/Machine/Layout.lean ====
section
/-! DEFINITION. The track format, layouts, slots in time, layout discovery and block numbers (01, 1.4 to 1.7;
02, 2.4 to 2.6). -/

namespace Sys2Proof.Machine

open Sys2Proof

/-- The cylinders of a diskette (01). -/
def cylinders : Nat := 77

/-- The byte time in µs: 32 in FM, 16 in MFM (R16). -/
def Density.byteTime : Density → Nat
  | .fm => 32
  | .mfm => 16

/-- The data bytes per sector of a size code: 128 * 2^code (R16). -/
def sectorSize (code : Nat) : Nat := 128 * 2 ^ code

/-- N of a layout. -/
def Layout.size (l : Layout) : Nat := sectorSize l.sizeCode

/-- The byte time of a layout. -/
def Layout.bt (l : Layout) : Nat := l.density.byteTime

/-- The length of a slot in bytes, L = 37 + N + g3 (01, 1.4). -/
def Layout.slotLength (l : Layout) : Nat := 37 + l.size + l.g3

/-- The arming lead λ in µs (R34). -/
def armingLead : Nat := 200

/-- Slot start t_k, µs after index (R34). -/
def Layout.slotStart (l : Layout) (k : Nat) : Nat := (l.g0 + k * l.slotLength) * l.bt

/-- Start of slot k's ID mark (R34). -/
def Layout.idMarkTime (l : Layout) (k : Nat) : Nat := l.slotStart k + 8 * l.bt

/-- Start of slot k's data mark (R34). -/
def Layout.dataMarkTime (l : Layout) (k : Nat) : Nat := l.slotStart k + 34 * l.bt

/-- Arm time of slot k, t_k - λ (R34). -/
def Layout.armTime (l : Layout) (k : Nat) : Int := (l.slotStart k : Int) - (armingLead : Int)

/-- End of slot k (R34). -/
def Layout.slotEnd (l : Layout) (k : Nat) : Nat := l.slotStart k + l.slotLength * l.bt

/-- The end of the last slot, (g0 + spt * L) * bt (R34). -/
def Layout.lastSlotEnd (l : Layout) : Nat := (l.g0 + l.spt * l.slotLength) * l.bt

/-- The slot table derived when a layout becomes active (R34): for each slot its start, ID mark, data mark, arm time
and end. -/
def Layout.slotTable (l : Layout) : List (Nat × Nat × Nat × Int × Nat) :=
  (List.range l.spt).map fun k => (l.slotStart k, l.idMarkTime k, l.dataMarkTime k, l.armTime k, l.slotEnd k)

/-- The working period P = floor((P16 + 8) / 16) (R31). -/
def workingPeriod (p16 : Option Nat) : Option Nat := p16.map fun e => (e + 8) / 16

/-- The capacity check: g0 + spt * L within floor(P / bt) - 32 bytes; with no estimate no layout passes (R36). -/
def Layout.fitsTrack (l : Layout) (period : Option Nat) : Bool :=
  match period with
  | none => false
  | some p => l.g0 + l.spt * l.slotLength + 32 ≤ p / l.bt

/-- Every field of a layout lies in its range (R18 item 1). -/
def Layout.inRange (l : Layout) : Bool :=
  l.sizeCode ≤ 3 && 1 ≤ l.spt && l.spt ≤ 60 && l.first ≤ 255 && 16 ≤ l.g0 && l.g0 ≤ 80 && 8 ≤ l.g3 && l.g3 ≤ 80

/-- The interleave map is a permutation of first to first + spt - 1 (R18 item 2). -/
def Layout.mapOk (l : Layout) : Bool :=
  l.map.length == l.spt && (List.range l.spt).all fun i => l.map.count (l.first + i) == 1

/-- A layout is legal against a working period (R18). -/
def Layout.legal (l : Layout) (period : Option Nat) : Bool :=
  l.inRange && l.mapOk && l.spt * l.size ≤ 8192 && l.first + l.spt ≤ 256 && l.fitsTrack period

/-! ### Layout discovery (R20, R21) -/

/-- round(x / y), halves up (00_scope.md). -/
def roundDiv (x y : Nat) : Nat := (2 * x + y) / (2 * y)

/-- Clamp to a range. -/
def clamp (lo hi x : Nat) : Nat := max lo (min hi x)

/-- The IDs of cylinder 0 head 0: the others are left out before anything else is done (R20). -/
def ownHeard (heard : List Heard) : List Heard :=
  heard.filter fun h => h.id.cylinder == 0 && h.id.head == 0

/-- The sector numbers in the order heard (R21). -/
def heardNumbers (heard : List Heard) : List Nat := heard.map fun h => h.id.sector.toNat

/-- The layout fields concluded from a list that starts with `h0` (R21). -/
def concludedLayout (density : Density) (h0 : Heard) (heard : List Heard) : Layout :=
  let bt := density.byteTime
  let numbers := heardNumbers heard
  let spt := numbers.dedup.length
  let code := h0.id.size.toNat
  let mLast := (heard.getLastD h0).mark
  let lObs := roundDiv (mLast - h0.mark) ((spt - 1) * bt)
  { density := density
    sizeCode := code
    spt := spt
    first := numbers.foldl min h0.id.sector.toNat
    g0 := clamp 16 80 (roundDiv h0.mark bt - 8)
    g3 := if spt ≥ 2 then clamp 8 80 (lObs - 37 - sectorSize code) else 8
    map := numbers }

/-- The conclusion of a listening revolution: a legal layout, or the cause of BLANK, tested in the order of R21.
The list holds at least one ID of cylinder 0 head 0. -/
def concludeLayout (density : Density) (h0 : Heard) (heard : List Heard) (period : Option Nat) :
    Except Cause Layout :=
  let l := concludedLayout density h0 heard
  let numbers := heardNumbers heard
  if heard.any (fun h => h.id.size != h0.id.size) then .error .mixed
  else if numbers.dedup.length != numbers.length then .error .illegal
  else if !((List.range l.spt).all fun i => numbers.contains (l.first + i)) then .error .gapped
  else if !l.legal period then .error .illegal
  else .ok l

/-! ### Block numbers (R22) -/

/-- The track of a block: b div spt. -/
def Geometry.track (geo : Geometry) (b : Nat) : Nat := b / geo.spt

/-- The cylinder of a track: t div hc. -/
def Geometry.cylinder (geo : Geometry) (t : Nat) : Nat := t / geo.heads

/-- The head of a track: t mod hc. -/
def Geometry.head (geo : Geometry) (t : Nat) : Nat := t % geo.heads

/-- The sector number of a block: first + b mod spt. -/
def Geometry.sector (geo : Geometry) (b : Nat) : Nat := geo.first + b % geo.spt

/-- The block of a sector number on a track. -/
def Geometry.blockOf (geo : Geometry) (t sector : Nat) : Nat := t * geo.spt + (sector - geo.first)

/-- The geometry of a layout on a diskette of `heads` heads. -/
def Layout.geometry (l : Layout) (heads : Nat) : Geometry :=
  { spt := l.spt, first := l.first, size := l.size, heads := heads }

/-- The blocks of a drive: 77 * hc * spt (R22). -/
def Layout.blocks (l : Layout) (heads : Nat) : Nat := cylinders * heads * l.spt

/-! ### What the part records (R16, R54, R57) -/

/-- A byte as it is recorded: a mark has its clock exception (R16). -/
structure Recorded where
  byte : Byte
  clockException : Bool := false
  deriving DecidableEq, Repr

/-- Bytes recorded plainly. -/
def plain (bytes : List Byte) : List Recorded := bytes.map fun b => { byte := b }

/-- A sync run and the mark behind it (R16). -/
def syncAndMark (mark : Byte) : List Recorded := plain (List.replicate 8 0) ++ [⟨mark, true⟩]

/-- A data field: sync, data mark, data, CRC high byte first (01, 1.4). -/
def dataStream (bytes : List Byte) : List Recorded :=
  let r := dataCrc bytes
  syncAndMark dataMark ++ plain (bytes ++ [crcHigh r, crcLow r])

/-- What a sector write records: the data field and one byte of gap fill (R54). -/
def sectorStream (bytes : List Byte) : List Recorded := dataStream bytes ++ plain [gapFill]

/-- One slot of a track write (R57). -/
def slotStream (l : Layout) (cylinder head sector : Nat) (fill : Byte) : List Recorded :=
  let id : IdRecord := ⟨BitVec.ofNat 8 cylinder, BitVec.ofNat 8 head, BitVec.ofNat 8 sector, BitVec.ofNat 8 l.sizeCode⟩
  let r := crc (idMark :: idBytes id)
  syncAndMark idMark ++ plain (idBytes id ++ [crcHigh r, crcLow r] ++ List.replicate 11 gapFill)
    ++ dataStream (List.replicate l.size fill) ++ plain (List.replicate l.g3 gapFill)

/-- The slots of a track write, from the index to the end of the last slot (R57). -/
def slotsStream (l : Layout) (cylinder head : Nat) (fill : Byte) : List Recorded :=
  plain (List.replicate l.g0 gapFill) ++ (l.map.map fun n => slotStream l cylinder head n fill).flatten

/-- The first `n` bytes of a track write: the slots, then gap fill for as long as the write lasts (R16, R57). -/
def trackStream (l : Layout) (cylinder head : Nat) (fill : Byte) (n : Nat) : List Recorded :=
  let slots := slotsStream l cylinder head fill
  (slots ++ plain (List.replicate (n - slots.length) gapFill)).take n

/-- The byte time of what the gate records. -/
def Stream.byteTime : Stream → Nat
  | .silent => 0
  | .sector density _ => density.byteTime
  | .track l _ _ _ => l.bt

/-- What the WRITE DATA line has carried in the first `n` byte times of an open gate (R54, R57). A gate closed before its
time cuts the stream short (R55, R58). -/
def Stream.recorded : Stream → Nat → List Recorded
  | .silent, _ => []
  | .sector _ bytes, n => (sectorStream bytes).take n
  | .track l c h fill, n => trackStream l c h fill n

end Sys2Proof.Machine
end

