-- ==== Sys2Proof/Machine/Operands.lean ====
section
/-! DEFINITION. The records the part reads from cluster memory (header, profile, link, Order Block, supplied
layout), order kinds and options, extents, and the part of an order's range on one track. -/

namespace Sys2Proof.Machine

open Sys2Proof

/-- The end of the memory that links and buffers may name: 16 MiB (06, 6.3; R131). -/
def memoryLimit : Nat := 0x1000000

/-! ### Header and profile -/

/-- The table mark (06, 6.2). -/
def tableMark : Nat := 0x4E42

/-- The check of a header in the order of R182: mark, desk count, overdue limit. -/
def checkHeader (b : List Byte) : Except StartCode Header :=
  let h : Header :=
    { deskCount := (byteAt b 2).toNat
      overdue := (byteAt b 3).toNat
      snapshotInterval := (byteAt b 4).toNat
      salvageFill := byteAt b 5 }
  if fieldAt b 0 2 ≠ tableMark then .error .badMark
  else if ¬ (1 ≤ h.deskCount ∧ h.deskCount ≤ 16) then .error .badDeskCount
  else if ¬ (1 ≤ h.overdue ∧ h.overdue ≤ 50) then .error .badOverdue
  else .ok h

/-- The profile held from the five profile bytes: each value clamped to its range, enable 0 is disabled (R2). -/
def profileOf (b : List Byte) : Profile :=
  { stepMs := clamp 2 8 (byteAt b 1).toNat
    settleMs := clamp 5 50 (byteAt b 2).toNat
    headLoadMs := clamp 10 80 (byteAt b 3).toNat
    headIdleRevs := (byteAt b 4).toNat
    enabled := byteAt b 0 != 0 }

/-! ### Links and Order Blocks -/

/-- A link passes its tests: 16-byte aligned and below 16 MiB (R118). -/
def linkOk (link : Nat) : Bool := link % 16 == 0 && link < memoryLimit

/-- The state byte POSTED (06, 6.3). -/
def blockPosted (b : List Byte) : Bool := byteAt b 4 == 1

/-- The fields of an Order Block as read (06, 6.3). -/
def orderFieldsOf (b : List Byte) : OrderFields :=
  { kind := byteAt b 5
    options := byteAt b 6
    drive := (byteAt b 7).toNat
    block := fieldAt b 8 4
    count := fieldAt b 12 2
    mode := byteAt b 14
    scope := (byteAt b 15).toNat
    offset := fieldAt b 16 4
    length := fieldAt b 20 4
    buffer := fieldAt b 24 4
    buffer2 := fieldAt b 28 4 }

/-- The kind code of an Order Block (06, 6.3). -/
def kindOf (k : Byte) : Option Kind :=
  if k = 1 then some .read
  else if k = 2 then some .write
  else if k = 3 then some .exchange
  else if k = 4 then some .flush
  else if k = 5 then some .discard
  else if k = 6 then some .checkout
  else if k = 7 then some .release
  else if k = 8 then some .format
  else if k = 9 then some .snapshot
  else none

/-- The kind of an order. -/
def OrderFields.kind? (f : OrderFields) : Option Kind := kindOf f.kind

/-- Option NOTIFY, bit 0. -/
def OrderFields.notify (f : OrderFields) : Bool := f.options.getLsbD 0
/-- Option RUSH, bit 1. -/
def OrderFields.rush (f : OrderFields) : Bool := f.options.getLsbD 1
/-- Option BARRIER, bit 2. -/
def OrderFields.barrier (f : OrderFields) : Bool := f.options.getLsbD 2
/-- Option VERIFY, bit 3. -/
def OrderFields.verify (f : OrderFields) : Bool := f.options.getLsbD 3
/-- Option EARLY, bit 4. -/
def OrderFields.early (f : OrderFields) : Bool := f.options.getLsbD 4
/-- Option SALVAGE, bit 5. -/
def OrderFields.salvage (f : OrderFields) : Bool := f.options.getLsbD 5
/-- Option FRESH, bit 6. -/
def OrderFields.fresh (f : OrderFields) : Bool := f.options.getLsbD 6
/-- Option WAIT, bit 7. -/
def OrderFields.waits (f : OrderFields) : Bool := f.options.getLsbD 7

/-- The options each kind allows, NOTIFY and BARRIER among them (R131). -/
def allowedOptions : Kind → Byte
  | .read => 0b01100111
  | .write => 0b00011111
  | .exchange => 0b00101111
  | .flush | .discard | .snapshot => 0b00000101
  | .checkout => 0b10000101
  | .release => 0b00000101
  | .format => 0b00000111

/-- The kinds that write, for the overlap hold and the Lock Table (R121, R162). -/
def Kind.writes : Kind → Bool
  | .write | .exchange | .format => true
  | _ => false

/-- Whether an order covers all drives: FLUSH, SNAPSHOT (R131) or RELEASE (R157, R163) of scope 1. -/
def OrderFields.allDrives (f : OrderFields) : Bool :=
  match f.kind? with
  | some .flush | some .snapshot | some .release => f.scope == 1
  | _ => false

/-- Whether a kind reads the drive field (R131, R157). -/
def OrderFields.readsDrive (f : OrderFields) : Bool :=
  match f.kind? with
  | some .flush | some .snapshot => f.scope == 0
  | some .release => f.scope == 0
  | some _ => true
  | none => false

/-- A FORMAT writes one track in scopes 0 and 2 (9.1). -/
def OrderFields.trackScope (f : OrderFields) : Bool := f.scope == 0 || f.scope == 2

/-- A FORMAT supplies a layout in scopes 2 and 3 (9.1). -/
def OrderFields.suppliesLayout (f : OrderFields) : Bool := f.scope == 2 || f.scope == 3

/-- The count test: 1 to 64. -/
def countOk (n : Nat) : Bool := 1 ≤ n && n ≤ 64

/-! ### Extents -/

/-- Two extents overlap: the same drive and a shared block (R121, R155). With `every block of the drive` any extent on that
drive shares a block, one beyond the present capacity too (the model's choice, log 63). -/
def Extent.overlaps (a b : Extent) : Bool :=
  a.drive == b.drive &&
    (match a.count, b.count with
     | none, none => true
     | none, some n => 0 < n
     | some n, none => 0 < n
     | some n, some m => a.first < b.first + m && b.first < a.first + n)

/-- The first block of an extent: 0 where it is every block of the drive (R159). -/
def Extent.firstBlock (a : Extent) : Nat :=
  match a.count with
  | none => 0
  | some _ => a.first

/-- The extent R162 gives a FORMAT. `known` is the active layout's geometry while the drive's layout-known mark is
set. The track of scope 0 or 2 is the block field. -/
def formatExtent (f : OrderFields) (known : Option Geometry) : Extent :=
  match known with
  | some geo =>
    if f.trackScope then { drive := f.drive, first := f.block * geo.spt, count := some geo.spt }
    else { drive := f.drive, first := 0, count := none }
  | none => { drive := f.drive, first := 0, count := none }

/-- The extent of a block for the overlap hold (R121). -/
def OrderFields.extent (f : OrderFields) (known : Option Geometry) : Option Extent :=
  if ¬ countOk f.count ∧ ¬ (f.kind? = some .release ∧ f.scope = 1) then none
  else
    match f.kind? with
    | some .read | some .write | some .checkout => some ⟨f.drive, f.block, some f.count⟩
    | some .release => if f.scope = 1 then none else some ⟨f.drive, f.block, some f.count⟩
    | some .exchange => some ⟨f.drive, f.block, some 1⟩
    | some .discard => some ⟨f.drive, 0, none⟩
    | some .format => some (formatExtent f known)
    | some .flush | some .snapshot | none => none

/-! ### A supplied layout (9.1) -/

/-- The 68 bytes of a supplied layout; entries of the map beyond spt are not read. A density byte other than 0 or 1,
like every other field out of its range, makes it fail the legality check (R18, R167). -/
def suppliedLayout (b : List Byte) : Option Layout :=
  let spt := (byteAt b 2).toNat
  let fields (d : Density) : Layout :=
    { density := d
      sizeCode := (byteAt b 1).toNat
      spt := spt
      first := (byteAt b 3).toNat
      g0 := (byteAt b 4).toNat
      g3 := (byteAt b 5).toNat
      map := (((b.drop 8).take 60).take spt).map BitVec.toNat }
  if byteAt b 0 = 0 then some (fields .fm)
  else if byteAt b 0 = 1 then some (fields .mfm)
  else none

/-! ### The range of an order and its parts (R134) -/

/-- The bytes of an order's whole run. -/
def runLength (f : OrderFields) (size : Nat) : Nat := f.count * size

/-- The first run byte of the range. For EXCHANGE the range is its one block. -/
def rangeFirst (f : OrderFields) : Nat := if f.kind? = some .exchange then 0 else f.offset

/-- The bytes of the range: the byte length, or the whole run when it is 0 (R131). -/
def rangeLength (f : OrderFields) (size : Nat) : Nat :=
  if f.kind? = some .exchange then size
  else if f.length = 0 then runLength f size
  else f.length

/-- A track's part of an order's range: the track, its first and end run byte. -/
structure Part where
  track : Nat
  lo : Nat
  hi : Nat
  deriving DecidableEq, Repr

/-- The track's part of the range (R134): the run bytes of the range that lie in the track's blocks. -/
def partOn (f : OrderFields) (geo : Geometry) (t : Nat) : Part :=
  let first := rangeFirst f
  { track := t
    lo := max first ((t * geo.spt - f.block) * geo.size)
    hi := min (first + rangeLength f geo.size) (((t + 1) * geo.spt - f.block) * geo.size) }

/-- The first track of the range. -/
def firstTrack (f : OrderFields) (geo : Geometry) : Nat :=
  geo.track (f.block + rangeFirst f / geo.size)

/-- The last track of the range. -/
def lastTrack (f : OrderFields) (geo : Geometry) : Nat :=
  geo.track (f.block + (rangeFirst f + rangeLength f geo.size - 1) / geo.size)

/-- The first block of a part. -/
def Part.firstBlock (p : Part) (f : OrderFields) (geo : Geometry) : Nat := f.block + p.lo / geo.size

/-- The blocks a part touches, ascending. -/
def Part.blocks (p : Part) (f : OrderFields) (geo : Geometry) : List Nat :=
  let first := f.block + p.lo / geo.size
  let last := f.block + (p.hi - 1) / geo.size
  (List.range (last + 1 - first)).map fun i => first + i

/-- A part's bytes in the frame's data area start here (R63): run byte lo lies at byte lo mod N of its block. -/
def Part.areaStart (p : Part) (f : OrderFields) (geo : Geometry) : Nat :=
  f.block * geo.size + p.lo - p.track * geo.spt * geo.size

/-- The bytes of a part. -/
def Part.length (p : Part) : Nat := p.hi - p.lo

/-- The blocks of a part that the range covers only partly (R137): at most the first and the last. -/
def Part.partialBlocks (p : Part) (f : OrderFields) (geo : Geometry) : List Nat :=
  (p.blocks f geo).filter fun b =>
    (b - f.block) * geo.size < p.lo || p.hi < (b - f.block + 1) * geo.size

/-- The cluster memory address of a part's first byte: buffer + (lo - byte offset) (R134). -/
def Part.bufferAddr (p : Part) (f : OrderFields) : Nat := f.buffer + (p.lo - rangeFirst f)

end Sys2Proof.Machine
end

