-- ==== Sys2Proof/Machine/Flags.lean ====
section
/-! DEFINITION. Codes and bits the cluster processor sees: the registers, NOTICE and INTERRUPT, the completion codes,
the bytes of drive records, desk entries and results, and the saturating counters. -/

namespace Sys2Proof.Machine

open Sys2Proof

/-! ### Codes -/

/-- The controller state code of STATUS (06, 6.1). -/
def CtlState.code : CtlState → Nat
  | .stopped => 0 | .starting => 1 | .running => 2 | .draining => 3 | .shedding => 4 | .safe => 5 | .failed => 6

/-- The start-failure code of STATUS (06, 6.1). -/
def StartCode.code : StartCode → Nat
  | .none => 0 | .badMark => 1 | .badDeskCount => 2 | .badOverdue => 3 | .headerBusError => 4

/-- The drive state code of a drive record (06, 6.2). -/
def DriveState.code : DriveState → Nat
  | .absent => 0 | .empty => 1 | .spinup => 2 | .recal => 3 | .discovery => 4 | .ready => 5 | .blank => 6
  | .formatting => 7 | .fault => 8

/-- The cause code of a drive record (06, 6.2). -/
def Cause.code : Cause → Nat
  | .none => 0 | .speed => 1 | .seek => 2 | .drive => 3 | .unformatted => 4 | .mixed => 5 | .gapped => 6
  | .illegal => 7 | .incomplete => 8

/-- The desk state code of a desk entry (06, 6.2). -/
def DeskState.code : DeskState → Nat
  | .idle => 0 | .fetching => 1 | .halting => 2 | .halted => 3

/-- The fault code of a desk entry (06, 6.2). -/
def DeskFault.code : DeskFault → Nat
  | .none => 0 | .badLink => 1 | .busError => 2

/-- The completion codes (R154). -/
def Code.code : Code → Nat
  | .ok => 0x00 | .salvaged => 0x01 | .badOrder => 0x10 | .range => 0x11 | .notReady => 0x12 | .blank => 0x13
  | .writeProtected => 0x14 | .locked => 0x15 | .busy => 0x16 | .tableFull => 0x17 | .alreadyHeld => 0x18
  | .notHeld => 0x19 | .inUse => 0x1A | .hardRead => 0x20 | .notFound => 0x21 | .writeFault => 0x22
  | .verifyFail => 0x23 | .trackOverrun => 0x24 | .mediaChanged => 0x30 | .abandoned => 0x31 | .busError => 0x32
  | .discarded => 0x33

/-! ### NOTICE and INTERRUPT (R110) -/

/-- The bits of NOTICE and NOTICE_ENABLE that the table of 6.1 names: 0 to 24. -/
def noticeMask : Word := 0x01FFFFFF

/-- DESK_DONE of a desk, bits 0 to 15. -/
def deskDoneBit (d : DeskNo) : Nat := d.val
/-- DRIVE_CHANGE of a drive, bits 16 to 19. -/
def driveChangeBit (v : DriveNo) : Nat := 16 + v.val
/-- DESK_FAULT, bit 20. -/
def deskFaultBit : Nat := 20
/-- STALL, bit 21. -/
def stallBit : Nat := 21
/-- SNAPSHOT, bit 22. -/
def snapshotBit : Nat := 22
/-- SAFE, bit 23. -/
def safeBit : Nat := 23
/-- START_FAIL, bit 24. -/
def startFailBit : Nat := 24

/-- The mask of one bit of a register. -/
def bitMask (i : Nat) : Word := (1 : Word) <<< i

/-- INTERRUPT is asserted while NOTICE and NOTICE_ENABLE have a bit in common (R110). -/
def State.interrupt (s : State) : Bool := (s.notice &&& s.noticeEnable) != 0

/-! ### The register window (06, 6.1) -/

/-- The value of CONTROL: RUN in bit 0, RESTART reads 0, DRIVE_NOTICE in bit 2 (R108). -/
def State.controlWord (s : State) : Word :=
  (if s.run then 1 else 0) ||| (if s.driveNotice then 4 else 0)

/-- The value of STATUS: the controller state in bits 0 to 2, the start-failure code in bits 8 to 15 (R108). -/
def State.statusWord (s : State) : Word :=
  BitVec.ofNat 32 (s.ctl.code + 256 * s.startCode.code)

/-- The bits of TABLE_BASE that a write can set: 8 to 23 (R109). -/
def tableBaseMask : Word := 0x00FFFF00

/-- The word that the register at a word offset of the window reads (6.1, R107). -/
def State.readRegister (s : State) (offset : Nat) : Word :=
  if offset = 0x00 then 0x48280003
  else if offset = 0x04 then s.controlWord
  else if offset = 0x08 then s.statusWord
  else if offset = 0x0C then s.tableBase
  else if offset = 0x14 then s.notice
  else if offset = 0x18 then s.noticeEnable
  else 0

/-- The byte that the window reads at a byte offset: a read of fewer than four bytes returns the bytes addressed
(R107), the least significant byte at the lowest address. -/
def State.readWindowByte (s : State) (offset : Nat) : Byte :=
  ((s.readRegister (offset / 4 * 4)) >>> (8 * (offset % 4))).setWidth 8

/-! ### Saturating counters (R175) -/

/-- The counter indexes of 10.1. -/
inductive Counter where
  | softRead | hardRead | fluxLoss | seekError | writeRetry | writeFail | speedReject | recal
  deriving DecidableEq, Repr

/-- The position of a counter in the record (10.1). -/
def Counter.index : Counter → Fin 8
  | .softRead => 0 | .hardRead => 1 | .fluxLoss => 2 | .seekError => 3 | .writeRetry => 4 | .writeFail => 5
  | .speedReject => 6 | .recal => 7

/-- One event at a counter: below 65,535 it increases by 1; at 65,535 it stays and its overflow flag is set
(R175). -/
def Health.count (h : Health) (c : Counter) : Health :=
  let x := h.counters[c.index.val]
  if x = 0xFFFF then { h with overflow := h.overflow ||| ((1 : BitVec 8) <<< c.index.val) }
  else { h with counters := h.counters.set c.index.val (x + 1) }

/-- Raise the two high-water marks to the present counts where these lie above them (R176). -/
def Health.raise (h : Health) (cands frames : Nat) : Health :=
  { h with candMark := max h.candMark cands, framesMark := max h.framesMark frames }

/-- The snapshot of R177: copy, clear, and set the marks to the present counts. -/
def Health.take (h : Health) (g : Word) (cands frames : Nat) : Health :=
  { counters := Vector.replicate 8 0
    overflow := 0
    candMark := cands
    framesMark := frames
    snapshot := some
      { counters := h.counters, overflow := h.overflow, candMark := h.candMark, framesMark := h.framesMark
        stamp := g } }

/-! ### Records written to cluster memory -/

/-- The address of a desk entry's part-written bytes (06, 6.2). -/
def deskEntryAddr (base : Word) (d : DeskNo) : Nat := base.toNat + 0x40 + 16 * d.val + 4

/-- The part-written bytes 0x04 to 0x0E of a desk entry (R112). -/
def Desk.entryBytes (k : Desk) : List Byte :=
  leBytes 4 (k.cursor.getD 0).toNat ++ leBytes 1 k.state.code ++ leBytes 1 k.fault.code
    ++ leBytes 2 k.taken.toNat ++ leBytes 2 k.done.toNat ++ leBytes 1 k.inFlight

/-- The address of a drive record's part-written bytes (06, 6.2). -/
def driveRecordAddr (base : Word) (v : DriveNo) : Nat := base.toNat + 0x140 + 128 * v.val + 8

/-- The six layout bytes 0x10 to 0x15 of a drive record; 0 with no active layout (log 16). -/
def layoutBytes : Option Layout → List Byte
  | none => List.replicate 6 0
  | some l =>
    leBytes 1 (match l.density with | .fm => 0 | .mfm => 1) ++ leBytes 1 l.sizeCode ++ leBytes 1 l.spt
      ++ leBytes 1 l.first ++ leBytes 1 l.g0 ++ leBytes 1 l.g3

/-- The 60 interleave map bytes of a drive record; entries beyond spt are 0 (06, 6.2). -/
def mapBytes : Option Layout → List Byte
  | none => List.replicate 60 0
  | some l => ((l.map.map (BitVec.ofNat 8)) ++ List.replicate 60 0).take 60

/-- The snapshot fields of a drive record from 0x5C: the held snapshot values, 0 before the first (R113, R178). -/
def snapshotBytes (h : Health) : List Byte :=
  match h.snapshot with
  | none => List.replicate 20 0
  | some p =>
    (p.counters.toList.map fun c => leBytes 2 c.toNat).flatten ++ [p.overflow] ++ leBytes 1 p.framesMark
      ++ leBytes 2 p.candMark

/-- The part-written bytes 0x08 to 0x6F of a drive record (R113). -/
def Drive.recordBytes (d : Drive) (stranded : Nat) : List Byte :=
  leBytes 1 d.state.code ++ leBytes 1 d.cause.code ++ leBytes 2 d.generation.toNat ++ leBytes 1 d.headCount
    ++ leBytes 1 (if d.writeProtect then 1 else 0) ++ leBytes 1 d.cylinder
    ++ leBytes 1 (if d.layoutKnown then 1 else 0) ++ layoutBytes d.timer.active ++ leBytes 2 stranded
    ++ leBytes 4 ((workingPeriod d.timer.p16).getD 0)
    ++ leBytes 4 (match d.health.snapshot with | none => 0 | some p => p.stamp.toNat)
    ++ mapBytes d.timer.active ++ snapshotBytes d.health

/-- The result fields 0x20 to 0x37 of an Order Block (R116). The generation and the two stamps are written for every
order as R154 states, a granted CHECKOUT and a RELEASE among them (log 52). -/
def Order.resultBytes (o : Order) (r : Result) : List Byte :=
  leBytes 1 r.code.code ++ leBytes 1 o.highest ++ leBytes 2 o.generation.toNat ++ leBytes 4 r.detail
    ++ leBytes 4 o.bytes ++ leBytes 4 o.tracks ++ leBytes 4 o.takeStamp.toNat ++ leBytes 4 r.stamp.toNat

end Sys2Proof.Machine
end

