-- ==== Sys2Proof/Machine/Ops.lean ====
section
/-! DEFINITION. The shared operations over the state: the step context, drives and their records, desks and their
entries, frames, order records, and the end of an order up to the Lock Table's part. -/

namespace Sys2Proof.Machine

open Sys2Proof

/-! ### The step context -/

/-- The state inside one command, with the reports still to be taken before the command ends (log 6):
`serve`, the Frame Wait Queue is to be served (R85); `picks`, the drives for which a pick point came (R99);
`rounds`, the ports whose channel has returned to IDLE with a release round (R41). -/
structure Ctx extends State where
  serve : Bool := false
  picks : List DriveNo := []
  rounds : List PortNo := []
  deriving DecidableEq, Repr

/-- A context at the start of a command. -/
def Ctx.of (s : State) : Ctx := { toState := s }

/-! ### Access to the parts of the state -/

/-- The record of a drive. -/
def State.drive (s : State) (v : DriveNo) : Drive := s.drives[v.val]
/-- The channel of a port. -/
def State.chan (s : State) (p : PortNo) : Channel := s.channels[p.val]
/-- A frame. -/
def State.frame (s : State) (f : FrameNo) : Frame := s.frames[f.val]
/-- A desk. -/
def State.desk (s : State) (d : DeskNo) : Desk := s.desks[d.val]
/-- An entry of the Active Order Table. -/
def State.slot (s : State) (e : EntryNo) : Slot := s.table[e.val]

/-- The order in an entry, if it holds one. -/
def State.order? (s : State) (e : EntryNo) : Option Order :=
  match s.slot e with
  | .order o => some o
  | _ => none

/-- Replace a drive's record. -/
def Ctx.setDrive (c : Ctx) (v : DriveNo) (d : Drive) : Ctx := { c with drives := c.drives.set v.val d }
/-- Change a drive's record. -/
def Ctx.modDrive (c : Ctx) (v : DriveNo) (k : Drive → Drive) : Ctx := c.setDrive v (k (c.drive v))
/-- Replace a channel. -/
def Ctx.setChan (c : Ctx) (p : PortNo) (h : Channel) : Ctx := { c with channels := c.channels.set p.val h }
/-- Change a channel. -/
def Ctx.modChan (c : Ctx) (p : PortNo) (k : Channel → Channel) : Ctx := c.setChan p (k (c.chan p))
/-- Replace a desk. -/
def Ctx.setDesk (c : Ctx) (d : DeskNo) (k : Desk) : Ctx := { c with desks := c.desks.set d.val k }
/-- Change a desk. -/
def Ctx.modDesk (c : Ctx) (d : DeskNo) (k : Desk → Desk) : Ctx := c.setDesk d (k (c.desk d))
/-- Replace a table entry. -/
def Ctx.setSlot (c : Ctx) (e : EntryNo) (x : Slot) : Ctx := { c with table := c.table.set e.val x }
/-- Replace an order record. -/
def Ctx.setOrder (c : Ctx) (e : EntryNo) (o : Order) : Ctx := c.setSlot e (.order o)

/-- Change the order in an entry, if it holds one. -/
def Ctx.modOrder (c : Ctx) (e : EntryNo) (k : Order → Order) : Ctx :=
  match c.order? e with
  | some o => c.setOrder e (k o)
  | none => c

/-- Change the scheduler of a drive. -/
def Ctx.modSched (c : Ctx) (v : DriveNo) (k : Sched → Sched) : Ctx :=
  c.modDrive v fun d => { d with sched := k d.sched }

/-- Change the timer of a drive. -/
def Ctx.modTimer (c : Ctx) (v : DriveNo) (k : Timer → Timer) : Ctx :=
  c.modDrive v fun d => { d with timer := k d.timer }

/-- Do something for each order entry in turn, in entry order. -/
def Ctx.forEntries (c : Ctx) (k : EntryNo → Ctx → Ctx) : Ctx :=
  (List.finRange 32).foldl (fun c e => k e c) c

/-- Do something for each drive in turn, in drive order. -/
def Ctx.forDrives (c : Ctx) (k : DriveNo → Ctx → Ctx) : Ctx :=
  (List.finRange 4).foldl (fun c v => k v c) c

/-- Do something for each desk in turn, in desk order. -/
def Ctx.forDesks (c : Ctx) (k : DeskNo → Ctx → Ctx) : Ctx :=
  (List.finRange 16).foldl (fun c d => k d c) c

/-- Do something for each frame in turn, in frame order. -/
def Ctx.forFrames (c : Ctx) (k : FrameNo → Ctx → Ctx) : Ctx :=
  (List.finRange 16).foldl (fun c f => k f c) c

/-- The port of a drive (R1). -/
def portOf (v : DriveNo) : PortNo := if v.val < 2 then 0 else 1

/-- The lower-numbered drive of a port. -/
def lowDrive (p : PortNo) : DriveNo := if p = 0 then 0 else 2

/-- The higher-numbered drive of a port. -/
def highDrive (p : PortNo) : DriveNo := if p = 0 then 1 else 3

/-- A drive is the lower one of its port. -/
def isLow (v : DriveNo) : Bool := v.val % 2 == 0

/-- The arbiter's pending request of a drive (R40). -/
def Channel.pend (h : Channel) (v : DriveNo) : Option Request := if isLow v then h.pendLow else h.pendHigh

/-- Set the arbiter's pending request of a drive (R40). -/
def Channel.setPend (h : Channel) (v : DriveNo) (r : Option Request) : Channel :=
  if isLow v then { h with pendLow := r } else { h with pendHigh := r }

/-- The recalibration owed mark of a drive (R52). -/
def Channel.owed (h : Channel) (v : DriveNo) : Bool := if isLow v then h.owedLow else h.owedHigh

/-- Set or clear the recalibration owed mark of a drive (R52). -/
def Channel.setOwed (h : Channel) (v : DriveNo) (b : Bool) : Channel :=
  if isLow v then { h with owedLow := b } else { h with owedHigh := b }

/-! ### Notices, memory, counters -/

/-- Set a bit of NOTICE (R110). -/
def Ctx.setNotice (c : Ctx) (bit : Nat) : Ctx := { c with notice := c.notice ||| bitMask bit }

/-- Bytes a DMA write has left in cluster memory. -/
def Ctx.writeMem (c : Ctx) (addr : Nat) (bytes : List Byte) : Ctx := { c with mem := c.mem.writeAll addr bytes }

/-- One event at a drive's Health Counters (R175). -/
def Ctx.count (c : Ctx) (v : DriveNo) (k : Counter) : Ctx :=
  c.modDrive v fun d => { d with health := d.health.count k }

/-- A pick point of a drive's scheduler came (R99). -/
def Ctx.flagPick (c : Ctx) (v : DriveNo) : Ctx :=
  if v ∈ c.picks then c else { c with picks := c.picks ++ [v] }

/-! ### Sector and frame predicates -/

/-- The candidate states (04, 4.2). -/
def SectorState.candidate : SectorState → Bool
  | .wanted | .dirty | .checkDue => true
  | _ => false

/-- The data-holding states (04, 4.2). -/
def SectorState.holdsData : SectorState → Bool
  | .valid | .dirty | .writing | .checkDue | .checking | .stranded => true
  | _ => false

/-- The states that let a frame be evicted (R65). -/
def SectorState.evictable : SectorState → Bool
  | .absent | .valid | .bad => true
  | _ => false

/-- The sector is under the head (R88). -/
def SectorState.busy : SectorState → Bool
  | .reading | .writing | .checking => true
  | _ => false

/-- The states a drain or a FLUSH follows (R146, R184). -/
def SectorState.unsettled : SectorState → Bool
  | .dirty | .writing | .checkDue | .checking => true
  | _ => false

/-- A HELD frame holds nothing the diskette lacks and serves no order (R65). -/
def Frame.evictable (fr : Frame) : Bool :=
  fr.held && fr.uses == 0 && fr.sectors.all fun x => x.state.evictable

/-- No use and no sector under the head (R88, R168). A FREE frame is quiet. -/
def Frame.isQuiet (fr : Frame) : Bool :=
  !fr.held || (fr.uses == 0 && fr.sectors.all fun x => !x.state.busy)

/-- N of a frame's layout copy. -/
def Frame.size (fr : Frame) : Nat := sectorSize fr.sizeCode

/-- The slot of a sector number on a frame, none where the track has no such sector. -/
def Frame.slotOf (fr : Frame) (number : Nat) : Option Nat :=
  fr.sectors.findIdx? fun x => x.number == number

/-- The record of a sector number. -/
def Frame.sector? (fr : Frame) (number : Nat) : Option Sector :=
  fr.sectors.find? fun x => x.number == number

/-- Change the record in a slot. -/
def Frame.modSlot (fr : Frame) (slot : Nat) (k : Sector → Sector) : Frame :=
  { fr with sectors := fr.sectors.modify slot k }

/-- Change every record. -/
def Frame.mapSectors (fr : Frame) (k : Sector → Sector) : Frame := { fr with sectors := fr.sectors.map k }

/-- A byte of the data area: what was last written there, else a free value (R63, log 5). -/
def State.areaByte (s : State) (f : FrameNo) (a : Nat) : Byte :=
  ((s.frame f).area.read a).getD (Config.unwrittenByte f a)

/-- Bytes of the data area. -/
def State.areaBytes (s : State) (f : FrameNo) (a n : Nat) : List Byte :=
  (List.range n).map fun i => s.areaByte f (a + i)

/-- The HELD frames of a drive. -/
def State.framesOf (s : State) (v : DriveNo) : List Frame :=
  s.frames.toList.filter fun fr => fr.held && fr.key.drive == v

/-- The sectors of a drive's HELD frames in states that a test names. -/
def State.countSectors (s : State) (v : DriveNo) (test : SectorState → Bool) : Nat :=
  ((s.framesOf v).map fun fr => fr.sectors.countP fun x => test x.state).sum

/-- The stranded count of a drive (R180). -/
def State.strandedCount (s : State) (v : DriveNo) : Nat := s.countSectors v (· == .stranded)

/-- The frame HELD under a key. -/
def State.frameOf (s : State) (k : Key) : Option FrameNo :=
  (List.finRange 16).find? fun f => (s.frame f).held && (s.frame f).key == k

/-- The frame held under a key and the record in a slot of it (R76). -/
def State.sectorAt (s : State) (k : Key) (slot : Nat) : Option (FrameNo × Sector) :=
  match s.frameOf k with
  | none => none
  | some f => ((s.frame f).sectors[slot]?).map fun x => (f, x)

/-- The number of a drive's candidates: sector candidates and a pending track job (R93). -/
def State.candidateCount (s : State) (v : DriveNo) : Nat :=
  s.countSectors v SectorState.candidate
    + (match (s.drive v).sched.job with
       | some j => if j.running then 0 else 1
       | none => 0)

/-! ### Drive records (R113, R114) -/

/-- The controller states in which drive records and desk entries are written (R112, R113). -/
def CtlState.tableWrites : CtlState → Bool
  | .running | .draining | .shedding | .safe => true
  | .stopped | .starting | .failed => false

/-- Begin a drive record write, if the controller state allows one (R113). -/
def Ctx.recordWrite (c : Ctx) (v : DriveNo) (change : Option Bool) : Ctx :=
  if c.ctl.tableWrites then
    let bytes := (c.drive v).recordBytes (c.strandedCount v)
    c.modDrive v fun d =>
      { d with recordWrites := d.recordWrites ++ [⟨⟨driveRecordAddr c.runBase v, bytes⟩, change⟩] }
  else c

/-- A change of a drive's state or cause: the record is written and the change is a pick point (R99, R113). -/
def Ctx.setDriveState (c : Ctx) (v : DriveNo) (st : DriveState) (cause : Cause) : Ctx :=
  let d := c.drive v
  if d.state = st ∧ d.cause = cause then c
  else
    let c1 := c.modDrive v fun d => { d with state := st, cause := cause }
    let c2 := c1.recordWrite v (some (d.state ≠ st && st == .ready))
    if d.state = st then c2 else c2.flagPick v

/-- Set or clear a drive's layout-known mark; a change is written into the record (R113). -/
def Ctx.setKnown (c : Ctx) (v : DriveNo) (b : Bool) : Ctx :=
  if (c.drive v).layoutKnown = b then c
  else (c.modDrive v fun d => { d with layoutKnown := b }).recordWrite v none

/-- Set a drive's active layout; a change is written into the record (R19, R113). -/
def Ctx.setActive (c : Ctx) (v : DriveNo) (l : Layout) : Ctx :=
  if (c.drive v).timer.active = some l then c
  else (c.modTimer v fun t => { t with active := some l }).recordWrite v none

/-- The reports on a drive's counts: the high-water marks (R176). -/
def Ctx.raiseMarks (c : Ctx) (v : DriveNo) : Ctx :=
  c.modDrive v fun d =>
    { d with health := d.health.raise (c.candidateCount v) (c.framesOf v).length }

/-! ### Frames -/

/-- What a change of a frame of drive `v` reports: the high-water marks (R176) and, where the stranded count moved,
the drive record (R180). `stranded` is the count before the change. -/
def Ctx.frameReports (c : Ctx) (stranded : Nat) (v : DriveNo) : Ctx :=
  let c1 := c.raiseMarks v
  if c1.strandedCount v = stranded then c1 else c1.recordWrite v none

/-- A sector of `new` is a candidate that was none before. -/
def Frame.newCandidate (old new : Frame) : Bool :=
  new.held && (List.range new.sectors.length).any fun i =>
    match new.sectors[i]?, old.sectors[i]? with
    | some x, some y => x.state.candidate && !(old.held && y.state.candidate)
    | some x, none => x.state.candidate
    | none, _ => false

/-- Replace a frame, with all that the change reports: the Frame Wait Queue is to be served when the frame became
evictable or was freed (R65, R85), FORMATs waiting on a frame now quiet are told (R168), a new candidate is a pick
point (R99), and the counts are reported (R176, R180). -/
def Ctx.putFrame (c : Ctx) (f : FrameNo) (new : Frame) : Ctx :=
  let old := c.frame f
  let c1 : Ctx := { c with
    frames := c.frames.set f.val new
    serve := c.serve || (old.held && !new.held) || (new.evictable && !old.evictable)
    quiet := if new.isQuiet then
        c.quiet.map fun q => if q.frame = f then { q with told := true } else q
      else c.quiet }
  let c2 := if old.newCandidate new then c1.flagPick new.key.drive else c1
  let c3 := if old.held then c2.frameReports (c.strandedCount old.key.drive) old.key.drive else c2
  if new.held && !(old.held && old.key.drive == new.key.drive) then
    c3.frameReports (c.strandedCount new.key.drive) new.key.drive
  else c3

/-- Change a frame. -/
def Ctx.modFrame (c : Ctx) (f : FrameNo) (k : Frame → Frame) : Ctx := c.putFrame f (k (c.frame f))

/-- Change a sector record. -/
def Ctx.modSector (c : Ctx) (f : FrameNo) (slot : Nat) (k : Sector → Sector) : Ctx :=
  c.modFrame f fun fr => fr.modSlot slot k

/-- Drop one use of a frame (R66). -/
def Ctx.dropUse (c : Ctx) (f : FrameNo) : Ctx := c.modFrame f fun fr => { fr with uses := fr.uses - 1 }

/-! ### Desks -/

/-- A desk takes part in the run: its number is below the held desk count (R111). -/
def State.deskInRun (s : State) (d : DeskNo) : Bool :=
  match s.header with
  | some h => d.val < h.deskCount
  | none => false

/-- The desk stands in a desk fault: HALTING or HALTED, with the fault code that a RESTART or a start has not cleared
yet (R123). A desk that a HALT alone has stopped does not. -/
def Desk.faultStands (k : Desk) : Bool := (k.state == .halting || k.state == .halted) && k.fault != .none

/-- Begin a desk entry write with the present values (R112). A bus error on it is dropped where the desk stands in a
desk fault, and for a write of the restart's abandonment (R123, R128, log 22). -/
def Ctx.beginEntryWrite (c : Ctx) (d : DeskNo) (restart : Bool) : Ctx :=
  if c.deskInRun d then
    c.modDesk d fun k =>
      { k with entryWrites :=
          k.entryWrites ++ [⟨deskEntryAddr c.runBase d, k.entryBytes, restart || k.faultStands⟩] }
  else c

/-- The desk entry has changed: it is written, where the controller state allows it (R112). -/
def Ctx.entryWrite (c : Ctx) (d : DeskNo) : Ctx := if c.ctl.tableWrites then c.beginEntryWrite d false else c

/-! ### The end of an order, up to the Lock Table's part (R154) -/

/-- Steps 1 to 3 and 5 of R154: the use, the queue entry, the lists and the discard waits are given up, and the
result is fixed with the done stamp; its writing begins (R116). An order already in FINISH is not changed. -/
def Ctx.finishOrder (c : Ctx) (e : EntryNo) (code : Code) (detail : Nat) : Ctx :=
  match c.order? e with
  | none => c
  | some o =>
    if o.stage = .finish then c
    else
      let c1 := match o.frame with
        | some f => c.dropUse f
        | none => c
      let c2 : Ctx := { c1 with
        fwq := c1.fwq.filter fun w => w.order ≠ e
        quiet := c1.quiet.filter fun q => q.order ≠ e
        waiters := c1.waiters.filter fun w => w.order ≠ e }
      c2.setOrder e { o with
        stage := .finish, frame := none, staging := [], wait := [], targets := [], wantsDue := false
        phase := .none, result := some ⟨code, detail, c.g⟩ }

/-- The orders in the Active Order Table, with their entries, in entry order. -/
def State.orders (s : State) : List (EntryNo × Order) :=
  (List.finRange 32).filterMap fun e => (s.order? e).map fun o => (e, o)

/-- A drive's number as an order names it. -/
def driveOf? (n : Nat) : Option DriveNo := if h : n < 4 then some ⟨n, h⟩ else none

/-- The geometry of a drive's active layout while its layout-known mark is set (R22). -/
def State.knownGeometry (s : State) (n : Nat) : Option Geometry :=
  match driveOf? n with
  | none => none
  | some v =>
    let d := s.drive v
    if d.layoutKnown then d.timer.active.map fun l => l.geometry d.headCount else none

/-! ### Heads (R12) -/

/-- A load request: a full load from UNLOADED, else no effect (R12). -/
def Ctx.loadRequest (c : Ctx) (v : DriveNo) : Ctx :=
  c.modDrive v fun d =>
    match d.heads with
    | .unloaded => { d with heads := .loading c.g }
    | _ => d

/-- An unload request: the heads are UNLOADED at once (R12). -/
def Ctx.unloadRequest (c : Ctx) (v : DriveNo) : Ctx := c.modDrive v fun d => { d with heads := .unloaded }

/-- The held profile, all zero where none is held (log 29). -/
def Drive.profileOrZero (d : Drive) : Profile := d.profile.getD ⟨0, 0, 0, 0, false⟩

/-- A number of milliseconds in µs. -/
def ms (n : Nat) : Nat := 1000 * n

/-- The controller state changes: a pick point of every QUIET scheduler (R99, R106). They are raised in drive-number order, and
the first drive of a port to file gets the direct grant: the model's choice, log 75. -/
def Ctx.setCtl (c : Ctx) (st : CtlState) : Ctx :=
  if c.ctl = st then c
  else ({ c with ctl := st } : Ctx).forDrives fun v c => c.flagPick v

end Sys2Proof.Machine
end

