-- ==== Sys2Proof/Machine/Locks.lean ====
section
/-! DEFINITION. The Lock Table: locks, the Checkout Wait List, the write check, and the whole end of an order
(chapter 8; R154 step 4). -/

namespace Sys2Proof.Machine

open Sys2Proof

/-- The most locks held (R155). -/
def lockLimit : Nat := 24

/-- The most entries of the Checkout Wait List (R160). -/
def waiterLimit : Nat := 16

/-- The extent of a lock (R155). -/
def Lock.extent (l : Lock) : Extent := ⟨l.drive, l.first, some l.count⟩

/-- The extent of a waiting CHECKOUT (R160). -/
def Waiter.extent (w : Waiter) : Extent := ⟨w.drive, w.first, some w.count⟩

/-- The desk is in the lock's holder set. -/
def Lock.heldBy (l : Lock) (d : DeskNo) : Bool := l.holders.contains d

/-- A lock and a CHECKOUT conflict: different desks, overlapping extents, at least one EDIT (R156). -/
def Lock.conflicts (l : Lock) (w : Waiter) : Bool :=
  !l.heldBy w.desk && l.extent.overlaps w.extent && (l.mode == .edit || w.mode == .edit)

/-- The first lock over the CHECKOUT's extent that its own desk holds (R158 item 1), also at a re-examination, where R161
names only that lock (log 58). -/
def ownLock (locks : List Lock) (w : Waiter) : Option Lock :=
  locks.find? fun l => l.heldBy w.desk && l.extent.overlaps w.extent

/-- The writing orders in flight: from the take that passed all checks until their end (R162). -/
def State.writingInFlight (s : State) : List Order :=
  (s.orders.map (·.2)).filter fun o =>
    (match o.fields.kind? with | some k => k.writes | none => false) && o.passed && o.stage != .finish

/-- A writing order of another desk that overlaps the CHECKOUT (R158). -/
def writerObstacle (w : Waiter) (o : Order) : Bool :=
  o.desk != w.desk && (match o.extent with | some x => x.overlaps w.extent | none => false)

/-- The first writing order of another desk, in order of take, that overlaps the CHECKOUT (R159). -/
def State.firstWriter (s : State) (w : Waiter) : Option Order :=
  (s.writingInFlight.filter (writerObstacle w)).foldl
    (fun best o => match best with
      | none => some o
      | some b => if o.seq < b.seq then some o else some b) none

/-- A CHECKOUT is grantable: no conflicting lock, no overlapping writing order of another desk in flight, no
overlapping earlier waiter (R158 item 2). -/
def State.grantable (s : State) (w : Waiter) (earlier : List Waiter) : Bool :=
  s.locks.all (fun l => !l.conflicts w)
    && s.writingInFlight.all (fun o => !writerObstacle w o)
    && earlier.all (fun x => !x.extent.overlaps w.extent)

/-- The lock that a SHARE CHECKOUT joins: a held SHARE lock of exactly its extent (R158 item 3). -/
def Lock.joinable (l : Lock) (w : Waiter) : Bool :=
  w.mode == .share && l.mode == .share && l.drive == w.drive && l.first == w.first && l.count == w.count

/-- The locks after a grant by joining or by a new record; none when a new record is needed and 24 are held
(R158 items 3 to 5). -/
def grantLocks (locks : List Lock) (w : Waiter) : Option (List Lock) :=
  match locks.findIdx? (·.joinable w) with
  | some i => some (locks.modify i fun l => { l with holders := l.holders ++ [w.desk] })
  | none =>
    if locks.length < lockLimit then some (locks ++ [⟨w.drive, w.first, w.count, w.mode, [w.desk]⟩])
    else none

/-- One entry of a re-examination (R161), over the entries kept so far. The three tests of R158 alone decide: the drive's
state and its capacity are not tested again, although R157 concludes that a lock is granted only on a READY drive (the
model's reading, log 62). -/
def reexamineOne (acc : Ctx × List Waiter) (w : Waiter) : Ctx × List Waiter :=
  let (c, kept) := acc
  match ownLock c.locks w with
  | some l => (c.finishOrder w.order .alreadyHeld l.first, kept)
  | none =>
    if c.grantable w kept then
      match grantLocks c.locks w with
      | some locks => (({ c with locks := locks } : Ctx).finishOrder w.order .ok 0, kept)
      | none => (c, kept ++ [w])
    else (c, kept ++ [w])

/-- The re-examination of the Checkout Wait List, oldest entry first, one walk (R161). -/
def Ctx.reexamine (c : Ctx) : Ctx :=
  let (c1, kept) := c.waiters.foldl reexamineOne (c, [])
  { c1 with waiters := kept }

/-- The end of an order (R154): its end, and for a WRITE, EXCHANGE or FORMAT the Lock Table's re-examination. -/
def Ctx.endOrder (c : Ctx) (e : EntryNo) (code : Code) (detail : Nat) : Ctx :=
  match c.order? e with
  | none => c
  | some o =>
    if o.stage = .finish then c
    else
      let c1 := c.finishOrder e code detail
      match o.fields.kind? with
      | some k => if k.writes then c1.reexamine else c1
      | none => c1

/-- The claim of a CHECKOUT order. Mode byte 1 is SHARE (8.2). -/
def Order.claim (o : Order) (e : EntryNo) : Waiter :=
  { order := e, desk := o.desk, drive := o.fields.drive, first := o.fields.block, count := o.fields.count
    mode := if o.fields.mode = 1 then .share else .edit }

/-- The detail of BUSY: the first block of the first obstacle (R159). -/
def State.obstacle (s : State) (w : Waiter) : Nat :=
  match s.locks.find? (·.conflicts w) with
  | some l => l.first
  | none =>
    match s.firstWriter w with
    | some o => (match o.extent with | some x => x.firstBlock | none => 0)
    | none =>
      match s.waiters.find? (fun x => x.extent.overlaps w.extent) with
      | some x => x.first
      | none => 0

/-- The decision on a CHECKOUT that has passed its common checks (R158, R159). -/
def Ctx.decideCheckout (c : Ctx) (e : EntryNo) (o : Order) : Ctx :=
  let w := o.claim e
  match ownLock c.locks w with
  | some l => c.endOrder e .alreadyHeld l.first
  | none =>
    if c.grantable w c.waiters then
      match grantLocks c.locks w with
      | some locks => ({ c with locks := locks } : Ctx).endOrder e .ok 0
      | none => c.endOrder e .tableFull 0
    else if !o.fields.waits then c.endOrder e .busy (c.obstacle w)
    else if c.waiters.length < waiterLimit then
      ({ c with waiters := c.waiters ++ [w] } : Ctx).modOrder e fun o => { o with stage := .lock }
    else c.endOrder e .tableFull 0

/-- The desk leaves a lock's holder set; a lock left empty is removed (R163). -/
def Lock.without (l : Lock) (d : DeskNo) : Option Lock :=
  let rest := l.holders.filter (· ≠ d)
  if rest.isEmpty then none else some { l with holders := rest }

/-- Take a desk out of every lock, then re-examine if anything was removed (R163, R161). -/
def Ctx.releaseAll (c : Ctx) (d : DeskNo) : Ctx :=
  let locks := c.locks.filterMap fun l => if l.heldBy d then l.without d else some l
  if locks = c.locks then c else ({ c with locks := locks } : Ctx).reexamine

/-- The lock that a RELEASE of scope 0 names (R163). -/
def Lock.named (l : Lock) (f : OrderFields) (d : DeskNo) : Bool :=
  l.drive == f.drive && l.first == f.block && l.count == f.count && l.heldBy d

/-- A RELEASE order (R163). -/
def Ctx.release (c : Ctx) (e : EntryNo) (o : Order) : Ctx :=
  if o.fields.scope = 1 then (c.releaseAll o.desk).endOrder e .ok 0
  else
    match c.locks.findIdx? (·.named o.fields o.desk) with
    | none => c.endOrder e .notHeld 0
    | some i =>
      let locks := ((c.locks.take i) ++ ((c.locks.drop i).take 1).filterMap (·.without o.desk))
        ++ c.locks.drop (i + 1)
      (({ c with locks := locks } : Ctx).reexamine).endOrder e .ok 0

/-- The first held lock that refuses a writing order: a SHARE lock, or another desk's EDIT lock, over its extent
(R162). -/
def State.refusingLock (s : State) (d : DeskNo) (x : Extent) : Option Lock :=
  s.locks.find? fun l => l.extent.overlaps x && (l.mode == .share || !l.heldBy d)

/-- End the waiting CHECKOUTs that a test names, with a code (R164, R165). -/
def Ctx.endWaiters (c : Ctx) (test : Waiter → Bool) (code : Code) : Ctx :=
  (c.waiters.filter test).foldl (fun c w => c.finishOrder w.order code 0) c

/-- The waiting CHECKOUTs of a desk are ended ABANDONED, and the list is re-examined if any was (R165, R161). -/
def Ctx.abandonWaiters (c : Ctx) (d : DeskNo) : Ctx :=
  if c.waiters.any (fun w => w.desk == d) then
    (c.endWaiters (fun w => w.desk == d) .abandoned).reexamine
  else c

/-- MEDIA LOST at the Lock Table (R164). -/
def Ctx.locksMediaLost (c : Ctx) (v : DriveNo) : Ctx :=
  let c1 : Ctx := { c with locks := c.locks.filter fun l => l.drive ≠ v.val }
  (c1.endWaiters (fun w => w.drive == v.val) .mediaChanged).reexamine

end Sys2Proof.Machine
end

