-- ==== Sys2Proof/Machine/Reports.lean ====
section
/-! DEFINITION. What the Order Engine does with the store's reports (R78, R137, R138, R141 to R143, R146, R150). -/

namespace Sys2Proof.Machine

open Sys2Proof

/-- The outcomes of an attempt (R50), with those of a track job (R58). -/
inductive Outcome where
  | good | crcError | checkMismatch | notFound | seekError | fluxLoss | faulted | aborted | abandoned | overrun
  deriving DecidableEq, Repr

/-- The outcome is a failed attempt (R50). -/
def Outcome.failed : Outcome → Bool
  | .crcError | .checkMismatch | .notFound | .seekError | .fluxLoss | .faulted => true
  | .good | .aborted | .abandoned | .overrun => false

/-- The completion code of a stranding: VERIFY_FAIL for a check, WRITE_FAULT for a write or a fault (R143). -/
def StrandCause.code : StrandCause → Code
  | .check => .verifyFail
  | .write | .fault => .writeFault

/-- The target is still awaited. -/
def Target.awaited (t : Target) : Bool := t.state == .awaited

/-- The code and the block of a STRANDED target (R143). -/
def Target.failure? (t : Target) : Option (Code × Nat) :=
  match t.state with
  | .stranded cause => some (cause.code, t.block)
  | _ => none

/-- The first STRANDED entry of a target list: the list is in the order of the merges, and within one merge in slot order
(log 51). -/
def firstFailure (ts : List Target) : Option (Code × Nat) := ts.findSome? Target.failure?

/-- The first stranding of a WRITE is noted as its pending failure (R143). -/
def Order.noteFailure (o : Order) : Order :=
  match o.failure with
  | some _ => o
  | none => { o with failure := firstFailure o.targets }

/-- The STRANDED entry of a FLUSH on the lowest-numbered drive and, within it, the lowest block (R146). -/
def lowestStranded (ts : List Target) : Option Target :=
  (ts.filter fun t => t.failure?.isSome).foldl
    (fun best t => match best with
      | none => some t
      | some b =>
        if t.drive < b.drive ∨ (t.drive = b.drive ∧ t.block < b.block) then some t else some b) none

/-- The code of an order that returned fill or not (R140, R145). -/
def Order.okCode (o : Order) : Code × Nat :=
  match o.fillUsed with
  | some b => (.salvaged, b)
  | none => (.ok, 0)

/-- An order in SETTLE ends when its targets allow it (R143, R145, R146). A diskette format in its drain is not ended
here: its entry step is an event of its own (R170). -/
def Ctx.settleCheck (c : Ctx) (e : EntryNo) : Ctx :=
  match c.order? e with
  | none => c
  | some o =>
    if o.stage ≠ .settle then c
    else
      match o.fields.kind? with
      | some .write | some .exchange =>
        match (o.noteFailure).failure with
        | some (code, block) => c.endOrder e code block
        | none =>
          if o.targets.any Target.awaited then c
          else c.endOrder e o.okCode.1 o.okCode.2
      | some .flush =>
        if o.targets.any Target.awaited then c
        else
          match lowestStranded o.targets with
          | some t => c.endOrder e .writeFault t.block
          | none => c.endOrder e .ok 0
      | _ => c

/-- A report about a sector reaches the orders whose AWAITED targets name it: the target changes, the highest attempt
is observed, and a stranding is noted or ends the order (R138, R143). The highest attempt of a FORMAT stays 0
(R167). -/
def Ctx.reportTargets (c : Ctx) (f : FrameNo) (sector attempt : Nat) (change : Target → TargetState) : Ctx :=
  c.forEntries fun e c =>
    match c.order? e with
    | none => c
    | some o =>
      let hit (t : Target) : Bool := t.frame == f && t.sector == sector && t.awaited
      if o.targets.any hit then
        let o1 := { o with
          targets := o.targets.map fun t => if hit t then { t with state := change t } else t
          highest := if o.fields.kind? = some .format then o.highest else max o.highest attempt }
        (c.setOrder e (if o.fields.kind? = some .write then o1.noteFailure else o1)).settleCheck e
      else c

/-- SECTOR SETTLED (R77, R143). -/
def Ctx.sectorSettled (c : Ctx) (f : FrameNo) (sector : Nat) (settled : Word) (attempt : Nat) : Ctx :=
  c.reportTargets f sector attempt fun t => if notOlder settled t.version then .durable else .awaited

/-- SECTOR STRANDED (R143). -/
def Ctx.sectorStranded (c : Ctx) (f : FrameNo) (sector : Nat) (cause : StrandCause) (attempt : Nat) : Ctx :=
  c.reportTargets f sector attempt fun _ => .stranded cause

/-- The entry is for a sector of a frame and waited for. -/
def Wanted.isFor (w : Wanted) (f : FrameNo) (sector : Nat) : Bool := w.frame == f && w.sector == sector && !w.fill

/-- The order waits for some sector: its wait list holds an entry whose fill mark is clear (R137, R141). -/
def Order.waitsMore (o : Order) : Bool := o.wait.any fun w => !w.fill

/-- The order waits for a sector of a frame. -/
def Order.waitsOn (o : Order) (f : FrameNo) (sector : Nat) : Bool :=
  o.stage == .fill && o.wait.any fun w => w.isFor f sector

/-- Take a sector's entry off a wait list. -/
def Order.unwait (o : Order) (f : FrameNo) (sector : Nat) : Order :=
  { o with wait := o.wait.filter fun w => !w.isFor f sector }

/-- Set the fill mark of a sector's entry, which is waited for no more (R141, log 53). -/
def Order.markFill (o : Order) (f : FrameNo) (sector : Nat) : Order :=
  { o with wait := o.wait.map fun w => if w.isFor f sector then { w with fill := true } else w }

/-- The attempt of a read that an order awaits is observed (R138). That of a pre-read does not count for a WRITE, whose
highest attempt is that of its targets' settles and strandings (R144, log 57). -/
def Order.observeRead (o : Order) (attempt : Nat) : Order :=
  { o with highest := if o.fields.kind? = some .write then o.highest else max o.highest attempt }

/-- SECTOR FILLED: the entry leaves the list, and the attempt is observed (R137, R138). -/
def Ctx.sectorFilled (c : Ctx) (f : FrameNo) (sector attempt : Nat) : Ctx :=
  c.forEntries fun e c =>
    match c.order? e with
    | none => c
    | some o =>
      if o.waitsOn f sector then c.setOrder e ((o.unwait f sector).observeRead attempt)
      else c

/-- READ FAILED: the attempt is observed, and any outcome but NOT_FOUND sets the found mark (R138). -/
def Ctx.readFailed (c : Ctx) (f : FrameNo) (sector attempt : Nat) (outcome : Outcome) : Ctx :=
  c.forEntries fun e c =>
    match c.order? e with
    | none => c
    | some o =>
      if o.waitsOn f sector then
        c.setOrder e { o.observeRead attempt with
          wait := o.wait.map fun w =>
            if w.isFor f sector then { w with found := w.found || outcome != .notFound } else w }
      else c

/-- The fill used mark records the first block given as fill (R141, R145). -/
def Order.useFill (o : Order) (block : Nat) : Order :=
  { o with fillUsed := match o.fillUsed with | some b => some b | none => some block }

/-- The fill used mark after a step that gave these blocks as fill, the lowest first (R80, R140, R145). -/
def Order.useFills (o : Order) (blocks : List Nat) : Order :=
  match blocks with
  | [] => o
  | b :: _ => o.useFill b

/-- A sector an order needs is unreadable (R141, R142, R145). With SALVAGE it counts as ready: a READ marks its fill used
here (R141), an EXCHANGE only where the exchange itself returns fill (R145), which another order's bytes may come before.
Otherwise the order ends. `neverFound` is true when the order watched failed reads of the sector and
none set the found mark. -/
def Ctx.unreadable (c : Ctx) (e : EntryNo) (block : Nat) (neverFound : Bool) : Ctx :=
  match c.order? e with
  | none => c
  | some o =>
    if o.fields.salvage && o.fields.kind? != some .write then
      c.setOrder e (if o.fields.kind? = some .exchange then o else o.useFill block)
    else if o.fields.kind? = some .read && neverFound then c.endOrder e .notFound block
    else c.endOrder e .hardRead block

/-- SECTOR BAD: the attempt is observed, the entry is waited for no more, and its kind's rule follows (R137, R138, R141,
R142, R145). The READ FAILED note of the same outcome came first, so a waiting order has watched at least one failed
read. -/
def Ctx.sectorBad (c : Ctx) (f : FrameNo) (sector attempt : Nat) : Ctx :=
  c.forEntries fun e c =>
    match c.order? e with
    | none => c
    | some o =>
      if o.waitsOn f sector then
        match o.wait.find? fun w => w.isFor f sector with
        | none => c
        | some w =>
          (c.setOrder e ((o.markFill f sector).observeRead attempt)).unreadable e w.block (!w.found)
      else c

/-- The lowest block of the AWAITED targets on a frame (R150). -/
def lowestAwaited (ts : List Target) (f : FrameNo) : Option Nat :=
  ((ts.filter fun t => t.frame == f && t.awaited).map Target.block).min?

/-- FRAME FREED with cause DISCARD: orders with an AWAITED target on the frame end DISCARDED, with the lowest block
(R150); a diskette format's drain gives those entries up (R170). -/
def Ctx.frameDiscarded (c : Ctx) (f : FrameNo) : Ctx :=
  c.forEntries fun e c =>
    match c.order? e with
    | none => c
    | some o =>
      match lowestAwaited o.targets f with
      | none => c
      | some block =>
        if o.fields.kind? = some .format then
          c.setOrder e { o with
            targets := o.targets.filter fun t => !(t.frame == f && t.awaited) }
        else c.endOrder e .discarded block

end Sys2Proof.Machine
end

