-- ==== Sys2Proof/Machine/Store.lean ====
section
/-! DEFINITION. The Track Image Store: wants, steps, outcomes, versions, discard, and what faults, media losses, a
restart and a shed do to it (chapter 4). -/

namespace Sys2Proof.Machine

open Sys2Proof

/-- The last read attempt number (R51, R70). -/
def readLadder : Nat := 8

/-- The last write attempt number (R51, R73). -/
def writeLadder : Nat := 3

/-! ### Wants (R68) -/

/-- The store's answer to a want. -/
inductive WantAnswer where
  | data | wait | bad
  deriving DecidableEq, Repr

/-- The sector after a want, and the answer, by the table of R68. While the controller is SHEDDING the state is
unchanged and no sector is made WANTED (R91). -/
def Sector.want (x : Sector) (g : Word) (fresh shedding : Bool) : WantAnswer × Sector :=
  let again := if shedding then x else { x with state := .wanted, stamp := g, attempts := 0 }
  match x.state with
  | .absent => (.wait, if shedding then x else { x with state := .wanted, stamp := g })
  | .wanted | .reading => (.wait, x)
  | .valid => if fresh then (.wait, again) else (.data, x)
  | .dirty | .writing | .checkDue | .checking | .stranded => (.data, x)
  | .bad => if fresh then (.wait, again) else (.bad, x)

/-- A RUSH want marks a sector that is WANTED or READING after it (R68). -/
def Sector.markRush (x : Sector) (rush : Bool) : Sector :=
  if rush && (x.state == .wanted || x.state == .reading) then { x with rush := true } else x

/-- A want at a frame (R68). A sector number the track has not is answered WAIT (no order asks one). -/
def Ctx.want (c : Ctx) (f : FrameNo) (sector : Nat) (fresh rush : Bool) : WantAnswer × Ctx :=
  let fr := c.frame f
  match fr.slotOf sector, fr.sector? sector with
  | some slot, some x =>
    let (answer, y) := x.want c.g fresh (c.ctl == .shedding)
    (answer, c.putFrame f (fr.modSlot slot fun _ => y.markRush rush))
  | _, _ => (.wait, c)

/-! ### Steps (R79 to R82) -/

/-- The first byte of a sector in the data area: (n - first) * N (R63). -/
def Frame.sectorStart (fr : Frame) (number : Nat) : Nat := (number - fr.first) * fr.size

/-- The range of `n` bytes from `a` touches the sector. -/
def Frame.touches (fr : Frame) (a n : Nat) (x : Sector) : Bool :=
  fr.sectorStart x.number < a + n && a < fr.sectorStart x.number + fr.size

/-- The range covers all N bytes of the sector (R81). -/
def Frame.covers (fr : Frame) (a n : Nat) (x : Sector) : Bool :=
  a ≤ fr.sectorStart x.number && fr.sectorStart x.number + fr.size ≤ a + n

/-- The sector numbers touched by a range that fail a test, in slot order: what NO DATA names. -/
def Frame.lacking (fr : Frame) (a n : Nat) (ok : Sector → Bool) : List Nat :=
  ((fr.sectors.filter fun x => fr.touches a n x && !ok x).map Sector.number)

/-- The bytes of a copy-out: those of a BAD sector are the fill byte (R80). -/
def State.copyBytes (s : State) (f : FrameNo) (a n : Nat) (fill : Byte) : List Byte :=
  let fr := s.frame f
  (List.range n).map fun i =>
    match fr.sectors.find? fun x => fr.touches (a + i) 1 x with
    | some x => if x.state = .bad then fill else s.areaByte f (a + i)
    | none => s.areaByte f (a + i)

/-- The touched sectors whose bytes a step gives as fill: what its STEP DONE lists (R78, R80). -/
def Frame.givenAsFill (fr : Frame) (a n : Nat) : List Nat :=
  (fr.sectors.filter fun x => fr.touches a n x && x.state == .bad).map Sector.number

/-- A copy-out: made when every touched sector is data-holding, or BAD with a fill byte passed; else NO DATA with
the sectors (R80). It gives the bytes and the sectors given as fill, changes no sector record and sets the LRU stamp
(R79). -/
def Ctx.copyOut (c : Ctx) (f : FrameNo) (a n : Nat) (fill : Option Byte) :
    Except (List Nat) (List Byte × List Nat × Ctx) :=
  let fr := c.frame f
  match fr.lacking a n fun x => x.state.holdsData || (x.state == .bad && fill.isSome) with
  | [] => .ok (c.copyBytes f a n (fill.getD 0), fr.givenAsFill a n, c.putFrame f { fr with lru := c.g })
  | xs => .error xs

/-- A touched sector after a merge (R77, R81). -/
def Sector.merge (x : Sector) (g : Word) (verify rush : Bool) : Sector :=
  let y := { x with dataVer := x.dataVer + 1, verify := x.verify || verify }
  let z := match x.state with
    | .absent | .wanted | .reading | .bad | .valid => { y with state := .dirty, stamp := g, attempts := 0 }
    | .dirty | .stranded => y
    | .writing | .checkDue | .checking => { y with redirty := true }
  if rush && z.state == .dirty then { z with rush := true } else z

/-- What STEP DONE reports of a touched sector: its number, the version the merge produced, and the cause if it is
STRANDED (R78, R81). -/
structure Touched where
  sector : Nat
  version : Word
  stranded : Option StrandCause
  deriving DecidableEq, Repr

/-- The merge itself, once it may be made: bytes into the data area, the touched records, the LRU stamp, then SECTOR
FILLED for each sector that comes to hold data (R78, R81). The touched sectors are reported in slot order (log 51). -/
def Ctx.mergeBytes (c : Ctx) (f : FrameNo) (a : Nat) (bytes : List Byte) (verify rush : Bool) :
    List Touched × Ctx :=
  let fr := c.frame f
  let hit (x : Sector) : Bool := fr.touches a bytes.length x
  let fr' := { fr.mapSectors (fun x => if hit x then x.merge c.g verify rush else x) with
    area := fr.area.writeAll a bytes, lru := c.g }
  let touched := (fr'.sectors.filter hit).map fun x =>
    { sector := x.number, version := x.dataVer
      stranded := if x.state = .stranded then some x.cause else none : Touched }
  let filled := (fr.sectors.filter fun x => hit x && !x.state.holdsData).map Sector.number
  (touched, filled.foldl (fun c n => c.sectorFilled f n 0) (c.putFrame f fr'))

/-- A merge: made when every partly covered sector is data-holding; else NO DATA with those sectors (R81). -/
def Ctx.merge (c : Ctx) (f : FrameNo) (a : Nat) (bytes : List Byte) (verify rush : Bool) :
    Except (List Nat) (List Touched × Ctx) :=
  let fr := c.frame f
  match fr.lacking a bytes.length fun x => fr.covers a bytes.length x || x.state.holdsData with
  | [] => .ok (c.mergeBytes f a bytes verify rush)
  | xs => .error xs

/-- An exchange: the present bytes are taken, with the sectors given as fill, and the new ones merged, in one event
(R82). -/
def Ctx.exchange (c : Ctx) (f : FrameNo) (a : Nat) (bytes : List Byte) (fill : Option Byte) (verify rush : Bool) :
    Except (List Nat) (List Byte × List Nat × List Touched × Ctx) :=
  let fr := c.frame f
  match fr.lacking a bytes.length fun x => x.state.holdsData || (x.state == .bad && fill.isSome) with
  | [] =>
    let old := c.copyBytes f a bytes.length (fill.getD 0)
    let (touched, c1) := c.mergeBytes f a bytes verify rush
    .ok (old, fr.givenAsFill a bytes.length, touched, c1)
  | xs => .error xs

/-! ### Attempts (R69 to R76) -/

/-- ATTEMPT BEGUN (R69): a WANTED sector becomes READING, a CHECK_DUE sector CHECKING. -/
def Ctx.attemptBegun (c : Ctx) (k : Key) (slot : Nat) (kind : WorkKind) : Ctx :=
  match c.sectorAt k slot with
  | none => c
  | some (f, x) =>
    if kind = .read ∧ x.state = .wanted then c.modSector f slot fun x => { x with state := .reading }
    else if kind = .check ∧ x.state = .checkDue then c.modSector f slot fun x => { x with state := .checking }
    else c

/-- The outcome of a read attempt on a sector in READING (R70, R76). -/
def Ctx.readOutcome (c : Ctx) (k : Key) (slot attempt : Nat) (outcome : Outcome) (bytes : List Byte) : Ctx :=
  match c.sectorAt k slot with
  | none => c
  | some (f, x) =>
    if x.state ≠ .reading then c
    else if outcome = .good then
      let fr := c.frame f
      let fr' := { fr.modSlot slot (fun x =>
          { x with state := .valid, settledVer := x.dataVer, attempts := 0, rush := false }) with
        area := fr.area.writeAll (fr.sectorStart x.number) bytes }
      (c.putFrame f fr').sectorFilled f x.number attempt
    else if outcome.failed then
      let c1 := c.readFailed f x.number attempt outcome
      if attempt < readLadder then
        c1.modSector f slot fun x => { x with state := .wanted, attempts := x.attempts + 1 }
      else
        (c1.modSector f slot fun x => { x with state := .bad, attempts := readLadder, rush := false }).sectorBad
          f x.number attempt
    else
      c.modSector f slot fun x => { x with state := .absent, rush := false }

/-- A write settles (R72): the settled version becomes the written version, SECTOR SETTLED is reported, and the
sector becomes DIRTY if it was redirtied, else VALID. -/
def Ctx.settleWrite (c : Ctx) (f : FrameNo) (slot attempt : Nat) : Ctx :=
  match (c.frame f).sectors[slot]? with
  | none => c
  | some x =>
    let y := { x with settledVer := x.writtenVer, check := false, attempts := 0 }
    let z := if x.redirty then { y with redirty := false, state := .dirty, stamp := c.g }
      else { y with state := .valid, rush := false }
    (c.modSector f slot fun _ => z).sectorSettled f x.number x.writtenVer attempt

/-- A sector becomes STRANDED by its ladder (R73, R74). -/
def Ctx.strandSector (c : Ctx) (f : FrameNo) (slot : Nat) (cause : StrandCause) (verify : Bool) (attempt : Nat) :
    Ctx :=
  match (c.frame f).sectors[slot]? with
  | none => c
  | some x =>
    (c.modSector f slot fun x => { x with
      state := .stranded, attempts := writeLadder, rush := false, verify := verify, check := false
      redirty := false, cause := cause }).sectorStranded f x.number cause attempt

/-- A sector returns to DIRTY after a failed write or check numbered below 3, its stamp kept (R73, R74). -/
def Ctx.redoWrite (c : Ctx) (f : FrameNo) (slot : Nat) (verify : Bool) : Ctx :=
  c.modSector f slot fun x => { x with
    state := .dirty, attempts := x.attempts + 1, verify := verify, check := false, redirty := false }

/-- The outcome of a write attempt on a sector in WRITING (R72, R73, R76). That of an attempt whose gate has not opened
finds its sector DIRTY and is discarded, a failed one too (log 35). -/
def Ctx.writeOutcome (c : Ctx) (k : Key) (slot attempt : Nat) (outcome : Outcome) (writtenCrc : Half) : Ctx :=
  match c.sectorAt k slot with
  | none => c
  | some (f, x) =>
    if x.state ≠ .writing then c
    else if outcome = .good then
      let c1 := c.modSector f slot fun x => { x with writtenCrc := writtenCrc }
      if x.check && c.ctl != .shedding then
        c1.modSector f slot fun x => { x with state := .checkDue, stamp := c.g }
      else c1.settleWrite f slot attempt
    else if outcome.failed then
      if attempt < writeLadder then c.redoWrite f slot (x.verify || x.check)
      else c.strandSector f slot .write (x.verify || x.check) attempt
    else c

/-- The outcome of a check attempt on a sector in CHECKING (R74, R76). An ABANDONED check from the entry to SHEDDING
clears the verify mark; one from a restart sets it. -/
def Ctx.checkOutcome (c : Ctx) (k : Key) (slot attempt : Nat) (outcome : Outcome) : Ctx :=
  match c.sectorAt k slot with
  | none => c
  | some (f, x) =>
    if x.state ≠ .checking then c
    else if outcome = .good then c.settleWrite f slot attempt
    else if outcome.failed then
      if attempt < writeLadder then c.redoWrite f slot true
      else c.strandSector f slot .check true attempt
    else c.modSector f slot fun x => { x with
      state := .dirty, check := false, verify := c.ctl != .shedding }

/-- GATE OPENED on a DIRTY sector (R71). -/
def Ctx.gateOpened (c : Ctx) (f : FrameNo) (slot : Nat) : Ctx :=
  c.modSector f slot fun x => { x with
    writtenVer := x.dataVer, check := x.verify, verify := false, redirty := false, state := .writing }

/-! ### Discard (R88) -/

/-- A frame becomes FREE. Its data area is not cleared; its other contents have no meaning (R63). -/
def Ctx.freeFrame (c : Ctx) (f : FrameNo) : Ctx := c.modFrame f fun fr => { area := fr.area }

/-- The store's discard of the frame of a track: whether it was refused IN_USE, and the state after (R88). -/
def Ctx.discard (c : Ctx) (k : Key) : Bool × Ctx :=
  match c.frameOf k with
  | none => (false, c)
  | some f =>
    if (c.frame f).isQuiet then (false, (c.freeFrame f).frameDiscarded f) else (true, c)

/-! ### FLUSH sets and the drain set (R83, R146, R170) -/

/-- A STRANDED sector becomes DIRTY with a fresh write ladder (R83). -/
def Sector.unstrand (x : Sector) (g : Word) : Sector :=
  if x.state = .stranded then { x with state := .dirty, stamp := g, attempts := 0 } else x

/-- The block of a sector of a frame, by the frame's own layout copy and the drive's head count (R22). -/
def State.blockOfSector (s : State) (fr : Frame) (number : Nat) : Nat :=
  (fr.key.cylinder * (s.drive fr.key.drive).headCount + fr.key.head) * fr.spt + (number - fr.first)

/-- The entries that a frame adds to a set: its unsettled sectors with their present versions (R146). -/
def State.setEntries (s : State) (f : FrameNo) : List Target :=
  let fr := s.frame f
  (fr.sectors.filter fun x => x.state.unsettled).map fun x =>
    { frame := f, drive := fr.key.drive, sector := x.number, block := s.blockOfSector fr x.number
      version := x.dataVer, state := .awaited }

/-- A frame's STRANDED sectors are unstranded in turn, each an event of its own (R83, R180). -/
def Ctx.unstrandFrame (c : Ctx) (f : FrameNo) : Ctx :=
  (List.range (c.frame f).sectors.length).foldl
    (fun c i => match (c.frame f).sectors[i]? with
      | some x => if x.state = .stranded then c.modSector f i fun x => x.unstrand c.g else c
      | none => c) c

/-- Gather a set at each HELD frame of the drives that a test names, frame by frame, unstranding if asked. -/
def Ctx.gather (c : Ctx) (drives : DriveNo → Bool) (unstrand : Bool) : List Target × Ctx :=
  (List.finRange 16).foldl
    (fun acc f =>
      let (ts, c) := acc
      let fr := c.frame f
      if fr.held && drives fr.key.drive then
        let c1 := if unstrand then c.unstrandFrame f else c
        (ts ++ c1.setEntries f, c1)
      else (ts, c)) ([], c)

/-! ### When work is taken away -/

/-- FAULT HELD at one slot of a frame: DIRTY becomes STRANDED with cause FAULT, WANTED becomes ABSENT (R87). -/
def Ctx.slotFaultHeld (c : Ctx) (f : FrameNo) (slot : Nat) : Ctx :=
  match (c.frame f).sectors[slot]? with
  | none => c
  | some x =>
    match x.state with
    | .dirty =>
      (c.modSector f slot fun x => { x with state := .stranded, rush := false, cause := .fault }).sectorStranded f
        x.number .fault 0
    | .wanted => c.modSector f slot fun x => { x with state := .absent, rush := false }
    | _ => c

/-- FAULT HELD at the store: the drive's sectors in turn, by frame number and then slot, each change an event of its own
(R87, R180, log 51). -/
def Ctx.storeFaultHeld (c : Ctx) (v : DriveNo) : Ctx :=
  c.forFrames fun f c =>
    let fr := c.frame f
    if fr.held && fr.key.drive == v then
      (List.range fr.sectors.length).foldl (fun c i => c.slotFaultHeld f i) c
    else c

/-- The frame is HELD and of the drive. -/
def Frame.isOf (fr : Frame) (v : DriveNo) : Bool := fr.held && fr.key.drive == v

/-- MEDIA LOST at the store: every HELD frame of the drive is freed, in one event; FORMATs that wait on one are told, and
the Frame Wait Queue is to be served (R85, R89, R168). -/
def Ctx.storeMediaLost (c : Ctx) (v : DriveNo) : Ctx :=
  { c with
    frames := c.frames.map fun fr => if fr.isOf v then { area := fr.area } else fr
    serve := c.serve || c.frames.toList.any fun fr => fr.isOf v
    quiet := c.quiet.map fun q => if (c.frame q.frame).isOf v then { q with told := true } else q }

/-- A sector after a restart (R90). -/
def Sector.restart (x : Sector) : Sector :=
  let y := { x with rush := false }
  match x.state with
  | .wanted | .reading => { y with state := .absent }
  | .writing | .checkDue | .checking =>
    { y with state := .dirty, verify := x.verify || x.check, check := false, redirty := false }
  | .absent | .valid | .dirty | .bad | .stranded => y

/-- A restart at the store, in one event: sector states, use counts and the Frame Wait Queue (R90); the discard waits are
removed (R168). -/
def Ctx.storeRestart (c : Ctx) : Ctx :=
  { c with
    frames := c.frames.map fun fr => if fr.held then { fr.mapSectors Sector.restart with uses := 0 } else fr
    fwq := [], quiet := [], serve := false }

/-- The entry to SHEDDING at the store: WANTED becomes ABSENT, CHECK_DUE becomes DIRTY without its check (R91). -/
def Ctx.storeShed (c : Ctx) : Ctx :=
  c.forFrames fun f c =>
    let fr := c.frame f
    if fr.held then
      c.putFrame f (fr.mapSectors fun x =>
        match x.state with
        | .wanted => { x with state := .absent, rush := false }
        | .checkDue => { x with state := .dirty, check := false, verify := false }
        | _ => x)
    else c

end Sys2Proof.Machine
end

