-- ==== Sys2Proof/Machine/Engine.lean ====
section
/-! DEFINITION. The Order Engine: frame requests and the Frame Wait Queue, wants, steps, the cascade of reports inside
one command, the checks at take, and what takes orders away (chapters 4.1, 4.5 and 7). -/

namespace Sys2Proof.Machine

open Sys2Proof

/-! ### Frames for orders (R64, R65, R85) -/

/-- The entries of the Frame Wait Queue at most (R84). -/
def fwqLimit : Nat := 32

/-- The lowest-numbered FREE frame. -/
def State.freeFrame? (s : State) : Option FrameNo := (List.finRange 16).find? fun f => !(s.frame f).held

/-- The evictable frame with the oldest LRU stamp, the lower-numbered among equal ages (R65). -/
def State.victim? (s : State) : Option FrameNo :=
  ((List.finRange 16).filter fun f => (s.frame f).evictable).foldl
    (fun best f => match best with
      | none => some f
      | some b =>
        if min ageLimit (ageAt s.g (s.frame f).lru) > min ageLimit (ageAt s.g (s.frame b).lru) then some f
        else some b) none

/-- A frame that can be allocated: a FREE one, else the victim (R64 steps 5 and 6). -/
def State.allocatable? (s : State) : Option FrameNo :=
  match s.freeFrame? with
  | some f => some f
  | none => s.victim?

/-- A sector record at allocation (R67). -/
def newSector (g : Word) (number : Nat) : Sector :=
  { state := .absent, number := number, dataVer := 0, writtenVer := 0, settledVer := 0, writtenCrc := 0
    stamp := g, rush := false, attempts := 0, redirty := false, verify := false, check := false, cause := .write }

/-- A frame allocated for a key by a layout (R63). The data area is not cleared. -/
def newFrame (g : Word) (k : Key) (generation : Half) (l : Layout) (area : Mem) : Frame :=
  { held := true, key := k, generation := generation, density := l.density, sizeCode := l.sizeCode, spt := l.spt
    first := l.first, slotMap := l.map, area := area, uses := 0, lru := g, sectors := l.map.map (newSector g) }

/-- The order takes its use and goes on to its fetch or its wants (R135, R136): FRAME GRANTED. -/
def Order.granted (o : Order) (f : FrameNo) : Order :=
  if o.fields.kind? = some .read then { o with frame := some f, stage := .fill, wantsDue := true }
  else { o with frame := some f, stage := .fetch }

/-- A HELD frame is granted to an order: one use more, and the LRU stamp is G (R64). -/
def Ctx.grantHeld (c : Ctx) (e : EntryNo) (f : FrameNo) : Ctx :=
  (c.modFrame f fun fr => { fr with uses := fr.uses + 1, lru := c.g }).modOrder e fun o => o.granted f

/-- A frame is allocated for a key, the evicted track being discarded, and granted (R63, R64). -/
def Ctx.grantNew (c : Ctx) (e : EntryNo) (f : FrameNo) (k : Key) : Ctx :=
  let d := c.drive k.drive
  match d.timer.active with
  | none => c
  | some l =>
    (c.modFrame f fun fr => { newFrame c.g k d.generation l fr.area with uses := 1 }).modOrder e
      fun o => o.granted f

/-- The key of an order's track (R22). -/
def Order.keyOf (o : Order) (t : Nat) : Option Key :=
  (driveOf? o.fields.drive).map fun v => ⟨v, o.geometry.cylinder t, o.geometry.head t⟩

/-- The current track's part of an order's range (R134). -/
def Order.part (o : Order) : Part := partOn o.fields o.geometry (o.track.getD 0)

/-- The first block of the current track's part: the detail of several endings (R134, R136, R149). -/
def Order.partBlock (o : Order) : Nat := o.part.firstBlock o.fields o.geometry

/-- The store refuses a frame request outright: NOT_READY, then MEDIA_CHANGED (R64 steps 1 and 2). -/
def State.frameRefusal (s : State) (v : DriveNo) (generation : Half) : Option Code :=
  let d := s.drive v
  if !d.layoutKnown || d.state != .ready then some .notReady
  else if generation ≠ d.generation then some .mediaChanged
  else none

/-- A frame request of an order for its current track: the generation check, then the store's answer in the order of
R64 (R134, R136). -/
def Ctx.requestFrame (c : Ctx) (e : EntryNo) : Ctx :=
  match c.order? e with
  | none => c
  | some o =>
    match o.keyOf (o.track.getD 0) with
    | none => c
    | some k =>
      if o.generation ≠ (c.drive k.drive).generation then c.endOrder e .mediaChanged o.partBlock
      else
        match c.frameRefusal k.drive o.generation with
        | some code => c.endOrder e code o.partBlock
        | none =>
          match c.frameOf k with
          | some f => c.grantHeld e f
          | none =>
            let join : Ctx := { c with fwq := c.fwq ++ [⟨e, k, o.generation, c.g, false⟩] }
            if c.fwq.isEmpty then
              match c.allocatable? with
              | some f => c.grantNew e f k
              | none => join
            else join

/-- An order turns to a track: stage FRAME and the frame request (R135). -/
def Ctx.startTrack (c : Ctx) (e : EntryNo) (t : Nat) : Ctx :=
  (c.modOrder e fun o => { o with stage := .frame, track := some t, frame := none, staging := [] }).requestFrame e

/-- One entry of a walk of the Frame Wait Queue (R85). `blocked` once an entry that needs a frame could not be served.
Every entry that the walk comes to is tested by steps 1 and 2 of R64, also one that could not be granted (log 47). -/
def serveOne (acc : Ctx × Bool) (w : Waiting) : Ctx × Bool :=
  let (c, blocked) := acc
  let gone : Ctx := { c with fwq := c.fwq.filter fun x => x.order ≠ w.order }
  match c.frameRefusal w.key.drive w.generation with
  | some code =>
    (gone.endOrder w.order code (match c.order? w.order with | some o => o.partBlock | none => 0), blocked)
  | none =>
    match c.frameOf w.key with
    | some f => (gone.grantHeld w.order f, blocked)
    | none =>
      if blocked then (c, true)
      else
        match c.allocatable? with
        | some f => (gone.grantNew w.order f w.key, false)
        | none => (c, true)

/-- The Frame Wait Queue is walked from the oldest entry (R85). -/
def Ctx.serveQueue (c : Ctx) : Ctx := (c.fwq.foldl serveOne ({ c with serve := false }, false)).1

/-! ### Wants (R137) -/

/-- The blocks an order needs on its current track: for READ and EXCHANGE all its part touches, for WRITE the partly
covered ones (R137). -/
def Order.needed (o : Order) : List Nat :=
  match o.fields.kind? with
  | some .write => o.part.partialBlocks o.fields o.geometry
  | _ => o.part.blocks o.fields o.geometry

/-- One want of an order, and what its answer does (R137, R141, R142, R145). -/
def Ctx.wantBlock (c : Ctx) (e : EntryNo) (b : Nat) : Ctx :=
  match c.order? e with
  | none => c
  | some o =>
    match o.stage, o.frame with
    | .fill, some f =>
      let n := o.geometry.sector b
      let (answer, c1) := c.want f n o.fields.fresh o.fields.rush
      match answer with
      | .data => c1
      | .wait => c1.modOrder e fun o => { o with wait := o.wait ++ [⟨f, n, b, false, false⟩] }
      | .bad => c1.unreadable e b false
    | _, _ => c

/-- Wants in ascending block order, as long as the order stands (R137). -/
def Ctx.wantBlocks (c : Ctx) (e : EntryNo) (bs : List Nat) : Ctx := bs.foldl (fun c b => c.wantBlock e b) c

/-! ### Steps at a frame (R134 to R145) -/

/-- The held salvage fill byte, where the order has SALVAGE (R140, R145). -/
def State.salvageFill (s : State) (o : Order) : Option Byte :=
  if o.fields.salvage then some (match s.header with | some h => h.salvageFill | none => 0) else none

/-- The targets that a step made (R142): one AWAITED entry per touched sector, or STRANDED where STEP DONE says so. -/
def Order.newTargets (o : Order) (f : FrameNo) (v : DriveNo) (touched : List Touched) : List Target :=
  touched.map fun x =>
    { frame := f, drive := v, sector := x.sector, block := o.geometry.blockOf (o.track.getD 0) x.sector
      version := x.version
      state := match x.stranded with | some cause => .stranded cause | none => .awaited }

/-- A WRITE that has merged its last track (R143): with EARLY it ends with the pending failure that an earlier track left,
else OK, also where the last merge itself went into a STRANDED sector; without EARLY that sector ends it in SETTLE. -/
def Ctx.concludeWrite (c : Ctx) (e : EntryNo) : Ctx :=
  match c.order? e with
  | none => c
  | some o =>
    match o.failure with
    | some (code, block) => c.endOrder e code block
    | none =>
      if o.fields.early then c.endOrder e .ok 0
      else (c.setOrder e { o with stage := .settle }).settleCheck e

/-- The step of an order in FILL that waits for no sector: the generation check, then the copy-out, merge or exchange;
NO DATA makes new wants in ascending block order (R134, R137, R140, R142, R145). A stranding that a merge meets is noted
while the order still has tracks to merge (R143). -/
def Ctx.orderStep (c : Ctx) (e : EntryNo) : Ctx :=
  match c.order? e with
  | none => c
  | some o =>
    match o.frame, driveOf? o.fields.drive with
    | some f, some v =>
      if o.generation ≠ (c.drive v).generation then c.endOrder e .mediaChanged o.partBlock
      else
        let p := o.part
        let a := p.areaStart o.fields o.geometry
        let blocksOf (sectors : List Nat) : List Nat :=
          (p.blocks o.fields o.geometry).filter fun b => sectors.contains (o.geometry.sector b)
        let again (sectors : List Nat) : Ctx := c.wantBlocks e (blocksOf sectors)
        match o.fields.kind? with
        | some .read =>
          match c.copyOut f a p.length (c.salvageFill o) with
          | .error xs => again xs
          | .ok (bytes, given, c1) =>
            (c1.setOrder e { o.useFills (blocksOf given) with
              stage := .deliver, frame := none, staging := bytes, wait := [] }).dropUse f
        | some .write =>
          match c.merge f a o.staging o.fields.verify o.fields.rush with
          | .error xs => again xs
          | .ok (touched, c1) =>
            let o1 : Order := { o with
              frame := none, staging := [], wait := [], tracks := o.tracks + 1, bytes := o.bytes + p.length
              targets := o.targets ++ o.newTargets f v touched }
            if p.track < lastTrack o.fields o.geometry then
              ((c1.setOrder e o1.noteFailure).dropUse f).startTrack e (p.track + 1)
            else ((c1.setOrder e o1).dropUse f).concludeWrite e
        | some .exchange =>
          match c.exchange f a o.staging (c.salvageFill o) o.fields.verify o.fields.rush with
          | .error xs => again xs
          | .ok (old, given, touched, c1) =>
            (c1.setOrder e { o.useFills (blocksOf given) with
              frame := none, stage := .deliver, staging := old, wait := [], tracks := 1
              bytes := o.bytes + o.geometry.size
              targets := o.targets ++ o.newTargets f v touched }).dropUse f
        | _ => c
    | _, _ => c

/-! ### The cascade of reports inside a command (log 6) -/

/-- The first order, in entry order, in FILL with wants to make or nothing left to wait for. -/
def State.readyOrder? (s : State) : Option EntryNo :=
  (List.finRange 32).find? fun e =>
    match s.order? e with
    | some o => o.stage == .fill && (o.wantsDue || !o.waitsMore)
    | none => false

/-- An order in FILL goes on: its wants, then its step (R135, R137). -/
def Ctx.advance (c : Ctx) (e : EntryNo) : Ctx :=
  match c.order? e with
  | none => c
  | some o =>
    if o.wantsDue then (c.setOrder e { o with wantsDue := false }).wantBlocks e o.needed
    else c.orderStep e

/-- Reports are taken until none is left: orders that can go on, then the Frame Wait Queue. -/
def Ctx.cascadeN : Nat → Ctx → Ctx
  | 0, c => c
  | n + 1, c =>
    match c.readyOrder? with
    | some e => Ctx.cascadeN n (c.advance e)
    | none => if c.serve then Ctx.cascadeN n c.serveQueue else c

/-- More rounds than one command can need: each of the 32 orders makes its wants, its step and its wants again at
most, and each round of the queue follows one of these (log 6). -/
def cascadeFuel : Nat := 256

/-- The cascade of one command. -/
def Ctx.cascade (c : Ctx) : Ctx := c.cascadeN cascadeFuel

/-! ### Snapshots (R177) -/

/-- The snapshot of one drive: the counters are copied and reset, and the record is written. -/
def Ctx.snapshotDrive (c : Ctx) (v : DriveNo) : Ctx :=
  (c.modDrive v fun d =>
    { d with health := d.health.take c.g (c.candidateCount v) (c.framesOf v).length }).recordWrite v none

/-! ### The checks at take (R130 to R133) -/

/-- N of a drive's active layout, while the layout-known mark is set. -/
def State.knownSize (s : State) (n : Nat) : Option Nat := (s.knownGeometry n).map Geometry.size

/-- The byte-range and buffer tests; passed over while N is not known (R131). -/
def rangeTestsFail (f : OrderFields) (kind : Kind) (size : Option Nat) : Bool :=
  match size with
  | none => false
  | some n =>
    match kind with
    | .read | .write =>
      (if f.length = 0 then f.offset != 0 else f.offset + f.length > f.count * n)
        || f.buffer + (if f.length = 0 then f.count * n else f.length) > memoryLimit
    | .exchange => f.buffer + n > memoryLimit || f.buffer2 + n > memoryLimit
    | _ => false

/-- The BAD_ORDER tests (R131, R157, R166). -/
def State.badOrder (s : State) (f : OrderFields) : Bool :=
  match f.kind? with
  | none => true
  | some kind =>
    (f.options &&& ~~~(allowedOptions kind)) != 0
      || (f.verify && f.early)
      || (!(kind == .release && f.scope == 1) && !countOk f.count)
      || (kind == .exchange && f.count != 1)
      || (f.readsDrive && f.drive > 3)
      || ((kind == .flush || kind == .snapshot) && f.scope > 1)
      || (kind == .checkout && f.mode != 0 && f.mode != 1)
      || (kind == .release && f.scope > 1)
      || (kind == .format && (f.scope > 3 || (f.suppliesLayout && f.buffer + 68 > memoryLimit)))
      || rangeTestsFail f kind (s.knownSize f.drive)

/-- The drive-state check applies to the order (R130). -/
def OrderFields.stateChecked (f : OrderFields) : Bool :=
  match f.kind? with
  | some .release | some .snapshot => false
  | some .flush => f.scope == 0
  | some _ => true
  | none => false

/-- The drive-state check (R132). -/
def State.stateRefusal (s : State) (f : OrderFields) : Option Code :=
  if !f.stateChecked then none
  else
    match driveOf? f.drive with
    | none => none
    | some v =>
      match (s.drive v).state with
      | .ready => none
      | .blank => if f.kind? = some .format ∧ f.suppliesLayout then none else some .blank
      | _ => some .notReady

/-- The RANGE check: the first block, or the track, at or beyond the capacity (R133, R166). -/
def State.rangeRefusal (s : State) (f : OrderFields) : Option Nat :=
  match driveOf? f.drive with
  | none => none
  | some v =>
    let d := s.drive v
    let capacity := match s.knownGeometry f.drive with
      | some geo => cylinders * geo.heads * geo.spt
      | none => 0
    match f.kind? with
    | some .read | some .write | some .checkout =>
      if f.block + f.count > capacity then some (max capacity f.block) else none
    | some .exchange | some .discard => if f.block ≥ capacity then some (max capacity f.block) else none
    | some .format => if f.trackScope && f.block ≥ cylinders * d.headCount then some f.block else none
    | _ => none

/-- PROTECTED refuses the writing kinds on a protected diskette (R133). -/
def State.protectedRefusal (s : State) (f : OrderFields) : Bool :=
  match f.kind?, driveOf? f.drive with
  | some kind, some v => kind.writes && (s.drive v).writeProtect
  | _, _ => false

/-- The write check at take (R162): the first block of the first lock that refuses the order. -/
def State.lockRefusal (s : State) (f : OrderFields) (d : DeskNo) : Option Nat :=
  match f.kind? with
  | some kind =>
    if kind.writes then
      match f.extent (s.knownGeometry f.drive) with
      | some x => (s.refusingLock d x).map Lock.first
      | none => none
    else none
  | none => none

/-- The checks 1 to 5 at take, in their order: the code and detail of the first that fails (R130). -/
def State.refusal (s : State) (f : OrderFields) (d : DeskNo) : Option (Code × Nat) :=
  if s.badOrder f then some (.badOrder, 0)
  else
    match s.stateRefusal f with
    | some code => some (code, 0)
    | none =>
      match s.rangeRefusal f with
      | some detail => some (.range, detail)
      | none =>
        if s.protectedRefusal f then some (.writeProtected, 0)
        else
          match s.lockRefusal f d with
          | some detail => some (.locked, detail)
          | none => none

/-- The generation recorded before the first check (R130). -/
def State.takeGeneration (s : State) (f : OrderFields) : Half :=
  match driveOf? f.drive with
  | some v => if f.allDrives then 0 else (s.drive v).generation
  | none => 0

/-- The next place in the order of take. -/
def State.nextSeq (s : State) : Nat := 1 + (s.orders.map fun x => x.2.seq).foldl max 0

/-- The order record filled at the take (R129). The extent is fixed here by the layout and the layout-known mark of the take,
also for a FORMAT whose supplied layout is still to be read (R162; the model's choice, log 64). -/
def State.newOrder (s : State) (d : DeskNo) (addr : Word) (f : OrderFields) : Order :=
  { addr := addr, desk := d, fields := f, generation := s.takeGeneration f, takeStamp := s.g, seq := s.nextSeq
    stage := .check
    extent := f.extent (s.knownGeometry f.drive)
    geometry := (s.knownGeometry f.drive).getD ⟨0, 0, 0, match driveOf? f.drive with
      | some v => (s.drive v).headCount
      | none => 0⟩
    period := match driveOf? f.drive with
      | some v => workingPeriod (s.drive v).timer.p16
      | none => none }

/-- The drives a FLUSH or SNAPSHOT names (R146, R148). -/
def OrderFields.names (f : OrderFields) (v : DriveNo) : Bool := f.scope == 1 || f.drive == v.val

/-- A DISCARD (R147): the track of its block. -/
def Ctx.discardOrder (c : Ctx) (e : EntryNo) (o : Order) : Ctx :=
  match o.keyOf (o.geometry.track o.fields.block) with
  | none => c.endOrder e .badOrder 0
  | some k =>
    let (refused, c1) := c.discard k
    c1.endOrder e (if refused then .inUse else .ok) 0

/-- A FLUSH (R146): its set is gathered, and an empty set ends it OK at once. -/
def Ctx.flushOrder (c : Ctx) (e : EntryNo) (o : Order) : Ctx :=
  let (ts, c1) := c.gather (fun v => o.fields.names v) true
  (c1.setOrder e { o with stage := .settle, targets := ts }).settleCheck e

/-- A SNAPSHOT order (R148). -/
def Ctx.snapshotOrder (c : Ctx) (e : EntryNo) (o : Order) : Ctx :=
  (c.forDrives fun v c => if o.fields.names v then c.snapshotDrive v else c).endOrder e .ok 0

/-! ### When work is taken away (R149 to R152) -/

/-- The kinds worked through tracks. -/
def Kind.worksTracks : Kind → Bool
  | .read | .write | .exchange => true
  | _ => false

/-- How MEDIA LOST for a drive ends an order: its detail, or none where it goes on (R149, R169, R173). CHECKOUT
waiters are the Lock Table's (R164). -/
def Order.mediaLostDetail (o : Order) (v : DriveNo) : Option Nat :=
  match o.fields.kind? with
  | some .read | some .write | some .exchange => if o.fields.drive = v.val then some o.partBlock else none
  | some .flush =>
    if o.fields.scope = 1 then
      if o.targets.any (fun t => t.drive == v && t.awaited) then some 0 else none
    else if o.fields.drive = v.val then some 0 else none
  | some .format => if o.fields.drive = v.val then some 0 else none
  | _ => none

/-- MEDIA LOST at the Order Engine (R149). -/
def Ctx.engineMediaLost (c : Ctx) (v : DriveNo) : Ctx :=
  c.forEntries fun e c =>
    match c.order? e with
    | none => c
    | some o =>
      match o.mediaLostDetail v with
      | some detail => c.endOrder e .mediaChanged detail
      | none => c

/-- FAULT HELD at the Order Engine: orders of the drive in FRAME, FETCH or FILL end NOT_READY (R151). -/
def Ctx.engineFaultHeld (c : Ctx) (v : DriveNo) : Ctx :=
  c.forEntries fun e c =>
    match c.order? e with
    | none => c
    | some o =>
      if o.fields.drive = v.val && (o.stage == .frame || o.stage == .fetch || o.stage == .fill) then
        c.endOrder e .notReady o.partBlock
      else c

/-- The entry to SHEDDING ends an order ABANDONED (R152). -/
def Order.shedEnds (o : Order) : Bool :=
  match o.fields.kind? with
  | some .read => true
  | some .write => o.stage != .settle
  | some .exchange => o.stage == .frame || o.stage == .fetch || o.stage == .fill
  | _ => false

/-- The entry to SHEDDING at the Order Engine (R152). -/
def Ctx.engineShed (c : Ctx) : Ctx :=
  c.forEntries fun e c =>
    match c.order? e with
    | none => c
    | some o => if o.shedEnds then c.endOrder e .abandoned 0 else c

end Sys2Proof.Machine
end

