-- ==== Sys2Proof/Machine/Sched.lean ====
section
/-! DEFINITION. The arm and the recalibration (01, 1.3), track jobs, the Access Scheduler's candidates, costs and picks
(chapter 5), and the Port Arbiter (03, 3.2). -/

namespace Sys2Proof.Machine

open Sys2Proof

/-! ### Track jobs (R94) -/

/-- The answer to a post. -/
inductive PostAnswer where
  | taken | busy | range | notTaken
  deriving DecidableEq, Repr

/-- The drive states in which a RECAL post is taken (R94). -/
def DriveState.takesRecal : DriveState → Bool
  | .ready | .blank | .formatting => true
  | _ => false

/-- A track job is posted (R94): one job at a time; a FORMAT_TRACK outside the diskette is refused RANGE; a RECAL is
taken only in READY, BLANK or FORMATTING. A DISCOVER or FORMAT_TRACK post not taken is answered JOB BUSY. -/
def Ctx.postJob (c : Ctx) (v : DriveNo) (j : Job) : PostAnswer × Ctx :=
  let d := c.drive v
  if j.kind = .formatTrack ∧ (j.cylinder ≥ cylinders ∨ j.head ≥ d.headCount) then (.range, c)
  else if j.kind = .recal ∧ !d.state.takesRecal then (.notTaken, c)
  else
    match d.sched.job with
    | some _ =>
      if j.kind = .recal then (.notTaken, c)
      else (.busy, c.modSched v fun x => { x with busy := x.busy ++ [j.requester] })
    | none => (.taken, ((c.modSched v fun x => { x with job := some j }).raiseMarks v).flagPick v)

/-- The densities of discovery's revolutions: MFM, FM, MFM, FM (1.6, R20). -/
def revolutionDensity (n : Nat) : Density := if n % 2 = 1 then .mfm else .fm

/-- Drive Control posts a DISCOVER job at the density of the present revolution (R20). -/
def Ctx.postDiscover (c : Ctx) (v : DriveNo) : Ctx :=
  (c.postJob v
    { kind := .discover, cylinder := 0, head := 0, stamp := c.g, rush := false, requester := .driveControl
      running := false, density := revolutionDensity (c.drive v).revolution, fill := 0 }).2

/-- RECAL REQUEST from the channel (R52, R94), with the drive's current cylinder. The record's head, which R94 does not
give, is 0 (log 48). -/
def Ctx.recalRequest (c : Ctx) (v : DriveNo) : Ctx :=
  (c.postJob v
    { kind := .recal, cylinder := (c.drive v).cylinder, head := 0, stamp := c.g, rush := false
      requester := .channel, running := false, density := .mfm, fill := 0 }).2

/-- JOB SLOT FREE reaches one requester answered JOB BUSY (R94): Drive Control posts again; a FORMAT may repost. -/
def Ctx.slotFreeTo (c : Ctx) (v : DriveNo) (r : Requester) : Ctx :=
  match r with
  | .driveControl => if (c.drive v).state = .discovery then c.postDiscover v else c
  | .format e => c.modOrder e fun o => if o.phase = .busy then { o with phase := .slotFree } else o
  | .channel | .gone _ => c

/-- The held track job ends or is dropped, and JOB SLOT FREE is reported (R94). -/
def Ctx.jobEnded (c : Ctx) (v : DriveNo) : Ctx :=
  let busy := (c.drive v).sched.busy
  let c1 := c.modSched v fun x => { x with job := none, busy := [] }
  busy.foldl (fun c r => c.slotFreeTo v r) c1

/-! ### The arm (R13, R14) -/

/-- One STEP pulse in a direction (R1). The arm moves, so the level of TRACK ZERO is one that no command has brought yet
(log 25). -/
def Lines.pulse (l : Lines) (inward : Bool) : Lines :=
  { l with inward := inward, steps := l.steps + 1, trackZero := none }

/-- The level of TRACK ZERO as Drive Control sees it (R1): the one last brought since the last pulse, else a free value
(log 25). -/
def State.trackZero (s : State) (v : DriveNo) : Bool :=
  let l := (s.drive v).lines
  l.trackZero.getD (Config.trackZero v l.steps)

/-- The wait after a pulse of this drive ends at (R13). -/
def State.stepDue (s : State) (v : DriveNo) : Word := later s.g (ms (s.drive v).profileOrZero.stepMs)

/-- A settle of this drive ends at (R13). -/
def State.settleDue (s : State) (v : DriveNo) : Word := later s.g (ms (s.drive v).profileOrZero.settleMs)

/-- A seek to a cylinder (R13): the target is recorded at once; a seek to the current cylinder completes at once and
leaves the arm free. -/
def Ctx.startSeek (c : Ctx) (v : DriveNo) (target : Nat) (back : Bool) : Ctx :=
  let d := c.drive v
  let n := (target - d.cylinder) + (d.cylinder - target)
  if n = 0 then c.modDrive v fun d => { d with arm := .free }
  else
    c.setDrive v { d with
      cylinder := target
      lines := d.lines.pulse (target > d.cylinder)
      arm := .seek (n - 1) (c.stepDue v) back }

/-- A RECAL job is complete (R14, R103): the owed mark is cleared (R52), the job is dropped, and the scheduler picks,
unless a restart hold makes it QUIET without a pick (R106). Where the job was dropped by a fault with cause SPEED while
its seek back ran on, that seek completes no job: the owed mark stays, and is asked for again (R105, log 45). -/
def Ctx.recalJobDone (c : Ctx) (v : DriveNo) : Ctx :=
  match (c.drive v).sched.job with
  | some j =>
    if j.kind = .recal ∧ j.running then
      let c2 := (c.modChan (portOf v) fun h => h.setOwed v false).jobEnded v
      if (c2.drive v).sched.state = .recalibrating then
        let c3 := c2.modSched v fun x => { x with state := .quiet }
        if (c3.drive v).sched.hold then c3 else c3.flagPick v
      else c2
    else c
  | none => c

/-- Enter DISCOVERY: revolution count 1, and the first DISCOVER job at MFM (R6, R20). -/
def Ctx.enterDiscovery (c : Ctx) (v : DriveNo) : Ctx :=
  ((c.modDrive v fun d => { d with revolution := 1 }).setDriveState v .discovery .none).postDiscover v

/-- A drive leaves RECAL after its recalibration, by its marks (R6). -/
def Ctx.leaveRecal (c : Ctx) (v : DriveNo) : Ctx :=
  let d := c.drive v
  if d.layoutKnown then c.setDriveState v .ready .none
  else if d.incomplete then (c.modDrive v fun d => { d with incomplete := false }).setDriveState v .blank .incomplete
  else c.enterDiscovery v

/-- A recalibration ends with TRACK ZERO seen: it is counted, cylinder 0 is recorded; in bring-up the owed mark is
cleared and the drive leaves RECAL; a RECAL job seeks back (R6, R14, R52). -/
def Ctx.recalSucceeded (c : Ctx) (v : DriveNo) (back : Option Nat) : Ctx :=
  let c1 := (c.count v .recal).modDrive v fun d => { d with cylinder := 0, arm := .free }
  match back with
  | none =>
    let c2 := c1.modChan (portOf v) fun h => h.setOwed v false
    if (c2.drive v).state = .recal then c2.leaveRecal v else c2
  | some b => if b = 0 then c1.recalJobDone v else c1.startSeek v b true

/-- A recalibration begins (R14): with TRACK ZERO high it ends at once; otherwise the first outward pulse is given. -/
def Ctx.startRecal (c : Ctx) (v : DriveNo) (back : Option Nat) : Ctx :=
  let d := c.drive v
  if c.trackZero v then c.recalSucceeded v back
  else c.setDrive v { d with lines := d.lines.pulse false, arm := .recal 1 (c.stepDue v) back }

/-- The arm runs a seek or its settle. -/
def Arm.seeking : Arm → Bool
  | .seek _ _ _ | .seekSettle _ _ => true
  | _ => false

/-- Enter RECAL: Drive Control recalibrates with no scheduler involved (R6), at once or, where a seek from before a fault
with cause SPEED still runs, at that seek's settle (R13, log 67). A cause INCOMPLETE held beneath a fault is shown again
(R8). -/
def Ctx.enterRecal (c : Ctx) (v : DriveNo) : Ctx :=
  let c1 := c.setDriveState v .recal (if (c.drive v).incomplete then .incomplete else .none)
  if (c1.drive v).arm.seeking then c1 else c1.startRecal v none

/-! ### Candidates (R93 to R96) -/

/-- A candidate of a drive (R93). -/
structure Cand where
  kind : WorkKind
  place : Place
  stamp : Word
  rush : Bool
  deriving DecidableEq, Repr

/-- The kind of a sector candidate by its state (R93). -/
def candKind : SectorState → Option WorkKind
  | .wanted => some .read
  | .dirty => some .write
  | .checkDue => some .check
  | _ => none

/-- The candidates in one frame (R93). -/
def Frame.cands (fr : Frame) : List Cand :=
  (List.range fr.sectors.length).filterMap fun i =>
    match fr.sectors[i]? with
    | none => none
    | some x => (candKind x.state).map fun k =>
        { kind := k, place := ⟨fr.key.cylinder, fr.key.head, some i⟩, stamp := x.stamp, rush := x.rush }

/-- All candidates of a drive (R93): its sector candidates and its track job while pending. -/
def State.cands (s : State) (v : DriveNo) : List Cand :=
  ((s.framesOf v).map Frame.cands).flatten ++
    match (s.drive v).sched.job with
    | some j =>
      if j.running then []
      else [{ kind := j.kind, place := ⟨j.cylinder, j.head, none⟩, stamp := j.stamp, rush := j.rush }]
    | none => []

/-- A kind of work is served in a drive state (R95). -/
def DriveState.serves : DriveState → WorkKind → Bool
  | .ready, _ | .blank, _ | .formatting, _ => true
  | .discovery, k => k == .discover
  | .absent, _ | .empty, _ | .spinup, _ | .recal, _ | .fault, _ => false

/-- A kind of work is served in a controller state (R95). -/
def CtlState.serves : CtlState → WorkKind → Bool
  | .starting, k | .stopped, k | .failed, k => k == .discover || k == .recal
  | .running, _ | .draining, _ => true
  | .shedding, k => k == .write || k == .recal
  | .safe, _ => false

/-- The served candidates of a drive (R95). -/
def State.served (s : State) (v : DriveNo) : List Cand :=
  (s.cands v).filter fun x => (s.drive v).state.serves x.kind && s.ctl.serves x.kind

/-- The age of a candidate, bounded (R24). -/
def State.candAge (s : State) (x : Cand) : Nat := min ageLimit (ageAt s.g x.stamp)

/-- A candidate is overdue (R96). -/
def State.overdue (s : State) (x : Cand) : Bool :=
  match s.header with
  | some h => h.overdue * 100000 ≤ s.candAge x
  | none => false

/-! ### The cost of a candidate (R97) -/

/-- Seek S (R97). -/
def Drive.seekTime (d : Drive) (cylinder : Nat) : Nat :=
  if cylinder = d.cylinder then 0
  else ((cylinder - d.cylinder) + (d.cylinder - cylinder)) * ms d.profileOrZero.stepMs + ms d.profileOrZero.settleMs

/-- Load H (R97). -/
def Drive.loadTime (d : Drive) (g : Word) : Nat :=
  match d.heads with
  | .loaded => 0
  | .loading start => ms d.profileOrZero.headLoadMs - ageAt g start
  | .unloaded => ms d.profileOrZero.headLoadMs

/-- The arm time a of a candidate, µs after index (R97): t_k - λ for a slot, -λ for a track job. -/
def Drive.candArmTime (d : Drive) (slot : Option Nat) : Int :=
  match slot, d.timer.active with
  | some k, some l => l.armTime k
  | _, _ => - (armingLead : Int)

/-- The rotational wait w = r - P * floor(r / P) (R97). -/
def rotationalWait (r : Int) (p : Nat) : Nat := (r % (p : Int)).toNat

/-- Cost C = D + w (R97). -/
def State.cost (s : State) (v : DriveNo) (x : Cand) : Nat :=
  let d := s.drive v
  let ready := max (d.seekTime x.place.cylinder) (d.loadTime s.g)
  let r := d.candArmTime x.place.slot - ((d.timer.phi : Int) + (ready : Int))
  ready + rotationalWait r ((workingPeriod d.timer.p16).getD 0)

/-! ### Choosing (R98 to R101) -/

/-- A candidate with what ranks it. -/
structure Ranked where
  cand : Cand
  cls : Nat
  isTarget : Bool
  age : Nat
  cost : Nat
  deriving DecidableEq, Repr

/-- The class of a candidate (R98); class 3 counts at an on-cylinder pick only. -/
def State.candClass (s : State) (x : Cand) (onCylinder : Bool) : Nat :=
  if x.kind = .recal then 1
  else if s.overdue x then 2
  else if onCylinder && x.place.slot.isNone then 3
  else if x.rush then 4
  else 5

/-- What ranks a candidate. `target` is the arm target of the pick made at ARM SETTLED (R98). -/
def State.rank (s : State) (v : DriveNo) (onCylinder : Bool) (target : Option Place) (x : Cand) : Ranked :=
  { cand := x, cls := s.candClass x onCylinder, isTarget := target == some x.place, age := s.candAge x
    cost := s.cost v x }

/-- Slot order, a track job before slot 0 (R98). -/
def slotOrder : Option Nat → Nat
  | none => 0
  | some k => k + 1

/-- The ranking keys in turn, each smaller first (R98). -/
def Ranked.keys (x : Ranked) : List Nat :=
  let older := ageLimit - x.age
  [x.cls, if x.isTarget then 0 else 1]
    ++ (if x.cls = 2 then [older, x.cost] else [x.cost, older])
    ++ [x.cand.place.cylinder, x.cand.place.head, slotOrder x.cand.place.slot]

/-- Lexicographic order of key lists. -/
def keysBefore : List Nat → List Nat → Bool
  | x :: xs, y :: ys => if x < y then true else if y < x then false else keysBefore xs ys
  | [], _ :: _ => true
  | _, [] => false

/-- The first of a list in the ranking of R98. -/
def bestOf (xs : List Ranked) : Option Ranked :=
  xs.foldl (fun best x => match best with
    | none => some x
    | some b => if keysBefore x.keys b.keys then some x else some b) none

/-- What a pick decides (R99). -/
inductive Pick where
  | nothing
  | recal
  | move (x : Cand)
  /-- Filed with the arbiter. `armPick` when an arm pick chose it: it is then the arm target too (R100). -/
  | file (x : Cand) (cost : Nat) (overdue armPick : Bool)
  deriving DecidableEq, Repr

/-- The pick (R99 to R101). `target` is present at the pick made at ARM SETTLED. -/
def State.pick (s : State) (v : DriveNo) (target : Option Place) : Pick :=
  let d := s.drive v
  let xs := s.served v
  let on (x : Cand) : Bool := x.place.cylinder == d.cylinder
  if xs.isEmpty then .nothing
  else if xs.any fun x => x.kind == .recal then .recal
  else
    let armPick := !xs.any on || xs.any (fun x => !on x && s.overdue x)
    let ranked := (if armPick then xs else xs.filter on).map (s.rank v (!armPick) target)
    match bestOf ranked with
    | none => .nothing
    | some b => if on b.cand then .file b.cand b.cost (b.cls == 2) armPick else .move b.cand

/-! ### The Port Arbiter (R40 to R42) -/

/-- The window and threshold of a read attempt by its number (R51). -/
def readSettings (n : Nat) : Window × Nat :=
  if n = 3 then (.early, 50)
  else if n = 4 then (.late, 50)
  else if n = 5 then (.centre, 40)
  else if n = 6 then (.centre, 60)
  else if n = 8 then (.centre, 70)
  else (.centre, 50)

/-- The attempt settings of a request (R45, R51): a read takes its ladder row; every other kind takes row 1. R45 names the
active layout's density; a FORMAT_TRACK job on a drive that has no active layout yet loads MFM, the model's choice
(log 61). -/
def State.settingsFor (s : State) (r : Request) : Settings :=
  let density :=
    if r.kind = .discover then r.density
    else match (s.drive r.drive).timer.active with | some l => l.density | none => .mfm
  let number :=
    match s.sectorAt ⟨r.drive, r.cylinder, r.head⟩ r.slot with
    | some (_, x) => x.attempts + 1
    | none => 1
  let (window, threshold) := if r.kind = .read then readSettings number else (.centre, 50)
  { density := density, window := window, threshold := threshold }

/-- The later of the request's start time and 200 µs after the grant (R45). -/
def armingAfter (g start : Word) : Word :=
  let ready := later g armingLead
  if (start - ready).toInt > 0 then start else ready

/-- CHANNEL GRANTED (R42, R45): the request is the current work, the burst count is 1, the select is changed if drive
and head differ, the settings are loaded, and the arming time is set. A track job is running from here. -/
def Ctx.grant (c : Ctx) (p : PortNo) (r : Request) : Ctx :=
  let h := c.chan p
  let same := h.selected == some (r.drive, r.head)
  let c1 := c.setChan p { h with
    state := .selecting, work := some r, burst := 1
    selected := some (r.drive, r.head)
    selectLine := if same then h.selectLine else none
    selectDue := if same then h.selectDue else some (later c.g 100)
    settings := c.settingsFor r
    arming := armingAfter c.g r.start
    found := none, field := none, staging := [] }
  c1.modSched r.drive fun x => { x with
    state := .served
    job := if r.kind = .formatTrack ∨ r.kind = .discover then x.job.map fun j => { j with running := true }
      else x.job }

/-- A request is filed (R40, R41): granted at once while the channel is IDLE with its round closed; otherwise it waits
pending, or is the drive's answer while the round is open. -/
def Ctx.fileRequest (c : Ctx) (r : Request) : Ctx :=
  let p := portOf r.drive
  let h := c.chan p
  let c1 := c.modSched r.drive fun x => { x with state := .filed }
  if h.state = .idle ∧ !h.roundOpen then c1.grant p r
  else c1.modChan p fun h => h.setPend r.drive (some r)

/-- A drive's pending request is withdrawn or removed (R40). -/
def Ctx.withdraw (c : Ctx) (v : DriveNo) : Ctx := c.modChan (portOf v) fun h => h.setPend v none

/-- The request filed for a candidate (R101). -/
def State.requestFor (s : State) (v : DriveNo) (x : Cand) (cost : Nat) (overdue : Bool) : Request :=
  let job := (s.drive v).sched.job
  { drive := v, kind := x.kind, cylinder := x.place.cylinder, head := x.place.head, slot := x.place.slot.getD 0
    start := later s.g cost, overdue := overdue, rush := x.rush, attempt := 0
    density := match job with | some j => j.density | none => .mfm
    fill := match job with | some j => j.fill | none => 0 }

/-- The heads are UNLOADED. -/
def Drive.unloaded (d : Drive) : Bool := d.heads == .unloaded

/-- Leaving QUIET sets the idle count to 0 (R104). -/
def Ctx.leaveQuiet (c : Ctx) (v : DriveNo) : Ctx := c.modSched v fun x => { x with idle := 0 }

/-- A pick is acted on (R99 to R103). An arm that is still moved by an earlier seek accepts no seek and no
recalibration, and the scheduler is then QUIET (log 17). A RECAL job that completes at once is followed by a pick (R103), which
is made here, at a release round inside the round that is still open: the model's choice (R102, log 71). -/
def Ctx.pickN : Nat → Ctx → DriveNo → Option Place → Ctx
  | 0, c, _, _ => c
  | n + 1, c, v, target =>
    let quiet := c.modSched v fun x => { x with state := .quiet }
    match c.pick v target with
    | .nothing => quiet
    | .recal =>
      if (c.drive v).arm = .free then
        let c1 := (c.withdraw v).modSched v fun x => { x with
          state := .recalibrating, idle := 0, job := x.job.map fun j => { j with running := true } }
        let c2 := c1.startRecal v (some (c1.drive v).cylinder)
        if (c2.drive v).sched.state = .quiet then Ctx.pickN n c2 v none else c2
      else quiet
    | .move x =>
      if (c.drive v).arm = .free then
        let c1 := (c.leaveQuiet v).modSched v fun y => { y with state := .moving, target := some x.place }
        let c2 := if (c1.drive v).unloaded then c1.loadRequest v else c1
        c2.startSeek v x.place.cylinder false
      else quiet
    | .file x cost overdue armPick =>
      let c1 := (c.leaveQuiet v).modSched v fun y => { y with target := if armPick then some x.place else y.target }
      let r := c1.requestFor v x cost overdue
      let c2 := if (c1.drive v).unloaded then c1.loadRequest v else c1
      c2.fileRequest r

/-- A pick at a pick point (R99). -/
def Ctx.pickNow (c : Ctx) (v : DriveNo) (target : Option Place) : Ctx := c.pickN 3 v target

/-- A drive's answer to a release round (R41, R102): MOVING and RECALIBRATING answer NONE, a drive under a restart hold
answers NONE, and the others pick afresh. What the pick after a RECAL job that completes at once files is the drive's answer
(log 71). -/
def Ctx.answerRound (c : Ctx) (v : DriveNo) : Ctx :=
  let x := (c.drive v).sched
  match x.state with
  | .moving | .recalibrating => c
  | .quiet | .filed | .served => if x.hold then c else c.pickNow v none

/-- The better of two answers (R42): earliest start time from the moment of the grant, then overdue, rush, and the
lower drive number. -/
def betterAnswer (g : Word) (a b : Request) : Request :=
  let x := (a.start - g).toInt
  let y := (b.start - g).toInt
  if x < y then a
  else if y < x then b
  else if a.overdue && !b.overdue then a
  else if b.overdue && !a.overdue then b
  else if a.rush && !b.rush then a
  else if b.rush && !a.rush then b
  else if a.drive ≤ b.drive then a else b

/-- A release round (R41, R42): both drives answer, the round closes, and the best answer is granted. -/
def Ctx.releaseRound (c : Ctx) (p : PortNo) : Ctx :=
  let c1 := (c.answerRound (lowDrive p)).answerRound (highDrive p)
  let h := c1.chan p
  let c2 := c1.setChan p { h with pendLow := none, pendHigh := none, roundOpen := false }
  match h.pendLow, h.pendHigh with
  | none, none => c2
  | some a, none => c2.grant p a
  | none, some b => c2.grant p b
  | some a, some b => c2.grant p (betterAnswer c2.g a b)

/-- A QUIET scheduler's pick point (R99), passed over under a restart hold (R106). -/
def Ctx.pickPoint (c : Ctx) (v : DriveNo) : Ctx :=
  let x := (c.drive v).sched
  if x.state = .quiet ∧ !x.hold then c.pickNow v none else c

/-- The last part of a command: release rounds of the channels that became IDLE, then the pick points. -/
def Ctx.picksAndRounds (c : Ctx) : Ctx :=
  let rounds := c.rounds
  let c1 := rounds.foldl (fun c p => c.releaseRound p) { c with rounds := [] }
  let picks := c1.picks
  picks.foldl (fun c v => c.pickPoint v) { c1 with picks := [] }

end Sys2Proof.Machine
end

