-- ==== Sys2Proof/Machine/Desks.lean ====
section
/-! DEFINITION. The desks: looks along a chain, holds, the table wait list, desk faults, the end of an order at its
desk (chapter 6), the entries to RUNNING, and the tests that end a drain or a shed (chapter 11). -/

namespace Sys2Proof.Machine

open Sys2Proof

/-! ### Looks and the table wait list (R118 to R122) -/

/-- A desk looks along its chain: the link is read afresh (R118). -/
def Ctx.beginLook (c : Ctx) (d : DeskNo) : Ctx := c.modDesk d fun k => { k with look := .link }

/-- The free entry of the Active Order Table that a take uses: the lowest-numbered, since R120 asks only for a free one
(log 49). -/
def State.freeEntry? (s : State) : Option EntryNo := (List.finRange 32).find? fun e => s.slot e == .free

/-- The entry reserved for a desk (R122). -/
def State.reservedFor? (s : State) (d : DeskNo) : Option EntryNo :=
  (List.finRange 32).find? fun e => s.slot e == .reserved d

/-- An entry is freed: it is reserved for the desk at the head of the table wait list, which leaves the list and
looks again, or it becomes free (R122). -/
def Ctx.giveEntry (c : Ctx) (e : EntryNo) : Ctx :=
  match c.tableWait with
  | [] => c.setSlot e .free
  | d :: ds => (({ c with tableWait := ds } : Ctx).setSlot e (.reserved d)).beginLook d

/-- A desk's look ends without a take: a reservation it holds is given on (R122). -/
def Ctx.releaseReservation (c : Ctx) (d : DeskNo) : Ctx :=
  match c.reservedFor? d with
  | some e => c.giveEntry e
  | none => c

/-- A look ends and the desk leaves the table wait list (R122, R123, R125). A link or block read that is outstanding for it is
given up: the model's choice (log 72). -/
def Ctx.stopLook (c : Ctx) (d : DeskNo) : Ctx :=
  (({ c with tableWait := c.tableWait.filter (· ≠ d) } : Ctx).modDesk d fun k =>
    { k with look := .none }).releaseReservation d

/-- A desk at the end of its chain looks once more if its latch is set, else it becomes IDLE (R119). -/
def Ctx.endOfChain (c : Ctx) (d : DeskNo) : Ctx :=
  let c1 := c.releaseReservation d
  if (c1.desk d).latch then c1.modDesk d fun k => { k with latch := false, look := .link }
  else (c1.modDesk d fun k => { k with state := .idle, look := .none }).entryWrite d

/-- The orders of a desk taken and not yet finished. -/
def State.deskOrders (s : State) (d : DeskNo) : List Order := (s.orders.map (·.2)).filter fun o => o.desk == d

/-- An order's fields write, for the overlap hold (R121). -/
def OrderFields.writes (f : OrderFields) : Bool :=
  match f.kind? with
  | some k => k.writes
  | none => false

/-- The overlap test of a block against one in-flight order of its desk (R121). -/
def overlapsOrder (f : OrderFields) (extent : Option Extent) (o : Order) : Bool :=
  match extent, o.extent with
  | some a, some b => a.overlaps b && (f.writes || o.fields.writes)
  | _, _ => false

/-- The first hold that applies to a desk's POSTED next block (R121). -/
def State.holdOf (s : State) (d : DeskNo) (f : OrderFields) : Option Hold :=
  let k := s.desk d
  if 4 ≤ k.inFlight then some .window
  else if (s.reservedFor? d).isNone && s.freeEntry?.isNone then some .table
  else if f.barrier && 0 < k.inFlight then some .barrier
  else if (s.deskOrders d).any (overlapsOrder f (f.extent (s.knownGeometry f.drive))) then some .overlap
  else none

/-- A POSTED next block: the desk is held, or its entry is set aside (log 10) and the TAKEN write begins (R120 to
R122). -/
def Ctx.considerBlock (c : Ctx) (d : DeskNo) (addr : Word) (f : OrderFields) : Ctx :=
  match c.holdOf d f with
  | some h =>
    let c1 := c.modDesk d fun k => { k with look := .held h }
    if h = .table then
      { c1 with tableWait := if d ∈ c1.tableWait then c1.tableWait else c1.tableWait ++ [d] }
    else c1.releaseReservation d
  | none =>
    match (c.reservedFor? d).or c.freeEntry? with
    | some e => (c.setSlot e (.reserved d)).modDesk d fun k => { k with look := .taking addr f }
    | none => c

/-! ### Desk faults, HALT and ATTEND (R123 to R127) -/

/-- Fetching has stopped: HALTING with orders in flight, else HALTED (R123, R125). -/
def Desk.stopped (k : Desk) : DeskState := if 0 < k.inFlight then .halting else .halted

/-- A desk fault (R123). A desk that stands in a fault already keeps the code of that one. -/
def Ctx.deskFault (c : Ctx) (d : DeskNo) (code : DeskFault) : Ctx :=
  let c1 := ((c.stopLook d).abandonWaiters d).modDesk d fun k =>
    { k with
      latch := false
      fault := if k.faultStands then k.fault else code
      state := k.stopped }
  (c1.entryWrite d).setNotice deskFaultBit

/-- A HALT of a desk in IDLE or FETCHING (R125). -/
def Ctx.haltDesk (c : Ctx) (d : DeskNo) : Ctx :=
  match (c.desk d).state with
  | .idle | .fetching =>
    ((((c.stopLook d).modDesk d fun k => { k with latch := false }).abandonWaiters d).modDesk d fun k =>
      { k with state := k.stopped }).entryWrite d
  | .halting | .halted => c

/-- An ATTEND of a desk (R124). -/
def Ctx.attendDesk (c : Ctx) (d : DeskNo) : Ctx :=
  match (c.desk d).state with
  | .idle => ((c.modDesk d fun k => { k with latch := false, state := .fetching }).entryWrite d).beginLook d
  | .fetching => c.modDesk d fun k => { k with latch := true }
  | .halting | .halted => c

/-- A desk RESTART of a HALTED desk (R126). -/
def Ctx.restartDesk (c : Ctx) (d : DeskNo) : Ctx :=
  if (c.desk d).state = .halted then
    ((c.modDesk d fun k =>
      { k with fault := .none, cursor := none, latch := false, state := .fetching }).entryWrite d).beginLook d
  else c

/-- At the leaving of RUNNING each FETCHING desk ends its look and becomes IDLE at its cursor with the latch clear
(R117); the table wait list is emptied (R122). -/
def Ctx.parkDesks (c : Ctx) : Ctx :=
  ({ c with tableWait := [] } : Ctx).forDesks fun d c =>
    if (c.desk d).state = .fetching then
      ((c.stopLook d).modDesk d fun k => { k with state := .idle, latch := false }).entryWrite d
    else c

/-! ### The end of an order at its desk (R116) -/

/-- The end of one of the desk's orders releases a window, barrier or overlap hold: the desk looks again (R121). -/
def Ctx.releaseHold (c : Ctx) (d : DeskNo) : Ctx :=
  let k := c.desk d
  match k.state, k.look with
  | .fetching, .held .window | .fetching, .held .barrier | .fetching, .held .overlap => c.beginLook d
  | _, _ => c

/-- The DONE write ended well: counts, entry, DESK_DONE, the table entry, and the desk's own hold (R116). A HALTING
desk becomes HALTED at the end of its last order (R123, R125). -/
def Ctx.retireDone (c : Ctx) (e : EntryNo) (o : Order) : Ctx :=
  let d := o.desk
  let c1 := (c.modDesk d fun k =>
    let n := k.inFlight - 1
    { k with
      done := k.done + 1, inFlight := n
      state := if k.state = .halting ∧ n = 0 then .halted else k.state }).entryWrite d
  let c2 := if o.fields.notify then c1.setNotice (deskDoneBit d) else c1
  (c2.giveEntry e).releaseHold d

/-- A memory-bus error on the result or DONE write: the order is finished all the same, and the desk faults (R116). -/
def Ctx.retireFaulted (c : Ctx) (e : EntryNo) (o : Order) : Ctx :=
  let d := o.desk
  ((c.modDesk d fun k => { k with inFlight := k.inFlight - 1 }).giveEntry e).deskFault d .busError

/-! ### Entries to RUNNING, STOPPED and SAFE (R117, R182 to R186) -/

/-- Every drive record is written (R113). -/
def Ctx.writeAllRecords (c : Ctx) : Ctx := c.forDrives fun v c => c.recordWrite v none

/-- A desk is set up at the entry to RUNNING from STARTING (R117). One outside the run is HALTED: a desk that an earlier
drain left IDLE, and that a smaller desk count now leaves out, becomes so (log 54). -/
def Ctx.setUpDesk (c : Ctx) (d : DeskNo) : Ctx :=
  if c.deskInRun d then
    (c.modDesk d fun k => { k with
      state := .fetching, fault := .none, cursor := none, latch := false, taken := 0, done := 0, inFlight := 0
      look := .link }).entryWrite d
  else c.modDesk d fun k => { k with state := .halted }

/-- The entry to RUNNING from STARTING (R117, R179, R182). The writes that an earlier restart left no longer move the
done counts, which begin at 0 (log 12). -/
def Ctx.enterRunning (c : Ctx) (h : Header) : Ctx :=
  let c1 := ({ c with
    header := some h, start := .idle
    orphans := c.orphans.map fun x => { x with counts := false } } : Ctx).setCtl .running
  let c2 := (c1.forDesks fun d c => c.setUpDesk d).writeAllRecords
  { c2 with snapTimer :=
      if h.snapshotInterval = 0 then none else some (later c.g (h.snapshotInterval * 1000000)) }

/-- The entry to RUNNING from DRAINING or SAFE: the records are written, and every IDLE desk that takes part in the run
is attended (R111, R127, R183, R186). -/
def Ctx.resumeRunning (c : Ctx) : Ctx :=
  ((c.setCtl .running).writeAllRecords).forDesks fun d c =>
    if (c.desk d).state = .idle ∧ c.deskInRun d then c.attendDesk d else c

/-- The entry to STOPPED; the snapshot timer is cancelled (R179, R184, R186). A start is given up here, and with it the read
of its header: the model's choice (R187, log 70). -/
def Ctx.enterStopped (c : Ctx) : Ctx := { c.setCtl .stopped with snapTimer := none, start := .idle }

/-- A drive's probe is not finished: its profile is still to be read, or its arm is being tested (R3, R182). -/
def Drive.probing (d : Drive) : Bool :=
  d.profileReads.any (fun p => p != .load) ||
    match d.arm with
    | .probe _ _ _ | .probeSettle _ => true
    | _ => false

/-- Step 4 of a start: when every probe has finished, RUN and the warning decide (R182). -/
def Ctx.startCheck (c : Ctx) : Ctx :=
  match c.ctl, c.start with
  | .starting, .probing h =>
    if (List.finRange 4).any fun v => (c.drive v).probing then c
    else if !c.run then c.enterStopped
    else if c.warning then c
    else c.enterRunning h
  | _, _ => c

/-- SAFE is left by the held RUN bit (R186). -/
def Ctx.leaveSafe (c : Ctx) : Ctx := if c.run then c.resumeRunning else c.enterStopped

/-- The drive is in FAULT and its fault expiry has arrived: its sectors are not counted by the drain and the shed
(R184, R185). -/
def Drive.expired (d : Drive) : Bool := d.state == .fault && d.expiry == .arrived

/-- Some HELD frame of a counted drive holds a sector that a test names (R91). -/
def State.anySector (s : State) (test : SectorState → Bool) : Bool :=
  (List.finRange 4).any fun v => !(s.drive v).expired && 0 < s.countSectors v test

/-- The Active Order Table holds no order. -/
def State.tableEmpty (s : State) : Bool := s.orders.isEmpty

/-- The heads of every drive are unloaded (R184, R185). -/
def Ctx.unloadAll (c : Ctx) : Ctx := c.forDrives fun v c => c.unloadRequest v

/-- The sectors that hold the shed: DIRTY and WRITING (R185). -/
def SectorState.holdsShed : SectorState → Bool
  | .dirty | .writing => true
  | _ => false

/-- The drain test and the shed test, and what their completion does (R184 to R186). -/
def Ctx.testDone (c : Ctx) : Ctx :=
  if c.ctl = .draining ∧ c.tableEmpty ∧ !c.anySector SectorState.unsettled then c.unloadAll.enterStopped
  else if c.ctl = .shedding ∧ c.tableEmpty ∧ !c.anySector SectorState.holdsShed then
    let c1 := (c.unloadAll.setNotice safeBit).setCtl .safe
    if c1.warning then c1 else c1.leaveSafe
  else c

/-! ### The end of a command -/

/-- The last part of every command: the remaining reports, the tests, the release rounds and the picks (log 6). -/
def Ctx.finish (c : Ctx) : State := (c.cascade.testDone.picksAndRounds).toState

/-- Outcome of a command that always completes. -/
def Ctx.next (c : Ctx) : Host.Outcome State Fault Refusal := .next c.finish

end Sys2Proof.Machine
end

