-- ==== Sys2Proof/Machine/Format.lean ====
section
/-! DEFINITION. FORMAT orders: acceptance, discards, FORMAT_TRACK jobs, the drain and the entry step (chapter 9), and
the dispatch of an order that has passed its checks at take (R130 step 6). -/

namespace Sys2Proof.Machine

open Sys2Proof

/-- How a FORMAT_TRACK job ended, as its FORMAT sees it (R169, R173). -/
inductive JobEnd where
  | good | overrun | fault | mediaLost
  deriving DecidableEq, Repr

/-- The order is a FORMAT. -/
def Order.isFormat (o : Order) : Bool := o.fields.kind? == some .format

/-- A FORMAT in flight on a drive: it has passed its checks, and its DONE write, which frees its entry, has not ended
(R130, R167). -/
def Order.formatOn (o : Order) (v : DriveNo) : Bool := o.isFormat && o.passed && o.fields.drive == v.val

/-- The track of a FORMAT: cylinder t div hc, head t mod hc (R166). -/
def State.trackKey (s : State) (v : DriveNo) (t : Nat) : Key :=
  { drive := v, cylinder := t / (s.drive v).headCount, head := t % (s.drive v).headCount }

/-- An order other than a FORMAT stands in the way of a diskette format (R167 item 4). -/
def State.usesDrive (s : State) (e : EntryNo) (o : Order) (v : DriveNo) : Bool :=
  (match o.frame with | some f => (s.frame f).key.drive == v | none => false)
    || s.fwq.any (fun w => w.order == e && w.key.drive == v)
    || (o.stage == .fill && o.fields.drive == v.val)
    || (o.stage == .settle && o.targets.any fun t => t.drive == v && t.awaited)

/-- The IN_USE test of a FORMAT over the other orders (R167 item 4, R171 item 1). -/
def State.formatInUse (s : State) (e : EntryNo) (f : OrderFields) (v : DriveNo) : Bool :=
  s.orders.any fun (e', o) =>
    e' != e &&
      if f.trackScope then o.formatOn v && (!o.fields.trackScope || o.fields.block == f.block)
      else o.formatOn v || (!o.isFormat && s.usesDrive e' o v)

/-- A diskette format ends without success: a drive still FORMATTING becomes BLANK with cause INCOMPLETE and its
layout-known mark clear (R173). -/
def Ctx.blankIncomplete (c : Ctx) (v : DriveNo) : Ctx :=
  if (c.drive v).state = .formatting then
    (c.modDrive v fun d => { d with layoutKnown := false, incomplete := false }).setDriveState v .blank .incomplete
  else c

/-- An order's entry, order and drive, if the entry holds a FORMAT that has not ended. -/
def State.format? (s : State) (e : EntryNo) : Option (Order × DriveNo) :=
  match s.order? e with
  | some o =>
    if o.isFormat && o.stage != .finish then (driveOf? o.fields.drive).map fun v => (o, v) else none
  | none => none

/-- A FORMAT posts the job of its current track (R169 step 2, R172): the generation check, for a track format the
drive state, then the post. -/
def Ctx.formatPost (c : Ctx) (e : EntryNo) : Ctx :=
  match c.format? e with
  | none => c
  | some (o, v) =>
    let d := c.drive v
    let t := o.track.getD 0
    let k := c.trackKey v t
    if o.generation ≠ d.generation then c.endOrder e .mediaChanged 0
    else if o.fields.trackScope ∧ d.state ≠ .ready ∧ d.state ≠ .blank then c.endOrder e .notReady t
    else
      let (answer, c1) := c.postJob v
        { kind := .formatTrack, cylinder := k.cylinder, head := k.head, stamp := c.g, rush := o.fields.rush
          requester := .format e, running := false, density := .mfm, fill := o.fields.mode }
      match answer with
      | .taken => c1.modOrder e fun o => { o with phase := .posted }
      | .busy => c1.modOrder e fun o => { o with phase := .busy }
      | .range | .notTaken => (c1.blankIncomplete v).endOrder e .range t

/-- The store records a FORMAT as waiting on the frame of a track (R168). -/
def Ctx.waitQuiet (c : Ctx) (e : EntryNo) (k : Key) : Ctx :=
  match c.frameOf k with
  | some f => { c with quiet := c.quiet ++ [⟨e, f, false⟩] }
  | none => c

/-- The discard waits of a FORMAT are removed (R168). -/
def Ctx.dropQuiet (c : Ctx) (e : EntryNo) : Ctx := { c with quiet := c.quiet.filter fun q => q.order ≠ e }

/-- The first discard of a track format, and its post once that succeeds (R169 steps 1 and 2). -/
def Ctx.formatDiscard1 (c : Ctx) (e : EntryNo) : Ctx :=
  match c.format? e with
  | none => c
  | some (o, v) =>
    let k := c.trackKey v (o.track.getD 0)
    let (refused, c1) := c.discard k
    if refused then c1.waitQuiet e k else c1.formatPost e

/-- The second discard of a track format, and its end once that succeeds (R169 step 4). -/
def Ctx.formatDiscard2 (c : Ctx) (e : EntryNo) (overrun : Bool) : Ctx :=
  match c.format? e with
  | none => c
  | some (o, v) =>
    let t := o.track.getD 0
    let k := c.trackKey v t
    let (refused, c1) := c.discard k
    if refused then c1.waitQuiet e k
    else if overrun then c1.endOrder e .trackOverrun t
    else c1.endOrder e .ok 0

/-- A FORMAT meets its own refusals and goes into flight (R167): legality against the P of the take, equality for
scope 2, IN_USE. A track format asks its first discard; a diskette format gathers its drain set (R169, R170). -/
def Ctx.formatAccept (c : Ctx) (e : EntryNo) (o : Order) (layout : Option Layout) : Ctx :=
  match driveOf? o.fields.drive, layout with
  | some v, some l =>
    if !l.legal o.period then c.endOrder e .badOrder 0
    else if o.fields.scope = 2 ∧ (c.drive v).timer.active ≠ some l then c.endOrder e .badOrder 0
    else if c.formatInUse e o.fields v then c.endOrder e .inUse 0
    else if o.fields.trackScope then
      (c.setOrder e { o with
        layout := some l, passed := true, stage := .job, phase := .discard1, track := some o.fields.block }
      ).formatDiscard1 e
    else
      let (ts, c1) := c.gather (fun w => w == v) false
      c1.setOrder e { o with layout := some l, passed := true, stage := .settle, phase := .drain, targets := ts }
  | _, _ => c.endOrder e .badOrder 0

/-- A diskette format has written its last track (R172). -/
def Ctx.formatSuccess (c : Ctx) (e : EntryNo) (v : DriveNo) : Ctx :=
  ((c.modDrive v fun d => { d with layoutKnown := true }).setDriveState v .ready .none).endOrder e .ok 0

/-- The end of a diskette format's job (R172 to R174). Under SHEDDING a GOOD outcome ends the order ABANDONED. -/
def Ctx.disketteJobEnd (c : Ctx) (e : EntryNo) (o : Order) (v : DriveNo) (r : JobEnd) : Ctx :=
  let t := o.track.getD 0
  match r with
  | .good =>
    let c1 := c.setOrder e { o with tracks := o.tracks + 1 }
    if c.ctl = .shedding then (c1.blankIncomplete v).endOrder e .abandoned 0
    else if t + 1 < cylinders * (c.drive v).headCount then
      (c1.modOrder e fun o => { o with track := some (t + 1) }).formatPost e
    else c1.formatSuccess e v
  | .overrun => (c.blankIncomplete v).endOrder e .trackOverrun t
  | .fault => (c.blankIncomplete v).endOrder e .notReady t
  | .mediaLost => (c.blankIncomplete v).endOrder e .mediaChanged 0

/-- The end of a FORMAT's track job, GOOD, overrun, or taken away (R169, R173). -/
def Ctx.formatJobEnd (c : Ctx) (e : EntryNo) (r : JobEnd) : Ctx :=
  match c.format? e with
  | none => c
  | some (o, v) =>
    if o.phase ≠ .posted then c
    else if o.fields.trackScope then
      match r with
      | .good =>
        (c.setOrder e { o with tracks := o.tracks + 1, phase := .discard2 false }).formatDiscard2 e false
      | .overrun => (c.setOrder e { o with phase := .discard2 true }).formatDiscard2 e true
      | .fault => c.endOrder e .notReady (o.track.getD 0)
      | .mediaLost => c.endOrder e .mediaChanged 0
    else c.disketteJobEnd e o v r

/-- The drain of a diskette format has ended: no entry of its set is AWAITED (R170). -/
def Order.drainEnded (o : Order) : Bool := o.phase == .drain && !o.targets.any Target.awaited

/-- A FORMAT waits on a frame whose FRAME QUIET was reported (R168). -/
def State.quietTold (s : State) (e : EntryNo) : Bool := s.quiet.any fun q => q.order == e && q.told

/-- Ask the discard of every HELD frame of a drive; the frames that refused (R171 item 3). -/
def Ctx.discardAll (c : Ctx) (v : DriveNo) : List FrameNo × Ctx :=
  (List.finRange 16).foldl
    (fun acc f =>
      let (refused, c) := acc
      let fr := c.frame f
      if fr.held && fr.key.drive == v then
        let (no, c1) := c.discard fr.key
        (if no then refused ++ [f] else refused, c1)
      else (refused, c)) ([], c)

/-- The drive enters FORMATTING, a supplied layout is staged, and the first track is posted (R171 item 4). -/
def Ctx.enterFormatting (c : Ctx) (e : EntryNo) (o : Order) (v : DriveNo) : Ctx :=
  let c1 := c.setDriveState v .formatting .none
  let c2 := if o.fields.suppliesLayout then c1.modTimer v fun t => { t with staged := o.layout } else c1
  (c2.modOrder e fun o => { o with stage := .job, phase := .posted, track := some 0, targets := [] }).formatPost e

/-- The entry step of a diskette format (R171). -/
def Ctx.formatEntry (c : Ctx) (e : EntryNo) : Ctx :=
  match c.format? e with
  | none => c
  | some (o, v) =>
    let d := c.drive v
    if c.formatInUse e o.fields v then c.endOrder e .inUse 0
    else if d.state ≠ .ready ∧ d.state ≠ .blank then c.endOrder e .notReady 0
    else
      let (refused, c1) := (c.dropQuiet e).discardAll v
      match refused with
      | [] => c1.enterFormatting e o v
      | fs => { c1.modOrder e (fun o => { o with phase := .entry }) with
          quiet := c1.quiet ++ fs.map fun f => ⟨e, f, false⟩ }

/-- FRAME QUIET at a FORMAT: the discard, or the entry step, is made again (R168, R171 item 5). -/
def Ctx.formatRetry (c : Ctx) (e : EntryNo) : Ctx :=
  match c.format? e with
  | none => c
  | some (o, _) =>
    if c.quietTold e then
      match o.phase with
      | .discard1 => (c.dropQuiet e).formatDiscard1 e
      | .discard2 overrun => (c.dropQuiet e).formatDiscard2 e overrun
      | .entry => c.formatEntry e
      | _ => c
    else c

/-- A FORMAT at the entry of its drive to FAULT (R169, R173). One whose job is pending or running ends with the job. -/
def Ctx.formatAtFault (c : Ctx) (e : EntryNo) (v : DriveNo) : Ctx :=
  match c.format? e with
  | none => c
  | some (o, w) =>
    if w ≠ v ∨ o.stage ≠ .job then c
    else
      match o.phase with
      | .discard1 | .discard2 _ | .busy | .slotFree => c.endOrder e .notReady (o.track.getD 0)
      | _ => if o.fields.trackScope then c else c.endOrder e .notReady (o.track.getD 0)

/-- The FORMATs of a drive at its entry to FAULT. -/
def Ctx.formatsAtFault (c : Ctx) (v : DriveNo) : Ctx := c.forEntries fun e c => c.formatAtFault e v

/-- A pending FORMAT_TRACK job is withdrawn, with its request at the arbiter (R94). -/
def Ctx.withdrawJob (c : Ctx) (v : DriveNo) : Ctx :=
  let c1 := match (c.chan (portOf v)).pend v with
    | some r => if r.kind = WorkKind.formatTrack then c.withdraw v else c
    | none => c
  c1.jobEnded v

/-- A FORMAT ends ABANDONED; a diskette format in FORMATTING leaves its drive BLANK (R173, R174). -/
def Ctx.abandonFormat (c : Ctx) (e : EntryNo) (o : Order) (v : DriveNo) : Ctx :=
  (if o.stage = .job ∧ !o.fields.trackScope then c.blankIncomplete v else c).endOrder e .abandoned 0

/-- The job held by a drive's scheduler is this FORMAT's. -/
def State.jobOf? (s : State) (v : DriveNo) (e : EntryNo) : Option Job :=
  match (s.drive v).sched.job with
  | some j => if j.requester = .format e then some j else none
  | none => none

/-- A FORMAT at the entry to SHEDDING (R174): one whose job is granted waits for the outcome, every other ends. -/
def Ctx.formatAtShed (c : Ctx) (e : EntryNo) : Ctx :=
  match c.format? e with
  | none => c
  | some (o, v) =>
    match c.jobOf? v e with
    | some j => if j.running then c else (c.withdrawJob v).abandonFormat e o v
    | none => c.abandonFormat e o v

/-- The FORMATs at the entry to SHEDDING. -/
def Ctx.formatsAtShed (c : Ctx) : Ctx := c.forEntries fun e c => c.formatAtShed e

/-! ### The work of an order that has passed its checks (R130 step 6) -/

/-- The order's kind begins its work (R130 step 6). -/
def Ctx.beginWork (c : Ctx) (e : EntryNo) : Ctx :=
  match c.order? e with
  | none => c
  | some o =>
    match o.fields.kind? with
    | some .read | some .write | some .exchange =>
      (c.setOrder e { o with passed := true }).startTrack e (firstTrack o.fields o.geometry)
    | some .flush => c.flushOrder e o
    | some .discard => c.discardOrder e o
    | some .checkout => c.decideCheckout e o
    | some .release => c.release e o
    | some .snapshot => c.snapshotOrder e o
    | some .format =>
      if o.fields.suppliesLayout then c.setOrder e { o with phase := .readLayout }
      else
        c.formatAccept e o (match driveOf? o.fields.drive with
          | some v => (c.drive v).timer.active
          | none => none)
    | none => c.endOrder e .badOrder 0

/-- The order is validated at its take: refused with the first failing code, or carried on (R130). -/
def Ctx.validate (c : Ctx) (e : EntryNo) : Ctx :=
  match c.order? e with
  | none => c
  | some o =>
    match c.refusal o.fields o.desk with
    | some (code, detail) => c.endOrder e code detail
    | none => c.beginWork e

end Sys2Proof.Machine
end

