-- ==== Sys2Proof/Machine/ReadSignal.lean ====
section
/-! DEFINITION. The read signal of a port as the channel samples it: cells, windows, counted transitions, sync runs,
marks and bytes (R16, R46, R47). What the spec does not say of the recording of a bit is log 26. -/

namespace Sys2Proof.Machine

open Sys2Proof

/-- The length of a bit cell in ns: 4 µs in FM, 2 µs in MFM (R46). -/
def Density.cellTime : Density → Nat
  | .fm => 4000
  | .mfm => 2000

/-- The eighths of a cell by which a window lies after the early one (R46, R51). -/
def Window.shift : Window → Nat
  | .early => 0
  | .centre => 1
  | .late => 2

/-- One eighth of a cell in ns. -/
def Settings.eighth (x : Settings) : Nat := x.density.cellTime / 8

/-- A transition counts if its amplitude is at least the threshold fraction of the reference (R46). -/
def Settings.counts (x : Settings) (reference : Nat) (f : Flux) : Bool := x.threshold * reference ≤ 100 * f.amplitude

/-- Some counted transition came in the eighths from `lo` up to `hi`. -/
def Settings.seen (x : Settings) (reference : Nat) (flux : List Flux) (lo hi : Nat) : Bool :=
  flux.any fun f => lo * x.eighth ≤ f.time && f.time < hi * x.eighth && x.counts reference f

/-- The data bit of a cell: a counted transition in the half cell about the middle of its window (R46, log 26). -/
def Settings.dataBit (x : Settings) (reference : Nat) (flux : List Flux) (i : Nat) : Bool :=
  x.seen reference flux (8 * i + 1 + x.window.shift) (8 * i + 5 + x.window.shift)

/-- The clock of a cell but the first: a counted transition in the half cell about the start of its window (R46,
log 26). -/
def Settings.clockBit (x : Settings) (reference : Nat) (flux : List Flux) (i : Nat) : Bool :=
  x.seen reference flux (8 * i + x.window.shift - 3) (8 * i + 1 + x.window.shift)

/-- The byte read in the eight cells from `8 * i`, most significant bit first (R17). -/
def Settings.byte (x : Settings) (reference : Nat) (flux : List Flux) (i : Nat) : Byte :=
  BitVec.ofNat 8 ((List.range 8).foldl (fun n k => 2 * n + (x.dataBit reference flux (8 * i + k)).toNat) 0)

/-- The bytes of a field that begins at the first cell. -/
def Settings.bytes (x : Settings) (reference : Nat) (flux : List Flux) (n : Nat) : List Byte :=
  (List.range n).map (x.byte reference flux)

/-- The cells of a sync run of 8 bytes. -/
def syncCells : Nat := 64

/-- The peak amplitude of the signal over the sync run: the reference of the field that follows (R46). -/
def Settings.peak (x : Settings) (flux : List Flux) : Nat :=
  ((flux.filter fun f => f.time < syncCells * x.density.cellTime).map Flux.amplitude).foldl max 0

/-- A complete sync run, 8 bytes of 0x00 with their clocks, stands in the first 64 cells (R46). The clock of the first
cell belongs to what came before. -/
def Settings.syncRun (x : Settings) (reference : Nat) (flux : List Flux) : Bool :=
  (List.range syncCells).all fun i => !x.dataBit reference flux i && (i == 0 || x.clockBit reference flux i)

/-- Plain recording gives a cell its clock: always in FM, in MFM between two zeros (log 26). -/
def Density.plainClock (d : Density) (before bit : Bool) : Bool :=
  match d with
  | .fm => true
  | .mfm => !before && !bit

/-- The cells of the mark behind the sync run whose clock is not as plain recording gives it. -/
def Settings.oddClocks (x : Settings) (reference : Nat) (flux : List Flux) : List (Bool × Bool) :=
  ((List.range 8).map fun k =>
    let i := syncCells + k
    (x.density.plainClock (x.dataBit reference flux (i - 1)) (x.dataBit reference flux i),
      x.clockBit reference flux i)).filter fun c => c.1 != c.2

/-- The mark that a signal holds directly behind a complete sync run, with the peak of that run: a byte with exactly one
clock suppressed (R16, R46). -/
def Settings.markOf (x : Settings) (flux : List Flux) : Option (Byte × Nat) :=
  let peak := x.peak flux
  if x.syncRun peak flux ∧ x.oddClocks peak flux = [(true, false)] then some (x.byte peak flux 8, peak) else none

/-- 64 consecutive bit cells without a counted transition (R47). -/
def Settings.fluxLost (x : Settings) (reference : Nat) (flux : List Flux) : Bool :=
  !x.seen reference flux (x.window.shift - 1) (8 * syncCells + x.window.shift - 1)

end Sys2Proof.Machine
end

