-- ==== Sys2Proof/Machine/Channel.lean ====
section
/-! DEFINITION. The Data Channel: release, arming, fields, attempts and their ends, track writes, listening, and what
drive events and the controller do to its work (chapter 3); the conclusion of discovery (R20, R21). -/

namespace Sys2Proof.Machine

open Sys2Proof

/-! ### The end of a use (R41, R62) -/

/-- A write gate is open. -/
def Channel.gateOpen (h : Channel) : Bool := h.state == .gate || h.state == .trackWrite

/-- An open gate closes: the stream it recorded ends here (R54, R55, R58). -/
def Channel.closeGate (h : Channel) (g : Word) : Channel := if h.gateOpen then { h with closed := g } else h

/-- The channel without work. Select, settings, owed marks and the stream it last wrote stay as they were; a select that
is still to be raised is raised at its time (log 46). -/
def Channel.idled (h : Channel) (roundOpen : Bool) : Channel :=
  { h with
    state := .idle, work := none, burst := 0, staging := [], listen := [], found := none, field := none
    acrossRestart := false, pendLow := none, pendHigh := none, roundOpen := roundOpen }

/-- The restart holds of a port's schedulers are cleared: the channel is IDLE after the restart (R106). The picks of a command
are made at its end, so one raised by the same command is taken as usual (log 69). -/
def Ctx.clearHolds (c : Ctx) (p : PortNo) : Ctx :=
  (c.modSched (lowDrive p) fun x => { x with hold := false }).modSched (highDrive p) fun x => { x with hold := false }

/-- The channel returns to IDLE: every pending request of the port is removed and a release round opens (R41), but for
work that ran on across a restart, which opens none (R62). -/
def Ctx.toIdle (c : Ctx) (p : PortNo) : Ctx :=
  let h := c.chan p
  if h.acrossRestart then (c.setChan p (h.idled false)).clearHolds p
  else
    let c1 := c.setChan p (h.idled true)
    { c1 with rounds := if p ∈ c1.rounds then c1.rounds else c1.rounds ++ [p] }

/-! ### Discovery (R20, R21) -/

/-- A DISCOVER job has reported. A void revolution is posted again; a list concludes the layout, or the next revolution
or BLANK follows. -/
def Ctx.discoveryReport (c : Ctx) (v : DriveNo) (density : Density) (heard : Option (List Heard)) : Ctx :=
  let d := c.drive v
  if d.state ≠ .discovery then c
  else
    match heard with
    | none => c.postDiscover v
    | some xs =>
      match ownHeard xs with
      | [] =>
        if d.revolution < 4 then (c.modDrive v fun d => { d with revolution := d.revolution + 1 }).postDiscover v
        else c.setDriveState v .blank .unformatted
      | h0 :: rest =>
        match concludeLayout density h0 (h0 :: rest) (workingPeriod d.timer.p16) with
        | .error cause => c.setDriveState v .blank cause
        | .ok l =>
          (c.modDrive v fun d => { d with
            timer := { d.timer with active := some l }, layoutKnown := true }).setDriveState v .ready .none

/-- The DISCOVER job of the current work ends with its report, and the channel returns to IDLE (R59). -/
def Ctx.listenEnd (c : Ctx) (p : PortNo) (r : Request) (heard : Option (List Heard)) : Ctx :=
  ((c.jobEnded r.drive).toIdle p).discoveryReport r.drive r.density heard

/-! ### Track writes (R57, R58) -/

/-- A FORMAT_TRACK job of the current work ends: the scheduler, the channel and the requester are told (R58, R94). A
diskette format that a restart ended leaves its drive by the outcome; a track format leaves it as it is (R174). -/
def Ctx.trackJobEnd (c0 : Ctx) (p : PortNo) (r : Request) (outcome : JobEnd) : Ctx :=
  let v := r.drive
  let c := c0.modChan p fun h => h.closeGate c0.g
  match (c.drive v).sched.job with
  | some j =>
    if j.kind = .formatTrack ∧ j.running then
      let c1 := (c.jobEnded v).toIdle p
      match j.requester with
      | .format e => c1.formatJobEnd e outcome
      | .gone true => c1.blankIncomplete v
      | .gone false | .driveControl | .channel => c1
    else c.toIdle p
  | none => c.toIdle p

/-! ### Attempts (R50 to R53) -/

/-- The check mark of the sector of a request (04, 4.2). -/
def State.checkAsked (s : State) (r : Request) : Bool :=
  match s.sectorAt ⟨r.drive, r.cylinder, r.head⟩ r.slot with
  | some (_, x) => x.check
  | none => false

/-- The media events that the end of an attempt counts (R53). -/
def State.outcomeCounters (s : State) (r : Request) (outcome : Outcome) : List Counter :=
  (if outcome = .fluxLoss then [Counter.fluxLoss] else [])
    ++ (if outcome = .seekError then [Counter.seekError] else [])
    ++ (match r.kind with
      | .read =>
        (if outcome = .good ∧ 2 ≤ r.attempt then [Counter.softRead] else [])
          ++ (if outcome.failed ∧ r.attempt = readLadder then [Counter.hardRead] else [])
      | .write =>
        (if outcome = .good ∧ 2 ≤ r.attempt ∧ (!s.checkAsked r ∨ s.ctl = .shedding) then [Counter.writeRetry] else [])
          ++ (if outcome.failed ∧ r.attempt = writeLadder then [Counter.writeFail] else [])
      | .check =>
        (if outcome = .good ∧ 2 ≤ r.attempt then [Counter.writeRetry] else [])
          ++ (if outcome.failed ∧ r.attempt = writeLadder then [Counter.writeFail] else [])
      | .formatTrack | .discover | .recal => [])

/-- The end of an attempt is counted (R53). -/
def Ctx.countOutcome (c : Ctx) (r : Request) (outcome : Outcome) : Ctx :=
  (c.outcomeCounters r outcome).foldl (fun c k => c.count r.drive k) c

/-- The outcome makes a recalibration owed (R52). -/
def owesRecal (r : Request) (outcome : Outcome) : Bool :=
  outcome == .seekError
    || (outcome.failed && r.kind == .read && r.attempt == 6)
    || (outcome.failed && (r.kind == .write || r.kind == .check) && r.attempt == 2)

/-- The recalibration owed mark is set and RECAL REQUEST raised (R52). -/
def Ctx.oweRecal (c : Ctx) (p : PortNo) (r : Request) (outcome : Outcome) : Ctx :=
  if owesRecal r outcome then (c.modChan p fun h => h.setOwed r.drive true).recalRequest r.drive else c

/-- The outcome is reported to the Track Image Store, which takes it by its kind's rule (R50, R70, R72 to R74, R76). -/
def Ctx.reportOutcome (c : Ctx) (p : PortNo) (r : Request) (outcome : Outcome) : Ctx :=
  let k : Key := ⟨r.drive, r.cylinder, r.head⟩
  let staging := (c.chan p).staging
  match r.kind with
  | .read => c.readOutcome k r.slot r.attempt outcome staging
  | .write => c.writeOutcome k r.slot r.attempt outcome (dataCrc staging)
  | .check => c.checkOutcome k r.slot r.attempt outcome
  | .formatTrack | .discover | .recal => c

/-- The burst query (R43): the scheduler's pick, not committed; the burst goes on into the following slot of the same
track, or the channel returns to IDLE. -/
def Ctx.burstQuery (c : Ctx) (p : PortNo) (r : Request) : Ctx :=
  let v := r.drive
  let d := c.drive v
  let h := c.chan p
  match c.pick v none, d.timer.active with
  | .file x cost overdue _, some l =>
    let k := r.slot + 1
    if x.place = ⟨r.cylinder, r.head, some k⟩ ∧ k < l.spt ∧ h.burst < 8 ∧ d.timer.phi + 100 ≤ l.slotStart k then
      let due := later c.g (l.slotStart k - 100 - d.timer.phi)
      let r1 := { c.requestFor v x cost overdue with start := due }
      c.setChan p { h with
        state := .selecting, work := some r1, burst := h.burst + 1, settings := c.settingsFor r1, arming := due
        staging := [], found := none, field := none }
    else c.toIdle p
  | _, _ => c.toIdle p

/-- The outcomes after which a burst may go on (R43). -/
def Outcome.keepsBurst : Outcome → Bool
  | .good | .crcError | .checkMismatch => true
  | _ => false

/-- A sector attempt ends (R50): it is counted, a recalibration may become owed and its RECAL job be posted, the store is
told, the reports are taken, and the burst goes on or the channel returns to IDLE. That the channel's own effects come
before the store's is the model's choice (log 68). -/
def Ctx.endAttempt (c : Ctx) (p : PortNo) (outcome : Outcome) : Ctx :=
  match (c.chan p).work with
  | none => c
  | some r =>
    let c1 := (((c.modChan p fun h => h.closeGate c.g).countOutcome r outcome).oweRecal p r outcome).reportOutcome p r
      outcome
    if outcome.keepsBurst then (c1.cascade.testDone).burstQuery p r else c1.toIdle p

/-! ### Arming (R44, R45) -/

/-- The work asks one sector. -/
def WorkKind.isSector : WorkKind → Bool
  | .read | .write | .check => true
  | .formatTrack | .discover | .recal => false

/-- The sector state in which the pick found a candidate of a kind (R44). -/
def WorkKind.sectorState : WorkKind → SectorState
  | .read => .wanted
  | .write => .dirty
  | .check => .checkDue
  | .formatTrack | .discover | .recal => .absent

/-- The frame still holds the track at the drive's present generation, with the sector in the kind's state (R44,
R54). -/
def State.sectorReady (s : State) (r : Request) : Bool :=
  match s.sectorAt ⟨r.drive, r.cylinder, r.head⟩ r.slot with
  | some (f, x) => (s.frame f).generation == (s.drive r.drive).generation && x.state == r.kind.sectorState
  | none => false

/-- The drive states in which a sector attempt may begin (R44). -/
def DriveState.transfers : DriveState → Bool
  | .ready | .blank | .formatting => true
  | _ => false

/-- The granted work can be used at the arming time (R44, R52, R57). -/
def State.usable (s : State) (p : PortNo) (r : Request) : Bool :=
  let d := s.drive r.drive
  let h := s.chan p
  let still := d.arm == .free && d.heads == .loaded
  if r.kind.isSector then
    still && d.state.transfers && s.sectorReady r && !h.owed r.drive
      && (1 < h.burst || (h.arming - r.start).toInt ≤ 0)
  else still && d.cylinder == r.cylinder

/-- A track job whose grant was MISSED is pending again and counts as a candidate (R93, R176); that of a FORMAT which
the restart or the shed no longer lets run is dropped (R174, log 28). -/
def Ctx.missedJob (c : Ctx) (r : Request) : Ctx :=
  let v := r.drive
  match (c.drive v).sched.job with
  | some j =>
    if j.kind ≠ r.kind then c
    else
      let c1 := (c.modSched v fun x => { x with job := some { j with running := false } }).raiseMarks v
      match j.requester with
      | .gone formatting => if formatting then (c1.jobEnded v).blankIncomplete v else c1.jobEnded v
      | .format e =>
        if c.ctl = .shedding then
          match c1.format? e with
          | some (o, _) => (c1.jobEnded v).abandonFormat e o v
          | none => c1
        else c1
      | .driveControl | .channel => c1
  | none => c

/-- The grant is released as MISSED (R44); RECAL REQUEST is raised again for an owed mark (R52). -/
def Ctx.missed (c : Ctx) (p : PortNo) (r : Request) : Ctx :=
  let c1 :=
    if r.kind.isSector then (if (c.chan p).owed r.drive then c.recalRequest r.drive else c)
    else c.missedJob r
  c1.toIdle p

/-- The attempt number at the arming time: one more than the sector's attempt count (R50). -/
def State.attemptNumber (s : State) (r : Request) : Nat :=
  match s.sectorAt ⟨r.drive, r.cylinder, r.head⟩ r.slot with
  | some (_, x) => x.attempts + 1
  | none => 1

/-- The channel enters ARMED at its arming time, and a sector attempt is begun (R45, R69). -/
def Ctx.arm (c : Ctx) (p : PortNo) (r : Request) : Ctx :=
  if c.usable p r then
    if r.kind.isSector then
      let r1 := { r with attempt := c.attemptNumber r }
      (c.modChan p fun h => { h with state := .armed, work := some r1, settings := c.settingsFor r1 }).attemptBegun
        ⟨r.drive, r.cylinder, r.head⟩ r.slot r.kind
    else c.modChan p fun h => { h with state := .armed }
  else c.missed p r

/-! ### Fields (R46 to R49, R56) -/

/-- P µs have passed since the arming time (R48). P is the one held now: an accepted pulse during the hunt that moves it
moves the limit too (log 55). -/
def State.huntOver (s : State) (p : PortNo) (r : Request) : Bool :=
  match workingPeriod (s.drive r.drive).timer.p16 with
  | some period => reached s.g (later (s.chan p).arming period)
  | none => false

/-- The sector number that the frame's slot map, or where the frame is gone the active layout's, gives for a slot
(R48). -/
def State.expectedNumber (s : State) (r : Request) : Option Nat :=
  match s.sectorAt ⟨r.drive, r.cylinder, r.head⟩ r.slot with
  | some (_, x) => some x.number
  | none => (s.drive r.drive).timer.active.bind fun l => l.map[r.slot]?

/-- A good ID field is that of the granted sector (R48). -/
def State.idMatches (s : State) (r : Request) (id : IdRecord) : Bool :=
  id.cylinder.toNat == r.cylinder && id.head.toNat == r.head && s.expectedNumber r == some id.sector.toNat
    && (match (s.drive r.drive).timer.active with
      | some l => id.size.toNat == l.sizeCode
      | none => false)

/-- An ID field of the hunt ends (R48): the sector is found; or the limit has passed meanwhile; or the field is of another
cylinder; or the hunt goes on. -/
def Ctx.judgeId (c : Ctx) (p : PortNo) (r : Request) (field : List Byte) : Ctx :=
  let id := idOf field
  let good := idGood field
  if good ∧ c.idMatches r id then c.modChan p fun h => { h with state := .armed, found := some c.g }
  else if c.huntOver p r then c.endAttempt p .notFound
  else if good ∧ id.cylinder.toNat ≠ r.cylinder then c.endAttempt p .seekError
  else c.modChan p fun h => { h with state := .armed }

/-- The most entries of the listen list (R59). -/
def listenLimit : Nat := 64

/-- An ID field ends in LISTEN: a good one is listed with its mark time (R59). -/
def Channel.hear (h : Channel) (field : List Byte) : Channel :=
  match h.field with
  | none => h
  | some mark =>
    if idGood field ∧ h.listen.length < listenLimit then
      { h with listen := h.listen ++ [⟨idOf field, mark⟩], field := none }
    else { h with field := none }

/-- The end of the 30 byte times in which the data mark must come (R49). -/
def Channel.dataMarkDue (h : Channel) (found : Word) : Word := later found (30 * h.settings.density.byteTime)

/-- The outcome of a data field of `n` data bytes (R49, R56). -/
def State.dataOutcome (s : State) (r : Request) (n : Nat) (field : List Byte) : Outcome :=
  if !fieldGood dataMark field then .crcError
  else if r.kind = .check then
    match s.sectorAt ⟨r.drive, r.cylinder, r.head⟩ r.slot with
    | some (_, x) => if dataCrc (field.take n) = x.writtenCrc then .good else .checkMismatch
    | none => .checkMismatch
  else .good

/-- N of the drive's active layout. -/
def State.sectorLength (s : State) (v : DriveNo) : Nat :=
  match (s.drive v).timer.active with
  | some l => l.size
  | none => 0

/-- The first `n` bytes of a field, read at the attempt's settings against the field's reference (R46). -/
def Channel.read (h : Channel) (flux : List Flux) (n : Nat) : List Byte := h.settings.bytes h.reference flux n

/-! ### The gate (R54, R55) -/

/-- When the write gate is to open: 11 byte times after the end of the ID CRC (R54). -/
def Channel.gateOpenDue (h : Channel) (found : Word) : Word := later found (11 * h.settings.density.byteTime)

/-- When the write gate is to close: after N + 11 + 1 byte times (R54). -/
def Channel.gateCloseDue (h : Channel) : Word :=
  later h.opened ((h.staging.length + 12) * h.settings.density.byteTime)

/-- The sector is captured and the gate opens (R54, R71), or the attempt ends ABANDONED. -/
def Ctx.openGate (c : Ctx) (p : PortNo) (r : Request) : Ctx :=
  match c.sectorAt ⟨r.drive, r.cylinder, r.head⟩ r.slot with
  | some (f, x) =>
    if c.sectorReady r then
      let fr := c.frame f
      let bytes := c.areaBytes f (fr.sectorStart x.number) fr.size
      (c.modChan p fun h => { h with
        state := .gate, staging := bytes, captured := x.dataVer, opened := c.g
        stream := .sector h.settings.density bytes }).gateOpened f r.slot
    else c.endAttempt p .abandoned
  | none => c.endAttempt p .abandoned

/-- The lines that are high (01, 1.1): WRITE GATE of a drive. -/
def State.writeGate (s : State) (v : DriveNo) : Bool :=
  let h := s.chan (portOf v)
  h.gateOpen &&
    match h.work with
    | some r => r.drive == v
    | none => false

/-- What WRITE DATA has carried through a port's gate, now open or last open: whole bytes from its opening up to now, or up
to its close (R54, R55, R57, R58). -/
def State.recorded (s : State) (p : PortNo) : List Recorded :=
  let h := s.chan p
  h.stream.recorded (ageAt (if h.gateOpen then s.g else h.closed) h.opened / h.stream.byteTime)

/-- HEAD LOAD of a drive (R12). -/
def State.headLoad (s : State) (v : DriveNo) : Bool := (s.drive v).heads != .unloaded

/-! ### Index pulses (R57 to R59) -/

/-- The verdict of the timer on an index pulse (R27). -/
inductive Verdict where
  | first | accepted | rejected
  deriving DecidableEq, Repr

/-- The outcome of a track write by where its ending pulse falls (R58). -/
def Channel.trackOutcome (h : Channel) (g : Word) : JobEnd :=
  match h.stream with
  | .track l _ _ _ => if l.lastSlotEnd ≤ ageAt g h.opened then .good else .overrun
  | .silent | .sector _ _ => .overrun

/-- An index pulse of the drive the channel is working on (R57 to R59). -/
def Ctx.channelIndex (c : Ctx) (v : DriveNo) (verdict : Verdict) : Ctx :=
  let p := portOf v
  let h := c.chan p
  match h.work with
  | none => c
  | some r =>
    if r.drive ≠ v then c
    else
      match h.state, r.kind, verdict with
      | .armed, .formatTrack, .accepted =>
        match (c.drive v).timer.active with
        | some l =>
          c.setChan p { h with state := .trackWrite, opened := c.g, stream := .track l r.cylinder r.head r.fill }
        | none => c
      | .armed, .discover, .accepted => c.setChan p { h with state := .listen, listen := [], field := none }
      | .trackWrite, _, _ => c.trackJobEnd p r (h.trackOutcome c.g)
      | .listen, _, .accepted => c.listenEnd p r (some h.listen)
      | .listen, _, .rejected => c.listenEnd p r none
      | _, _, _ => c

/-! ### When the drive or the controller intervenes (R60 to R62) -/

/-- The current work for a drive is ended at once: a sector attempt with an outcome, a FORMAT_TRACK job with its end,
a listening revolution void. -/
def Ctx.cutWork (c : Ctx) (v : DriveNo) (outcome : Outcome) (job : JobEnd) : Ctx :=
  let p := portOf v
  match (c.chan p).work with
  | none => c
  | some r =>
    if r.drive ≠ v then c
    else if r.kind.isSector then c.endAttempt p outcome
    else if r.kind = .discover then c.listenEnd p r none
    else c.trackJobEnd p r job

/-- MEDIA LOST at the channel and the arbiter (R60). -/
def Ctx.channelMediaLost (c : Ctx) (v : DriveNo) : Ctx :=
  ((c.withdraw v).cutWork v .aborted .mediaLost).modChan (portOf v) fun h => h.setOwed v false

/-- The entry of a drive to FAULT at the channel and the arbiter (R61). -/
def Ctx.channelFault (c : Ctx) (v : DriveNo) : Ctx := (c.withdraw v).cutWork v .faulted .fault

/-- The entry to SHEDDING at a port (R40, R62): pending requests go, reads, checks and listening end. -/
def Ctx.channelShed (c : Ctx) (p : PortNo) : Ctx :=
  let c1 := c.modChan p fun h => { h with pendLow := none, pendHigh := none }
  match (c1.chan p).work with
  | none => c1
  | some r =>
    if r.kind = .read ∨ r.kind = .check then c1.endAttempt p .abandoned
    else if r.kind = .discover then c1.listenEnd p r none
    else c1

/-- A restart at a port (R62): an open gate and a FORMAT_TRACK job run on; other work ends with no release round, and
a listening revolution is posted again. Where the channel is IDLE or becomes so here, the restart holds are cleared here
too, and the pick points that follow in the same RESTART, the post of that DISCOVER and the entry to STOPPED, are taken
as usual: the model's choice (R106, log 69). -/
def Ctx.channelRestart (c : Ctx) (p : PortNo) : Ctx :=
  let h := c.chan p
  match h.work with
  | none => (c.setChan p (h.idled false)).clearHolds p
  | some r =>
    if h.state = .gate ∨ r.kind = .formatTrack then
      c.setChan p { h with acrossRestart := true, listen := [], pendLow := none, pendHigh := none, roundOpen := false }
    else
      let c1 := (c.setChan p (h.idled false)).clearHolds p
      if r.kind = .discover then (c1.jobEnded r.drive).discoveryReport r.drive r.density none else c1

end Sys2Proof.Machine
end

