-- ==== Sys2Proof/Machine/DriveEvents.lean ====
section
/-! DEFINITION. Drive Control and the Rotation Timer: faults, media loads and changes, index pulses, probes, arm steps
and the timed events (chapters 1 and 2). -/

namespace Sys2Proof.Machine

open Sys2Proof

/-! ### Work taken away from a drive (R7, R8, R105) -/

/-- The scheduler at the entry to FAULT and at MEDIA LOST: QUIET, no arm target, its track job dropped and the
requester told (R105). -/
def Ctx.schedDrop (c : Ctx) (v : DriveNo) (cause : JobEnd) : Ctx :=
  let c1 := c.modSched v fun x => { x with state := .quiet, target := none }
  match (c1.drive v).sched.job with
  | none => c1
  | some j =>
    let c2 := c1.jobEnded v
    match j.requester with
    | .format e => c2.formatJobEnd e cause
    | .driveControl | .channel | .gone _ => c2

/-- The arm is being recalibrated. -/
def Arm.recalibrating : Arm → Bool
  | .recal _ _ _ | .recalSettle _ _ => true
  | _ => false

/-- The arm after the entry to FAULT: with cause SPEED a seek runs on and only a recalibration is stopped; with another
cause every movement is stopped (R8, R13). -/
def Arm.atFault (a : Arm) (cause : Cause) : Arm :=
  if cause = .speed ∧ !a.recalibrating then a else .free

/-- What Drive Control itself does at the entry to FAULT (R8): stepping, heads, stamp and expiry; from FORMATTING the
layout-known mark is cleared and INCOMPLETE is held. A recalibration stopped here counts under no counter (log 59); one that
RECAL holds back for a seek counts as stopped (log 67). -/
def Drive.enterFault (d : Drive) (g : Word) (cause : Cause) : Drive :=
  { d with
    arm := d.arm.atFault cause
    heads := .unloaded
    faultStamp := some g
    expiry := .armed
    recalStopped := d.arm.recalibrating || (d.state == .recal && d.arm.seeking)
    layoutKnown := d.layoutKnown && d.state != .formatting
    incomplete := d.incomplete || d.state == .formatting }

/-- A drive enters FAULT, or its cause changes within FAULT, which keeps stamp and expiry (R8). From another state the
channel, the FORMATs and the scheduler give up their work (R61, R105, R169, R173). -/
def Ctx.faultEntry (c : Ctx) (v : DriveNo) (cause : Cause) : Ctx :=
  if (c.drive v).state = .fault then c.setDriveState v .fault cause
  else
    let c1 := (c.modDrive v fun d => d.enterFault c.g cause).setDriveState v .fault cause
    ((c1.channelFault v).formatsAtFault v).schedDrop v .fault

/-- The timer at MEDIA LOST (R25). -/
def Timer.lost (t : Timer) : Timer :=
  { t with phi := 0, prev := none, acc := 0, rej := 0, p16 := none, noIndex := none, staged := none }

/-- What Drive Control and the timer do at a media change (R7, R25). A recalibration stopped here counts under no counter
(log 59). -/
def Drive.unload (d : Drive) : Drive :=
  { d with
    arm := .free, heads := .unloaded, layoutKnown := false, incomplete := false
    faultStamp := none, expiry := .none, recalStopped := false, loadStamp := none, timer := d.timer.lost }

/-- The record writes of the frames freed at MEDIA LOST: one for each frame that held STRANDED sectors (R180). -/
def Ctx.freedWrites (c : Ctx) (v : DriveNo) (n : Nat) : Ctx :=
  (List.range n).foldl (fun c _ => c.recordWrite v none) c

/-- The frames of a drive that hold STRANDED sectors. -/
def State.strandedFrames (s : State) (v : DriveNo) : Nat :=
  (s.framesOf v).countP fun fr => fr.sectors.any fun x => x.state == .stranded

/-- A media change, with MEDIA LOST at its receivers in turn (R7, log 8). The record writes it makes are begun once the
estimate is dropped and the frames are freed, so each carries P 0 and the stranded count 0 (R31, R180, log 43). -/
def Ctx.mediaChange (c : Ctx) (v : DriveNo) : Ctx :=
  let c1 := ((c.modDrive v Drive.unload).storeMediaLost v).setDriveState v .empty .none
  let c2 := (c1.freedWrites v (c.strandedFrames v)).locksMediaLost v
  ((c2.engineMediaLost v).schedDrop v .mediaLost).channelMediaLost v

/-- The no-index limit in µs (R29). -/
def noIndexLimit : Nat := 400000

/-- The timer at a media load (R25). The active layout is left as it was. -/
def Timer.load (t : Timer) (g : Word) : Timer :=
  { t.lost with noIndex := some (later g noIndexLimit) }

/-- What Drive Control and the timer do at a media load, up to step 5 (R4, R15, R25). -/
def Drive.load (d : Drive) (g : Word) (writeProtect twoSided : Bool) : Drive :=
  { d with
    generation := d.generation + 1
    profileReads := d.profileReads ++ [.load]
    writeProtect := writeProtect
    headCount := if twoSided then 2 else 1
    layoutKnown := false
    incomplete := false
    heads := .unloaded
    loadStamp := some g
    timer := d.timer.load g
    lines := { d.lines with ready := true, writeProtect := writeProtect, twoSided := twoSided } }

/-- A media load (R4): SPINUP, or FAULT with cause DRIVE where DRIVE FAULT is high. -/
def Ctx.mediaLoad (c : Ctx) (v : DriveNo) (writeProtect twoSided : Bool) : Ctx :=
  let c1 := c.modDrive v fun d => d.load c.g writeProtect twoSided
  if (c1.drive v).lines.driveFault then c1.faultEntry v .drive else c1.setDriveState v .spinup .none

/-- The drive states in which a speed loss, and DRIVE FAULT, put a drive in FAULT (R8, R28). -/
def DriveState.canFault : DriveState → Bool
  | .spinup | .recal | .discovery | .ready | .blank | .formatting => true
  | .absent | .empty | .fault => false

/-- A drive leaves FAULT (R9): with cause SPEED into READY where the layout is known and no recalibration was stopped,
else into RECAL. A pending expiry is cancelled (R10). -/
def Ctx.leaveFault (c : Ctx) (v : DriveNo) : Ctx :=
  let d := c.drive v
  let c1 := c.modDrive v fun d => { d with expiry := .none, faultStamp := none, recalStopped := false }
  if d.cause = .speed ∧ d.layoutKnown ∧ !d.recalStopped then c1.setDriveState v .ready .none
  else c1.enterRecal v

/-- SPEED LOST at Drive Control (R5, R8, R28). -/
def Ctx.speedLost (c : Ctx) (v : DriveNo) : Ctx :=
  if (c.drive v).state.canFault then c.faultEntry v .speed else c

/-- SPEED REACHED at Drive Control: SPINUP ends (R5, R28). -/
def Ctx.speedReached (c : Ctx) (v : DriveNo) : Ctx :=
  if (c.drive v).state = .spinup then c.enterRecal v else c

/-- SPEED REGAINED at Drive Control (R9, R28). -/
def Ctx.speedRegained (c : Ctx) (v : DriveNo) : Ctx :=
  if (c.drive v).state = .fault ∧ (c.drive v).cause = .speed then c.leaveFault v else c

/-! ### Index pulses (R26 to R33, R37) -/

/-- The shortest accepted period in µs (R27). -/
def periodMin : Nat := 161667

/-- The longest accepted period in µs (R27). -/
def periodMax : Nat := 171667

/-- The verdict on a pulse (R27). -/
def Timer.verdict (t : Timer) (g : Word) : Verdict :=
  match t.prev with
  | none => .first
  | some s => if periodMin ≤ ageAt g s ∧ ageAt g s ≤ periodMax then .accepted else .rejected

/-- The estimate after an accepted period: 16 times the first, then one eighth of the way, floored (R30). -/
def estimate (p16 : Option Nat) (period : Nat) : Nat :=
  match p16 with
  | none => 16 * period
  | some e => ((e : Int) + (16 * (period : Int) - (e : Int)) / 8).toNat

/-- The timer after a pulse (R26 to R30, R32, R37). -/
def Timer.pulse (t : Timer) (g : Word) (spinup : Bool) : Timer :=
  let base := { t with phi := 0, prev := some g, noIndex := some (later g noIndexLimit) }
  match t.verdict g, t.prev with
  | .accepted, some s =>
    { base with
      acc := min 4 (t.acc + 1), rej := 0, p16 := some (estimate t.p16 (ageAt g s))
      active := t.staged.or t.active, staged := none }
  | .rejected, _ => { base with acc := 0, rej := if spinup then 0 else min 4 (t.rej + 1) }
  | _, _ => base

/-- The speed reports of a pulse at Drive Control (R28). -/
def Ctx.speedReports (c : Ctx) (v : DriveNo) (old new : Timer) : Ctx :=
  if old.acc = 1 ∧ new.acc = 2 then c.speedReached v
  else if old.acc = 3 ∧ new.acc = 4 then c.speedRegained v
  else if old.rej = 3 ∧ new.rej = 4 then c.speedLost v
  else c

/-- The idle count at an ACCEPTED pulse, and the unload of idle heads (R104). A count that stands above head_idle_revs, which
a profile read has lowered since, has reached it too (the model's choice, log 65). -/
def Ctx.idlePulse (c : Ctx) (v : DriveNo) : Ctx :=
  let d := c.drive v
  if d.sched.state = .quiet ∧ d.heads ≠ .unloaded ∧ d.arm = .free then
    let n := min 255 (d.sched.idle + 1)
    let limit := d.profileOrZero.headIdleRevs
    if limit ≠ 0 ∧ limit ≤ n then (c.unloadRequest v).modSched v fun x => { x with idle := 0 }
    else c.modSched v fun x => { x with idle := n }
  else c.modSched v fun x => { x with idle := 0 }

/-- The timer of a drive is idle in ABSENT and EMPTY (R25). -/
def DriveState.timerIdle : DriveState → Bool
  | .absent | .empty => true
  | _ => false

/-- An index pulse taken by a timer that is not idle, at its receivers in turn (R32, log 9). The idle count and the unload of
idle heads (R104) come before the pick of the same pulse (R99), which is made at the end of the command: the model's choice,
log 74. -/
def Ctx.takePulse (c : Ctx) (v : DriveNo) : Ctx :=
  let d := c.drive v
  let verdict := d.timer.verdict c.g
  let new := d.timer.pulse c.g (d.state == .spinup)
  let c1 := c.modTimer v fun _ => new
  let c2 := if new.active = d.timer.active then c1 else c1.recordWrite v none
  let c3 := if verdict = .rejected then c2.count v .speedReject else c2
  let c4 := c3.speedReports v d.timer new
  let c5 := if verdict = .accepted then (c4.idlePulse v).flagPick v else c4
  c5.channelIndex v verdict

/-! ### Probes (R3) -/

/-- The most pulses of a probe or a recalibration (R3, R14). -/
def pulseLimit : Nat := 80

/-- A probe begins its test of the arm by the level of TRACK ZERO (R3): inward where it is high. -/
def Ctx.startProbe (c : Ctx) (v : DriveNo) (trackZero : Bool) : Ctx :=
  let due := c.stepDue v
  c.modDrive v fun d =>
    { d with
      lines := d.lines.pulse trackZero
      arm := .probe (if trackZero then .inward else .outward) 1 due }

/-- The wait after a probe pulse ends: the probe steps again, answers or fails (R3). -/
def Ctx.probeStep (c : Ctx) (v : DriveNo) (phase : ProbePhase) (pulses : Nat) (trackZero : Bool) : Ctx :=
  let c1 := c.modDrive v fun d => { d with lines := { d.lines with trackZero := some trackZero } }
  let outward (next : ProbePhase) : Ctx :=
    c1.modDrive v fun d => { d with lines := d.lines.pulse false, arm := .probe next (pulses + 1) (c.stepDue v) }
  let answers : Ctx := c1.modDrive v fun d => { d with arm := .probeSettle (c.settleDue v) }
  let fails : Ctx := c1.modDrive v fun d => { d with arm := .free }
  match phase with
  | .inward => outward (.back !trackZero)
  | .back wentLow => if wentLow && trackZero then answers else fails
  | .outward => if trackZero then answers else if pulses < pulseLimit then outward .outward else fails

/-- An answering probe settles: cylinder 0, and the state from READY (R3). -/
def Ctx.probeSettle (c : Ctx) (v : DriveNo) (writeProtect twoSided : Bool) : Ctx :=
  let c1 := c.modDrive v fun d => { d with arm := .free, cylinder := 0 }
  if (c1.drive v).lines.ready then c1.mediaLoad v writeProtect twoSided else c1.setDriveState v .empty .none

/-- A start's profile read has ended (R2, R3): a drive whose freshly read profile says disabled goes to ABSENT, and an
enabled ABSENT drive is probed, its profile being read again at the probe. A probe of an abandoned start that still runs
is left to run on, whatever the profile says, and gives the drive its state (R187, log 41); no second one is begun
beside it. -/
def Ctx.startProfile (c : Ctx) (v : DriveNo) (fresh : Bool) : Ctx :=
  let d := c.drive v
  match d.profile with
  | none => c
  | some p =>
    if !p.enabled then
      if fresh then
        let c1 := if d.state = .absent ∨ d.state = .empty then c else c.mediaChange v
        (c1.modDrive v fun d => { d with arm := if d.state = .absent then d.arm else .free }).setDriveState v .absent
          .none
      else c
    else if d.state = .absent ∧ d.arm = .free ∧ .probe ∉ d.profileReads then
      c.modDrive v fun d => { d with profileReads := d.profileReads ++ [.probe] }
    else c

/-- The oldest profile read of a drive ends (R2). -/
def Ctx.profileRead (c : Ctx) (v : DriveNo) (r : DmaRead) (trackZero : Bool) : Ctx :=
  match (c.drive v).profileReads with
  | [] => c
  | purpose :: rest =>
    let fresh := match r with | .data _ => true | .busError => false
    let c1 := c.modDrive v fun d => { d with
      profileReads := rest
      profile := match r with | .data bytes => some (profileOf bytes) | .busError => d.profile }
    match purpose with
    | .load => c1
    | .start =>
      match c1.ctl, c1.start with
      | .starting, .probing _ => (c1.startProfile v fresh).startCheck
      | _, _ => c1
    | .probe =>
      (if (c1.drive v).profileOrZero.enabled ∧ (c1.drive v).state = .absent ∧ (c1.drive v).arm = .free then
        c1.startProbe v trackZero
      else c1).startCheck

/-! ### The arm (R13, R14) -/

/-- The wait after a seek pulse ends: the next pulse, or the settle (R13). -/
def Ctx.seekStep (c : Ctx) (v : DriveNo) (left : Nat) (back trackZero : Bool) : Ctx :=
  c.modDrive v fun d =>
    let lines := { d.lines with trackZero := some trackZero }
    if left = 0 then { d with lines := lines, arm := .seekSettle (c.settleDue v) back }
    else { d with lines := lines.pulse lines.inward, arm := .seek (left - 1) (c.stepDue v) back }

/-- The settle of a seek ends: ARM SETTLED, or the end of a RECAL job (R13, R14, R99, R106). The arm target stays until the
next arm pick (R100). In RECAL the recalibration that waited for the arm begins (R6, log 67). -/
def Ctx.armSettled (c : Ctx) (v : DriveNo) (back : Bool) : Ctx :=
  let c1 := c.modDrive v fun d => { d with arm := .free }
  let x := (c1.drive v).sched
  let c2 := if back then c1.recalJobDone v else c1
  if (c2.drive v).state = .recal then c2.startRecal v none
  else if back then c2
  else if x.state ≠ .moving then c1
  else if x.hold then c1.modSched v fun x => { x with state := .quiet }
  else c1.pickNow v x.target

/-- The wait after a recalibration pulse ends: it settles, steps again, or fails after 80 pulses (R14). -/
def Ctx.recalStep (c : Ctx) (v : DriveNo) (pulses : Nat) (back : Option Nat) (trackZero : Bool) : Ctx :=
  let c1 := c.modDrive v fun d => { d with lines := { d.lines with trackZero := some trackZero } }
  if trackZero then c1.modDrive v fun d => { d with arm := .recalSettle (c.settleDue v) back }
  else if pulses < pulseLimit then
    c1.modDrive v fun d => { d with lines := d.lines.pulse false, arm := .recal (pulses + 1) (c.stepDue v) back }
  else ((c1.modDrive v fun d => { d with arm := .free }).count v .recal).faultEntry v .seek

/-! ### Timed events -/

/-- The fault expiry delay in µs (R10). -/
def faultExpiryDelay : Nat := 2000000

/-- The spin-up limit in µs (R5). -/
def spinupDelay : Nat := 5000000

/-- FAULT HELD (R10): the store and the Order Engine give the drive's held work up (R87, R151). -/
def Ctx.faultHeld (c : Ctx) (v : DriveNo) : Ctx :=
  ((c.modDrive v fun d => { d with expiry := .arrived }).storeFaultHeld v).engineFaultHeld v

/-- The stamps inside Drive Control and that of the track job, bounded (R24; 05, 5.1). -/
def Drive.boundStamps (d : Drive) (g : Word) : Drive :=
  { d with
    faultStamp := d.faultStamp.map (boundStamp g)
    loadStamp := d.loadStamp.map (boundStamp g)
    heads := match d.heads with
      | .loading s => .loading (boundStamp g s)
      | h => h
    sched := { d.sched with job := d.sched.job.map fun j => { j with stamp := boundStamp g j.stamp } } }

/-- The sector stamps and the LRU stamp of a HELD frame, bounded (R24, R65). -/
def Frame.boundStamps (fr : Frame) (g : Word) : Frame :=
  if fr.held then
    { fr.mapSectors fun x => { x with stamp := boundStamp g x.stamp } with lru := boundStamp g fr.lru }
  else fr

/-- Every stamp held for comparison, bounded (R24, R65; 05, 5.1). -/
def State.boundStamps (s : State) : State :=
  { s with
    drives := s.drives.map fun d => d.boundStamps s.g
    frames := s.frames.map fun fr => fr.boundStamps s.g
    fwq := s.fwq.map fun w => { w with stamp := boundStamp s.g w.stamp } }

/-- The overdue limit in µs, none before the first header is held (R96, R111). -/
def State.overdueLimit (s : State) : Option Nat := s.header.map fun h => h.overdue * 100000

/-- A Frame Wait Queue entry is due to report STALL (R86). -/
def State.stallDue (s : State) (w : Waiting) : Bool :=
  match s.overdueLimit with
  | some limit => !w.stalled && limit ≤ ageAt s.g w.stamp
  | none => false

/-- The snapshot timer is due (R179). -/
def State.snapshotDue (s : State) : Bool :=
  match s.snapTimer with
  | some t => reached s.g t
  | none => false

end Sys2Proof.Machine
end

