-- ==== Sys2Proof/Machine/Control.lean ====
section
/-! DEFINITION. Controller Control: starts, drains, shedding, restart and power-on (chapter 11), and the register
window's writes (06, 6.1). -/

namespace Sys2Proof.Machine

open Sys2Proof

/-! ### Starts (R182) -/

/-- A start enters STARTING: the address is taken for the run and the header is read (R109, R182). -/
def Ctx.beginStart (c : Ctx) : Ctx :=
  ({ c with startCode := .none, runBase := c.tableBase, start := .readingHeader } : Ctx).setCtl .starting

/-- A start fails (R182). -/
def Ctx.failStart (c : Ctx) (code : StartCode) : Ctx :=
  ({ c with startCode := code, start := .idle, snapTimer := none } : Ctx).setCtl .failed |>.setNotice startFailBit

/-- The header read of a start has ended: the checks, then every profile is read (R182). -/
def Ctx.headerRead (c : Ctx) (r : DmaRead) : Ctx :=
  match r with
  | .busError => c.failStart .headerBusError
  | .data bytes =>
    match checkHeader bytes with
    | .error code => c.failStart code
    | .ok h =>
      ({ c with start := .probing h } : Ctx).forDrives fun v c =>
        c.modDrive v fun d => { d with profileReads := d.profileReads ++ [.start] }

/-! ### Draining and shedding (R184, R185) -/

/-- Every waiting CHECKOUT ends ABANDONED; nothing is left to re-examine (R165). -/
def Ctx.abandonAllWaiters (c : Ctx) : Ctx := c.endWaiters (fun _ => true) .abandoned

/-- The entry to DRAINING (R184). -/
def Ctx.enterDraining (c : Ctx) : Ctx := ((c.setCtl .draining).parkDesks).abandonAllWaiters

/-- A FILED scheduler's request was removed: it picks afresh under the shedding rules (R106). -/
def Ctx.refile (c : Ctx) (v : DriveNo) : Ctx :=
  if (c.drive v).sched.state = .filed then (c.modSched v fun x => { x with state := .quiet }).flagPick v else c

/-- The entry to SHEDDING (R185). The order of the blocks is the model's choice (log 60), and so is the drive-number order in
which the FILED schedulers pick afresh (R106, log 75). -/
def Ctx.enterShedding (c : Ctx) : Ctx :=
  let c1 := (((c.setCtl .shedding).parkDesks).abandonAllWaiters).engineShed.storeShed
  let c2 := ((c1.channelShed 0).channelShed 1).formatsAtShed
  c2.forDrives fun v c => c.refile v

/-! ### CONTROL writes (R108, R181, R183) -/

/-- A CONTROL write without RESTART (R108, R181 to R184, R186). -/
def Ctx.controlWrite (c : Ctx) (run driveNotice : Bool) : Ctx :=
  let old := c.run
  let c1 : Ctx := { c with run := run, driveNotice := driveNotice }
  match c.ctl with
  | .stopped => if run && !old then c1.beginStart else c1
  | .starting => c1.startCheck
  | .running => if old && !run then c1.enterDraining else c1
  | .draining => if run && !old then c1.resumeRunning else c1
  | .shedding | .safe => c1
  | .failed => if run then c1 else c1.enterStopped

/-! ### Restart (R187) -/

/-- The result that a restart writes for an order: ABANDONED, whatever code it had come to before its results were
written (R128, R153, log 11). -/
def restartResult (g : Word) : Result := ⟨.abandoned, 0, g⟩

/-- The writes that a restart leaves outstanding for an order (R128, log 12). Where its result write has ended, the DONE
write alone is left, and the block keeps the code written (R115, log 56). -/
def Order.orphan (o : Order) (g : Word) : Orphan :=
  { addr := o.addr, desk := o.desk, bytes := o.resultBytes (restartResult g), resultWritten := o.resultWritten }

/-- The orders are abandoned and the desks halted (R128, R153, R165). The reads and deliveries that were outstanding for them
are given up: the model's choice (log 66, 72, 73). -/
def Ctx.abandonOrders (c : Ctx) : Ctx :=
  let c1 : Ctx := { c with
    orphans := c.orphans ++ c.orders.map fun x => x.2.orphan c.g
    table := Vector.replicate 32 .free, tableWait := [], waiters := [] }
  c1.forDesks fun d c =>
    (c.modDesk d fun k => { k with inFlight := 0, latch := false, state := .halted, look := .none }).beginEntryWrite d
      true

/-- Who a granted FORMAT_TRACK job belongs to after a restart: its order is gone, and a drive that is FORMATTING is in
it for that order, since a diskette format shares its drive with no other FORMAT (R167, R174). -/
def Requester.restart (r : Requester) (formatting : Bool) : Requester :=
  match r with
  | .gone b => .gone b
  | .format _ | .driveControl | .channel => .gone formatting

/-- The track job of a scheduler after a restart: a pending FORMAT_TRACK job is dropped, a granted one has lost its
order (R106, R174). -/
def Job.restart (j : Job) (formatting : Bool) : Option Job :=
  if j.kind = .formatTrack then
    if j.running then some { j with requester := j.requester.restart formatting } else none
  else some j

/-- A scheduler after a restart (R106), of a drive that is FORMATTING or not. -/
def Sched.restart (x : Sched) (formatting : Bool) : Sched :=
  { x with
    state := match x.state with
      | .moving => .moving
      | .recalibrating => .recalibrating
      | .quiet | .filed | .served => .quiet
    job := x.job.bind fun j => j.restart formatting
    target := none
    idle := 0
    hold := true
    busy := x.busy.filter (· == .driveControl) }

/-- A drive left FORMATTING without a granted job of its format becomes BLANK with cause INCOMPLETE (R174). -/
def Ctx.restartFormatting (c : Ctx) (v : DriveNo) : Ctx :=
  match (c.drive v).sched.job with
  | some j => if j.requester = .gone true then c else c.blankIncomplete v
  | none => c.blankIncomplete v

/-- A profile read outstanding at a restart: one of the abandoned start stays outstanding and only holds its values when it
ends: the model's choice (R2, R187, log 70). -/
def ReadPurpose.restart : ReadPurpose → ReadPurpose
  | .start => .load
  | .probe => .probe
  | .load => .load

/-- Drive Control and the Access Scheduler of a drive at a restart (R106, R187). -/
def Drive.restart (d : Drive) : Drive :=
  { d with sched := d.sched.restart (d.state == .formatting), profileReads := d.profileReads.map ReadPurpose.restart }

/-- A restart (R187): orders and desks, the store, the schedulers, the channels, the drives in FORMATTING, then
Controller Control. The Health Counters keep their values, the high-water marks among them (R175, R176). -/
def Ctx.restart (c : Ctx) : Ctx :=
  let c1 := (c.abandonOrders).storeRestart
  let c2 := c1.forDrives fun v c => c.modDrive v Drive.restart
  let c3 := (c2.channelRestart 0).channelRestart 1
  let c4 := c3.forDrives fun v c1 => (c1.restartFormatting v).modDrive v fun d => { d with health := (c.drive v).health }
  ({ c4 with run := false, startCode := .none, notice := 0 } : Ctx).enterStopped

/-! ### Power-on (R181) -/

/-- The input lines of a drive as they stand (R1), with the count of pulses that its arm has been given. -/
def Lines.levels (l : Lines) : Lines := { l with inward := false }

/-- The part after power-on: every block at its power-on values; the levels of the inputs, cluster memory and the
commands still waiting are outside the part (R181, log 15). -/
def State.powerOn (s : State) : State :=
  { State.reset with
    warning := s.warning
    drives := s.drives.map fun d => { lines := d.lines.levels }
    mem := s.mem
    pending := s.pending }

/-! ### The register window's writes (R107 to R110, R127) -/

/-- A write to TABLE_BASE (R109). -/
def Ctx.writeTableBase (c : Ctx) (value : Word) : Ctx :=
  if c.ctl = .stopped then { c with tableBase := value &&& tableBaseMask } else c

/-- A write to NOTICE clears each bit written as 1 (R110). -/
def Ctx.clearNotice (c : Ctx) (value : Word) : Ctx := { c with notice := c.notice &&& ~~~value }

/-- The actions of DESK_COMMAND (06, 6.1). -/
inductive DeskAction where
  | attend | halt | restart | releaseLocks
  deriving DecidableEq, Repr

/-- The action in bits 8 and 9 of a DESK_COMMAND write. -/
def deskActionOf (value : Word) : DeskAction :=
  let a := (value.toNat / 256) % 4
  if a = 0 then .attend else if a = 1 then .halt else if a = 2 then .restart else .releaseLocks

/-- The controller states in which a desk command is taken (R127). -/
def CtlState.takes : CtlState → DeskAction → Bool
  | _, .releaseLocks => true
  | .running, _ => true
  | .draining, .halt | .shedding, .halt => true
  | _, _ => false

/-- The effect of a desk command that is taken (R124 to R127, R163). -/
def Ctx.deskAction (c : Ctx) (d : DeskNo) : DeskAction → Ctx
  | .attend => c.attendDesk d
  | .halt => c.haltDesk d
  | .restart => c.restartDesk d
  | .releaseLocks => c.releaseAll d

/-- A desk command: whether it is taken depends on the controller state and the desk number (R127). -/
def Ctx.deskCommand (c : Ctx) (d : DeskNo) (a : DeskAction) : Ctx :=
  if c.ctl.takes a ∧ (a = .releaseLocks ∨ c.deskInRun d) then c.deskAction d a else c

/-- A write of a whole word at CONTROL (R107, R108). -/
def Ctx.writeControl (c : Ctx) (value : Word) : Ctx :=
  if value.getLsbD 1 then c.restart else c.controlWrite (value.getLsbD 0) (value.getLsbD 2)

/-- A write of a whole word at DESK_COMMAND (R107, 6.1). -/
def Ctx.writeDeskCommand (c : Ctx) (value : Word) : Ctx :=
  c.deskCommand (Fin.ofNat 16 value.toNat) (deskActionOf value)

/-! ### POWER WARNING (R181, R185, R186) -/

/-- POWER WARNING rises: in RUNNING and DRAINING the controller enters SHEDDING (R181, R185). -/
def Ctx.warningRises (c : Ctx) : Ctx :=
  let c1 : Ctx := { c with warning := true }
  if c.ctl = .running ∨ c.ctl = .draining then c1.enterShedding else c1

/-- POWER WARNING falls: SAFE is left, and a start that waits on it goes on (R182, R186). -/
def Ctx.warningFalls (c : Ctx) : Ctx :=
  let c1 : Ctx := { c with warning := false }
  match c.ctl with
  | .safe => c1.leaveSafe
  | .starting => c1.startCheck
  | _ => c1

end Sys2Proof.Machine
end

