-- ==== Sys2Proof/Machine/Due.lean ====
section
/-! DEFINITION. When each timed event is due: read by the meanings, which change nothing before it, and by the tick,
which queues the events that have come due (log 1, 2, 7). -/

namespace Sys2Proof.Machine

open Sys2Proof

/-! ### Drives -/

/-- The start of a head load whose time has passed (R12). The load time is that of the profile held now: a start's read
that changes it moves the end of a load that is running (log 42). -/
def State.headLoadDue (s : State) (v : DriveNo) : Bool :=
  match (s.drive v).heads with
  | .loading start => reached s.g (later start (ms (s.drive v).profileOrZero.headLoadMs))
  | _ => false

/-- An armed no-index timeout has come (R29). -/
def State.noIndexDue (s : State) (v : DriveNo) : Bool :=
  match (s.drive v).timer.noIndex with
  | some t => reached s.g t
  | none => false

/-- SPINUP has lasted 5,000,000 µs since the load (R5). -/
def State.spinupDue (s : State) (v : DriveNo) : Bool :=
  match (s.drive v).state, (s.drive v).loadStamp with
  | .spinup, some t => reached s.g (later t spinupDelay)
  | _, _ => false

/-- The armed fault expiry of a drive in FAULT has come (R10). -/
def State.faultExpiryDue (s : State) (v : DriveNo) : Bool :=
  match (s.drive v).state, (s.drive v).expiry, (s.drive v).faultStamp with
  | .fault, .armed, some t => reached s.g (later t faultExpiryDelay)
  | _, _, _ => false

/-- A stamp is to be advanced: its age has passed the limit (R24). -/
def State.stampOld (s : State) (t : Word) : Bool := ageLimit < ageAt s.g t

/-- Some stamp held for comparison is to be advanced (R24, R65; 05, 5.1). -/
def State.stampsDue (s : State) : Bool :=
  s.fwq.any (fun w => s.stampOld w.stamp)
    || (s.frames.toList.any fun fr => fr.held && (s.stampOld fr.lru || fr.sectors.any fun x => s.stampOld x.stamp))
    || s.drives.toList.any fun d =>
      d.faultStamp.any s.stampOld || d.loadStamp.any s.stampOld || d.sched.job.any (fun j => s.stampOld j.stamp)
        || match d.heads with
          | .loading t => s.stampOld t
          | _ => false

/-! ### Channels -/

/-- The new select is to be set (R45). -/
def State.selectDue (s : State) (p : PortNo) : Bool :=
  match (s.chan p).selectDue with
  | some t => reached s.g t
  | none => false

/-- The granted work of a channel at its arming time (R45). -/
def State.armingWork (s : State) (p : PortNo) : Option Request :=
  let h := s.chan p
  if h.state = .selecting ∧ reached s.g h.arming then h.work else none

/-- The sector work of a channel in ARMED with its sector found, and when it was found. -/
def State.foundWork (s : State) (p : PortNo) : Option (Request × Word) :=
  let h := s.chan p
  match h.state, h.work, h.found with
  | .armed, some r, some t => if r.kind.isSector then some (r, t) else none
  | _, _, _ => none

/-- The sector work of a channel that hunts, in ARMED (R48). -/
def State.huntWork (s : State) (p : PortNo) : Option Request :=
  let h := s.chan p
  match h.state, h.work, h.found with
  | .armed, some r, none => if r.kind.isSector then some r else none
  | _, _, _ => none

/-- The read or check whose data mark has not come in its 30 byte times (R49). -/
def State.dataMarkLate (s : State) (p : PortNo) : Bool :=
  match s.foundWork p with
  | some (r, t) => r.kind != .write && reached s.g ((s.chan p).dataMarkDue t)
  | none => false

/-- The hunt of a channel in ARMED has lasted one revolution (R48). -/
def State.huntDue (s : State) (p : PortNo) : Bool :=
  match s.huntWork p with
  | some r => s.huntOver p r
  | none => false

/-- The write whose gate is to open (R54). -/
def State.gateWork (s : State) (p : PortNo) : Option Request :=
  match s.foundWork p with
  | some (r, t) => if r.kind = .write ∧ reached s.g ((s.chan p).gateOpenDue t) then some r else none
  | none => none

/-- The open gate of a sector write has reached its width (R54). -/
def State.gateCloseDue (s : State) (p : PortNo) : Bool :=
  (s.chan p).state == .gate && reached s.g (s.chan p).gateCloseDue

/-! ### Orders -/

/-- A FORMAT's drain has ended: its entry step is due (R170, R171). -/
def State.entryStepDue (s : State) (e : EntryNo) : Bool :=
  match s.format? e with
  | some (o, _) => o.drainEnded
  | none => false

/-- JOB SLOT FREE was reported to a FORMAT answered JOB BUSY (R169). -/
def State.repostDue (s : State) (e : EntryNo) : Bool :=
  match s.format? e with
  | some (o, _) => o.phase == .slotFree
  | none => false

/-- The Frame Wait Queue entry of an order is to report STALL (R86). -/
def State.fwqStallDue (s : State) (e : EntryNo) : Bool := s.fwq.any fun w => w.order == e && s.stallDue w

/-! ### The tick (log 1, 7) -/

/-- The timed commands of a drive that are due. -/
def State.driveDue (s : State) (v : DriveNo) : List Instr :=
  (if s.headLoadDue v then [.headLoadDone v] else [])
    ++ (if s.noIndexDue v then [.noIndexTimeout v] else [])
    ++ (if s.spinupDue v then [.spinupLimit v] else [])
    ++ (if s.faultExpiryDue v then [.faultExpiry v] else [])
    ++ match (s.drive v).arm with
      | .seekSettle due _ => if reached s.g due then [.armSettled v] else []
      | .recalSettle due _ => if reached s.g due then [.recalSettled v] else []
      | _ => []

/-- The timed commands of a port that are due. -/
def State.portDue (s : State) (p : PortNo) : List Instr :=
  (if s.selectDue p then [.sideSelectSet p] else [])
    ++ (if (s.armingWork p).isSome then [.armingTime p] else [])
    ++ (if s.dataMarkLate p then [.dataMarkTimeout p] else [])
    ++ (if s.huntDue p then [.huntLimit p] else [])
    ++ (if (s.gateWork p).isSome then [.gateOpenTime p] else [])
    ++ (if s.gateCloseDue p then [.gateClose p] else [])

/-- The commands of an order that are due. -/
def State.orderDue (s : State) (e : EntryNo) : List Instr :=
  (if s.fwqStallDue e then [.fwqStall e] else [])
    ++ (if s.quietTold e then [.discardRetry e] else [])
    ++ (if s.entryStepDue e then [.formatEntryStep e] else [])
    ++ (if s.repostDue e then [.formatJobRepost e] else [])

/-- Every command that is due and brings no sampled value, in the order the tick queues them. -/
def State.due (s : State) : List Instr :=
  ((List.finRange 4).map s.driveDue).flatten ++ ((List.finRange 2).map s.portDue).flatten
    ++ (if s.stampsDue then [.stampBound] else [])
    ++ (if s.snapshotDue then [.snapshotExpiry] else [])
    ++ ((List.finRange 32).map s.orderDue).flatten

/-- The most φ counts to (R26). -/
def phiLimit : Nat := 1048575

/-- One microsecond on the phase count of a drive, where its timer is not idle (R25, R26). -/
def Drive.tick (d : Drive) : Drive :=
  if d.state.timerIdle then d else { d with timer := { d.timer with phi := min phiLimit (d.timer.phi + 1) } }

/-- One microsecond: G and every running phase count move on, and the timed commands that have come due are queued
(R23, R26, log 1). -/
def State.tick (s : State) : State :=
  let s1 : State := { s with g := s.g + 1, drives := s.drives.map Drive.tick }
  { s1 with pending := s1.pending ++ s1.due }

end Sys2Proof.Machine
end

