-- ==== Sys2Proof/Machine/BusEvents.lean ====
section
/-! DEFINITION. The meanings of the DMA completions: header, profiles, chains, takes, orders' data, results and
records (chapters 1.1, 6, 7, 9 and 11). -/

namespace Sys2Proof.Machine

open Sys2Proof

/-- A DMA read brought a byte list of another length than the transfer (log 3). -/
def wrongLength (r : DmaRead) (n : Nat) : Bool :=
  match r with
  | .data bytes => bytes.length != n
  | .busError => false

/-! ### Start and profiles -/

/-- HEADER_READ_DONE (R182). It is always the end of the present start's own read: that of an abandoned start is given up at
the restart, which is the model's choice (R187, log 70). -/
def execHeaderReadDone (r : DmaRead) (s : State) : Host.Outcome State Fault Refusal :=
  match s.ctl, s.start with
  | .starting, .readingHeader => if wrongLength r 64 then .fault .wrongLength else ((Ctx.of s).headerRead r).next
  | _, _ => .next s

/-- PROFILE_READ_DONE (R2, R3): the drive's oldest profile read has ended (log 70). -/
def execProfileReadDone (v : DriveNo) (r : DmaRead) (trackZero : Bool) (s : State) :
    Host.Outcome State Fault Refusal :=
  match (s.drive v).profileReads with
  | [] => .next s
  | _ :: _ => if wrongLength r 5 then .fault .wrongLength else ((Ctx.of s).profileRead v r trackZero).next

/-! ### Chains (R118 to R120) -/

/-- The link of a look has been read (R118, R119, R123). -/
def Ctx.linkRead (c : Ctx) (d : DeskNo) (r : DmaRead) : Ctx :=
  match r with
  | .busError => c.deskFault d .busError
  | .data bytes =>
    let link := leNat bytes
    if link = 0 ∧ (c.desk d).cursor = none then c.endOfChain d
    else if link = 0 ∨ !linkOk link then c.deskFault d .badLink
    else c.modDesk d fun k => { k with look := .block (BitVec.ofNat 32 link) }

/-- LINK_READ_DONE (R118). It is always the end of the present look's own read (log 72). -/
def execLinkReadDone (d : DeskNo) (r : DmaRead) (s : State) : Host.Outcome State Fault Refusal :=
  match (s.desk d).state, (s.desk d).look with
  | .fetching, .link => if wrongLength r 4 then .fault .wrongLength else ((Ctx.of s).linkRead d r).next
  | _, _ => .next s

/-- The block of a look has been read (R118, R119, R121, R123). -/
def Ctx.blockRead (c : Ctx) (d : DeskNo) (addr : Word) (r : DmaRead) : Ctx :=
  match r with
  | .busError => c.deskFault d .busError
  | .data bytes => if blockPosted bytes then c.considerBlock d addr (orderFieldsOf bytes) else c.endOfChain d

/-- BLOCK_READ_DONE (R118). It is always the end of the present look's own read (log 72). -/
def execBlockReadDone (d : DeskNo) (r : DmaRead) (s : State) : Host.Outcome State Fault Refusal :=
  match (s.desk d).state, (s.desk d).look with
  | .fetching, .block addr => if wrongLength r 64 then .fault .wrongLength else ((Ctx.of s).blockRead d addr r).next
  | _, _ => .next s

/-- The address of a block's state byte (06, 6.3). -/
def stateByteAddr (addr : Word) : Nat := addr.toNat + 4

/-- The state byte TAKEN (06, 6.3). -/
def takenByte : Byte := 2

/-- The state byte DONE (06, 6.3). -/
def doneByte : Byte := 3

/-- The TAKEN write has ended (R120): the take, with the order's validation and the next look, or a desk fault. -/
def Ctx.takeBlock (c : Ctx) (d : DeskNo) (addr : Word) (f : OrderFields) (r : DmaWrite) : Ctx :=
  let c1 := c.writeMem (stateByteAddr addr) (writtenPart r [takenByte])
  match r with
  | .busError _ => c1.deskFault d .busError
  | .ok =>
    match c1.reservedFor? d with
    | none => c1
    | some e =>
      let c2 := (c1.modDesk d fun k =>
        { k with cursor := some addr, taken := k.taken + 1, inFlight := k.inFlight + 1, look := .link }).entryWrite d
      (c2.setOrder e (c2.newOrder d addr f)).validate e

/-- TAKE (R120). -/
def execTake (d : DeskNo) (r : DmaWrite) (s : State) : Host.Outcome State Fault Refusal :=
  match (s.desk d).state, (s.desk d).look with
  | .fetching, .taking addr f => ((Ctx.of s).takeBlock d addr f r).next
  | _, _ => .next s

/-! ### Data of orders (R139, R140, R145) -/

/-- A fetch has ended: the bytes are staged and the wants follow, or the order ends BUS_ERROR (R137, R139). -/
def Ctx.fetched (c : Ctx) (e : EntryNo) (o : Order) (r : DmaRead) : Ctx :=
  match r with
  | .busError => c.endOrder e .busError o.partBlock
  | .data bytes => c.setOrder e { o with stage := .fill, staging := bytes, wantsDue := true }

/-- FETCH_DONE (R139). It is always the end of the present order's own fetch (log 73). -/
def execFetchDone (e : EntryNo) (r : DmaRead) (s : State) : Host.Outcome State Fault Refusal :=
  match s.order? e with
  | none => .next s
  | some o =>
    if o.stage ≠ .fetch then .next s
    else if wrongLength r o.part.length then .fault .wrongLength
    else ((Ctx.of s).fetched e o r).next

/-- Where a delivery goes: the buffer, or for EXCHANGE the second buffer (R139). -/
def Order.deliveryAddr (o : Order) : Nat :=
  if o.fields.kind? = some .exchange then o.fields.buffer2 else o.part.bufferAddr o.fields

/-- The block whose bytes a delivery write carried that failed after `written` bytes (R139). -/
def Order.blockReached (o : Order) (written : Nat) : Nat :=
  o.fields.block + (o.part.lo + min written (o.part.length - 1)) / o.geometry.size

/-- A delivery has ended (R135, R139, R140, R145). Of an EXCHANGE's delivery that meets a bus error the bytes before the failed
access have landed too: the model's choice, log 76. -/
def Ctx.delivered (c : Ctx) (e : EntryNo) (o : Order) (r : DmaWrite) : Ctx :=
  let c1 := c.writeMem o.deliveryAddr (writtenPart r o.staging)
  let read : Bool := o.fields.kind? == some .read
  match r with
  | .busError written =>
    (c1.setOrder e { o with bytes := if read then o.bytes + min written o.part.length else o.bytes }).endOrder e
      .busError (o.blockReached written)
  | .ok =>
    if read then
      let o1 := { o with bytes := o.bytes + o.part.length, staging := [] }
      let c2 := c1.setOrder e o1
      if o.part.track < lastTrack o.fields o.geometry then c2.startTrack e (o.part.track + 1)
      else c2.endOrder e o1.okCode.1 o1.okCode.2
    else (c1.setOrder e { o with stage := .settle, staging := [] }).settleCheck e

/-- DELIVERY_DONE (R139). Of a delivery whose order has ended by another cause meanwhile no byte lands, and its end changes
nothing (R154; the model's choice, log 66). -/
def execDeliveryDone (e : EntryNo) (r : DmaWrite) (s : State) : Host.Outcome State Fault Refusal :=
  match s.order? e with
  | none => .next s
  | some o => if o.stage ≠ .deliver then .next s else ((Ctx.of s).delivered e o r).next

/-- The supplied layout of a FORMAT has been read (R167): the write check is made again (log 20), then the FORMAT's own
refusals. -/
def Ctx.layoutRead (c : Ctx) (e : EntryNo) (o : Order) (r : DmaRead) : Ctx :=
  match r with
  | .busError => c.endOrder e .busError 0
  | .data bytes =>
    match o.extent.bind (c.refusingLock o.desk) with
    | some l => c.endOrder e .locked l.first
    | none => c.formatAccept e o (suppliedLayout bytes)

/-- LAYOUT_READ_DONE (R167). It is always the end of the present FORMAT's own read (log 73). -/
def execLayoutReadDone (e : EntryNo) (r : DmaRead) (s : State) : Host.Outcome State Fault Refusal :=
  match s.format? e with
  | none => .next s
  | some (o, _) =>
    if o.phase ≠ .readLayout then .next s
    else if wrongLength r 68 then .fault .wrongLength
    else ((Ctx.of s).layoutRead e o r).next

/-! ### Results (R116, R128) -/

/-- The address of a block's result fields (06, 6.3). -/
def resultAddr (addr : Word) : Nat := addr.toNat + 0x20

/-- The result write of an order has ended (R116). -/
def Ctx.resultWritten (c : Ctx) (e : EntryNo) (o : Order) (res : Result) (r : DmaWrite) : Ctx :=
  let c1 := c.writeMem (resultAddr o.addr) (writtenPart r (o.resultBytes res))
  match r with
  | .ok => c1.setOrder e { o with resultWritten := true }
  | .busError _ => c1.retireFaulted e o

/-- Take the k-th oldest of a restart's writes off the list. -/
def Ctx.dropOrphan (c : Ctx) (k : Nat) : Ctx := { c with orphans := c.orphans.eraseIdx k }

/-- The result write of an order that a restart abandoned has ended (R128). -/
def Ctx.orphanResult (c : Ctx) (k : Nat) (x : Orphan) (r : DmaWrite) : Ctx :=
  let c1 := c.writeMem (resultAddr x.addr) (writtenPart r x.bytes)
  match r with
  | .ok => { c1 with orphans := c1.orphans.set k { x with resultWritten := true } }
  | .busError _ => c1.dropOrphan k

/-- RESULT_WRITE_DONE (R116, R128). -/
def execResultWriteDone (w : WriteRef) (r : DmaWrite) (s : State) : Host.Outcome State Fault Refusal :=
  match w with
  | .entry e =>
    match s.order? e with
    | none => .next s
    | some o =>
      match o.result with
      | some res => if o.resultWritten then .next s else ((Ctx.of s).resultWritten e o res r).next
      | none => .next s
  | .orphan k =>
    match s.orphans[k]? with
    | some x => if x.resultWritten then .next s else .next ((Ctx.of s).orphanResult k x r).toState
    | none => .next s

/-- The DONE write of an order has ended (R116). -/
def Ctx.doneWritten (c : Ctx) (e : EntryNo) (o : Order) (r : DmaWrite) : Ctx :=
  let c1 := c.writeMem (stateByteAddr o.addr) (writtenPart r [doneByte])
  match r with
  | .ok => c1.retireDone e o
  | .busError _ => c1.retireFaulted e o

/-- The DONE write of an order that a restart abandoned has ended: the done count moves, without DESK_DONE, but for a desk
that a start has set up afresh since (R117, R128, log 12). -/
def Ctx.orphanDone (c : Ctx) (k : Nat) (x : Orphan) (r : DmaWrite) : Ctx :=
  let c1 := (c.writeMem (stateByteAddr x.addr) (writtenPart r [doneByte])).dropOrphan k
  match r with
  | .ok =>
    if x.counts then (c1.modDesk x.desk fun q => { q with done := q.done + 1 }).beginEntryWrite x.desk true else c1
  | .busError _ => c1

/-- DONE_WRITE_DONE (R116, R128). -/
def execDoneWriteDone (w : WriteRef) (r : DmaWrite) (s : State) : Host.Outcome State Fault Refusal :=
  match w with
  | .entry e =>
    match s.order? e with
    | none => .next s
    | some o => if o.resultWritten then ((Ctx.of s).doneWritten e o r).next else .next s
  | .orphan k =>
    match s.orphans[k]? with
    | some x => if x.resultWritten then .next ((Ctx.of s).orphanDone k x r).toState else .next s
    | none => .next s

/-! ### Desk entries and drive records (R112 to R114) -/

/-- The oldest entry write of a desk has ended (R112). A bus error is a desk fault, whatever the desk has become since
the write began, but for a write that R123 has dropped (log 22). The bytes before the failed access have landed: the
model's choice, log 76. -/
def Ctx.entryWritten (c : Ctx) (d : DeskNo) (w : EntryWrite) (rest : List EntryWrite) (r : DmaWrite) : Ctx :=
  let c1 := (c.writeMem w.addr (writtenPart r w.bytes)).modDesk d fun k => { k with entryWrites := rest }
  match r with
  | .ok => c1
  | .busError _ => if w.dropped then c1 else c1.deskFault d .busError

/-- DESK_ENTRY_WRITE_DONE (R112). -/
def execDeskEntryWriteDone (d : DeskNo) (r : DmaWrite) (s : State) : Host.Outcome State Fault Refusal :=
  match (s.desk d).entryWrites with
  | [] => .next s
  | w :: rest => ((Ctx.of s).entryWritten d w rest r).next

/-- DRIVE_CHANGE after a record write that a change made: at every change with DRIVE_NOTICE 1, else at the change that
enters READY (R114). -/
def Ctx.driveChange (c : Ctx) (v : DriveNo) (change : Option Bool) : Ctx :=
  match change with
  | some ready => if c.driveNotice || ready then c.setNotice (driveChangeBit v) else c
  | none => c

/-- DRIVE_RECORD_WRITE_DONE (R113, R114): a bus error drops the write without a fault, once the bytes before the failed access
have landed: the model's choice, log 76. -/
def execDriveRecordWriteDone (v : DriveNo) (r : DmaWrite) (s : State) : Host.Outcome State Fault Refusal :=
  match (s.drive v).recordWrites with
  | [] => .next s
  | w :: rest =>
    .next ((((Ctx.of s).writeMem w.write.addr (writtenPart r w.write.bytes)).modDrive v fun d =>
      { d with recordWrites := rest }).driveChange v w.change).toState

end Sys2Proof.Machine
end

