-- ==== Sys2Proof/Machine/ChannelEvents.lean ====
section
/-! DEFINITION. The meanings of the channel's events: arming, fields, gates (chapter 3). -/

namespace Sys2Proof.Machine

open Sys2Proof

/-- ARMING_TIME (R44, R45). -/
def execArmingTime (p : PortNo) (s : State) : Host.Outcome State Fault Refusal :=
  match s.armingWork p with
  | some r => ((Ctx.of s).arm p r).next
  | none => .next s

/-- The new drive-select line is raised and the side-select line set (R45). -/
def Channel.select (h : Channel) : Channel :=
  { h with
    selectDue := none
    selectLine := h.selected.map Prod.fst
    sideLine := match h.selected with
      | some (_, head) => head == 1
      | none => h.sideLine }

/-- SIDE_SELECT_SET (R45). -/
def execSideSelectSet (p : PortNo) (s : State) : Host.Outcome State Fault Refusal :=
  if s.selectDue p then .next ((Ctx.of s).modChan p Channel.select).toState else .next s

/-- A mark in LISTEN begins a field (R59): an ID mark gives its mark time, the phase count at its start one byte time ago
(log 14); the field behind another mark is taken and not listed. -/
def Channel.listenMark (h : Channel) (phi : Nat) (mark : Byte) (peak : Nat) : Channel :=
  { h with
    field := if mark = idMark then some (phi - h.settings.density.byteTime) else none
    reference := peak }

/-- A mark where the data mark of a found sector is awaited (R49): 0xCB within the 30 byte times takes the channel into
DATA, anything else ends the attempt NOT_FOUND. -/
def Ctx.awaitedMark (c : Ctx) (p : PortNo) (found : Word) (mark : Byte) (peak : Nat) : Ctx :=
  let h := c.chan p
  if mark = dataMark ∧ reached (h.dataMarkDue found) c.g then c.setChan p { h with state := .data, reference := peak }
  else c.endAttempt p .notFound

/-- A mark is recognised behind a sync run, whose peak is the reference of the field that follows (R46, R49, R59). In the
hunt an ID mark enters ID and another mark is passed over; between the ID of a write and its gate every mark is passed over
(log 44). -/
def Ctx.markSeen (c : Ctx) (p : PortNo) (mark : Byte) (peak : Nat) : Host.Outcome State Fault Refusal :=
  let h := c.chan p
  match h.state, h.work with
  | .armed, some r =>
    if r.kind.isSector then
      match h.found with
      | none => .next (if mark = idMark then c.setChan p { h with state := .id, reference := peak } else c).toState
      | some t => if r.kind = .write then .next c.toState else (c.awaitedMark p t mark peak).next
    else .next c.toState
  | .listen, some r => .next (c.setChan p (h.listenMark (c.drive r.drive).timer.phi mark peak)).toState
  | _, _ => .next c.toState

/-- ID_MARK_SEEN (R46, R49, R59): an ID mark behind a complete sync run. -/
def execIdMarkSeen (p : PortNo) (flux : List Flux) (s : State) : Host.Outcome State Fault Refusal :=
  match (s.chan p).settings.markOf flux with
  | some (mark, peak) => if mark = idMark then (Ctx.of s).markSeen p mark peak else .next s
  | none => .next s

/-- ID_FIELD_END (R48, R59): the 4 record bytes and the CRC. -/
def execIdFieldEnd (p : PortNo) (record crcHigh crcLow : List Flux) (s : State) : Host.Outcome State Fault Refusal :=
  let h := s.chan p
  let field := h.read (record ++ crcHigh ++ crcLow) 6
  match h.state, h.work with
  | .id, some r => ((Ctx.of s).judgeId p r field).next
  | .listen, _ => .next ((Ctx.of s).setChan p (h.hear field)).toState
  | _, _ => .next s

/-- DATA_MARK_SEEN (R46, R49): a mark behind a complete sync run. -/
def execDataMarkSeen (p : PortNo) (sync mark : List Flux) (s : State) : Host.Outcome State Fault Refusal :=
  match (s.chan p).settings.markOf (sync ++ mark) with
  | some (byte, peak) => (Ctx.of s).markSeen p byte peak
  | none => .next s

/-- DATA_FIELD_END (R49, R56): the N data bytes, which a read stages, and the CRC. -/
def execDataFieldEnd (p : PortNo) (data crcHigh crcLow : List Flux) (s : State) : Host.Outcome State Fault Refusal :=
  let h := s.chan p
  match h.state, h.work with
  | .data, some r =>
    let n := s.sectorLength r.drive
    let field := h.read (data ++ crcHigh ++ crcLow) (n + 2)
    (((Ctx.of s).setChan p { h with staging := field.take n }).endAttempt p (s.dataOutcome r n field)).next
  | _, _ => .next s

/-- DATA_MARK_TIMEOUT (R49). -/
def execDataMarkTimeout (p : PortNo) (s : State) : Host.Outcome State Fault Refusal :=
  if s.dataMarkLate p then ((Ctx.of s).endAttempt p .notFound).next else .next s

/-- HUNT_LIMIT (R48). -/
def execHuntLimit (p : PortNo) (s : State) : Host.Outcome State Fault Refusal :=
  if s.huntDue p then ((Ctx.of s).endAttempt p .notFound).next else .next s

/-- FLUX_LOSS (R47): 64 cells without a counted transition inside a field. -/
def execFluxLoss (p : PortNo) (flux : List Flux) (s : State) : Host.Outcome State Fault Refusal :=
  let h := s.chan p
  if h.settings.fluxLost h.reference flux then
    match h.state with
    | .id | .data => ((Ctx.of s).endAttempt p .fluxLoss).next
    | .listen => .next ((Ctx.of s).setChan p { h with field := none }).toState
    | _ => .next s
  else .next s

/-- GATE_OPEN_TIME (R54). -/
def execGateOpenTime (p : PortNo) (s : State) : Host.Outcome State Fault Refusal :=
  match s.gateWork p with
  | some r => ((Ctx.of s).openGate p r).next
  | none => .next s

/-- GATE_CLOSE (R54): the write ends GOOD, but for one held to its width across a restart, which ends ABANDONED
(R62). -/
def execGateClose (p : PortNo) (s : State) : Host.Outcome State Fault Refusal :=
  if s.gateCloseDue p then
    ((Ctx.of s).endAttempt p (if (s.chan p).acrossRestart then .abandoned else .good)).next
  else .next s

end Sys2Proof.Machine
end

