-- ==== Sys2Proof/Machine/DeskCommands.lean ====
section
/-! DEFINITION. The meanings of the desk commands (06, 6.5). -/

namespace Sys2Proof.Machine

open Sys2Proof

/-- ATTEND (R124, R127). -/
def execAttend (d : DeskNo) (s : State) : Host.Outcome State Fault Refusal := ((Ctx.of s).deskCommand d .attend).next

/-- HALT (R125, R127). -/
def execHalt (d : DeskNo) (s : State) : Host.Outcome State Fault Refusal := ((Ctx.of s).deskCommand d .halt).next

/-- DESK_RESTART (R126, R127). -/
def execDeskRestart (d : DeskNo) (s : State) : Host.Outcome State Fault Refusal :=
  ((Ctx.of s).deskCommand d .restart).next

/-- RELEASE_LOCKS (R127, R163). -/
def execReleaseLocks (d : DeskNo) (s : State) : Host.Outcome State Fault Refusal :=
  ((Ctx.of s).deskCommand d .releaseLocks).next

end Sys2Proof.Machine
end

