-- ==== Sys2Proof/Machine/DriveCommands.lean ====
section
/-! DEFINITION. The meanings of the drive events: lines, index pulses, probes, seeks, recalibrations and their times
(chapters 1 and 2). -/

namespace Sys2Proof.Machine

open Sys2Proof

/-- Record the level of READY. -/
def Ctx.setReady (c : Ctx) (v : DriveNo) (b : Bool) : Ctx :=
  c.modDrive v fun d => { d with lines := { d.lines with ready := b } }

/-- Record the level of DRIVE FAULT. -/
def Ctx.setFaultLine (c : Ctx) (v : DriveNo) (b : Bool) : Ctx :=
  c.modDrive v fun d => { d with lines := { d.lines with driveFault := b } }

/-- MEDIA_LOAD (R4): a rise of READY; on a drive in EMPTY it is a media load, elsewhere it is only a level (R1). -/
def execMediaLoad (v : DriveNo) (writeProtect twoSided : Bool) (s : State) : Host.Outcome State Fault Refusal :=
  let d := s.drive v
  let c := (Ctx.of s).setReady v true
  if d.lines.ready then .next s
  else if d.state = .empty then (c.mediaLoad v writeProtect twoSided).next
  else .next c.toState

/-- MEDIA_CHANGE (R7): a fall of READY; on a drive in ABSENT it is only a level (R1). -/
def execMediaChange (v : DriveNo) (s : State) : Host.Outcome State Fault Refusal :=
  let d := s.drive v
  let c := (Ctx.of s).setReady v false
  if !d.lines.ready then .next s
  else if d.state = .absent then .next c.toState
  else (c.mediaChange v).next

/-- DRIVE_FAULT_RISE (R8): FAULT with cause DRIVE, in the states where the line counts. -/
def execDriveFaultRise (v : DriveNo) (s : State) : Host.Outcome State Fault Refusal :=
  let d := s.drive v
  let c := (Ctx.of s).setFaultLine v true
  if d.lines.driveFault then .next s
  else if d.state.canFault ∨ (d.state = .fault ∧ d.cause = .speed) then (c.faultEntry v .drive).next
  else .next c.toState

/-- DRIVE_FAULT_FALL (R9): a drive in FAULT with cause DRIVE enters RECAL. -/
def execDriveFaultFall (v : DriveNo) (s : State) : Host.Outcome State Fault Refusal :=
  let d := s.drive v
  let c := (Ctx.of s).setFaultLine v false
  if !d.lines.driveFault then .next s
  else if d.state = .fault ∧ d.cause = .drive then (c.leaveFault v).next
  else .next c.toState

/-- INDEX_PULSE (R25 to R33): ignored while the timer is idle. -/
def execIndexPulse (v : DriveNo) (s : State) : Host.Outcome State Fault Refusal :=
  if (s.drive v).state.timerIdle then .next s else ((Ctx.of s).takePulse v).next

/-- NO_INDEX_TIMEOUT (R29). -/
def execNoIndexTimeout (v : DriveNo) (s : State) : Host.Outcome State Fault Refusal :=
  if s.noIndexDue v then
    (((Ctx.of s).modTimer v fun t => { t with acc := 0, noIndex := none }).speedLost v).next
  else .next s

/-- SPINUP_LIMIT (R5). -/
def execSpinupLimit (v : DriveNo) (s : State) : Host.Outcome State Fault Refusal :=
  if s.spinupDue v then ((Ctx.of s).faultEntry v .speed).next else .next s

/-- FAULT_EXPIRY (R10). -/
def execFaultExpiry (v : DriveNo) (s : State) : Host.Outcome State Fault Refusal :=
  if s.faultExpiryDue v then ((Ctx.of s).faultHeld v).next else .next s

/-- HEAD_LOAD_DONE (R12). -/
def execHeadLoadDone (v : DriveNo) (s : State) : Host.Outcome State Fault Refusal :=
  if s.headLoadDue v then .next ((Ctx.of s).modDrive v fun d => { d with heads := .loaded }).toState else .next s

/-- PROBE_STEP_DONE (R3). -/
def execProbeStepDone (v : DriveNo) (trackZero : Bool) (s : State) : Host.Outcome State Fault Refusal :=
  match (s.drive v).arm with
  | .probe phase pulses due =>
    if reached s.g due then (((Ctx.of s).probeStep v phase pulses trackZero).startCheck).next else .next s
  | _ => .next s

/-- PROBE_SETTLED (R3). -/
def execProbeSettled (v : DriveNo) (writeProtect twoSided : Bool) (s : State) : Host.Outcome State Fault Refusal :=
  match (s.drive v).arm with
  | .probeSettle due =>
    if reached s.g due then (((Ctx.of s).probeSettle v writeProtect twoSided).startCheck).next else .next s
  | _ => .next s

/-- SEEK_STEP_DONE (R13). -/
def execSeekStepDone (v : DriveNo) (trackZero : Bool) (s : State) : Host.Outcome State Fault Refusal :=
  match (s.drive v).arm with
  | .seek left due back =>
    if reached s.g due then .next ((Ctx.of s).seekStep v left back trackZero).toState else .next s
  | _ => .next s

/-- ARM_SETTLED (R13, R99). -/
def execArmSettled (v : DriveNo) (s : State) : Host.Outcome State Fault Refusal :=
  match (s.drive v).arm with
  | .seekSettle due back => if reached s.g due then ((Ctx.of s).armSettled v back).next else .next s
  | _ => .next s

/-- RECAL_STEP_DONE (R14). -/
def execRecalStepDone (v : DriveNo) (trackZero : Bool) (s : State) : Host.Outcome State Fault Refusal :=
  match (s.drive v).arm with
  | .recal pulses due back =>
    if reached s.g due then ((Ctx.of s).recalStep v pulses back trackZero).next else .next s
  | _ => .next s

/-- RECAL_SETTLED (R6, R14). -/
def execRecalSettled (v : DriveNo) (s : State) : Host.Outcome State Fault Refusal :=
  match (s.drive v).arm with
  | .recalSettle due back => if reached s.g due then ((Ctx.of s).recalSucceeded v back).next else .next s
  | _ => .next s

/-- STAMP_BOUND (R24). -/
def execStampBound (s : State) : Host.Outcome State Fault Refusal := .next s.boundStamps

end Sys2Proof.Machine
end

