-- ==== Sys2Proof/Machine/FormatEvents.lean ====
section
/-! DEFINITION. The meanings of a FORMAT's own events (R168, R169, R171). -/

namespace Sys2Proof.Machine

open Sys2Proof

/-- DISCARD_RETRY (R168, R171 item 5). -/
def execDiscardRetry (e : EntryNo) (s : State) : Host.Outcome State Fault Refusal :=
  if s.quietTold e then ((Ctx.of s).formatRetry e).next else .next s

/-- FORMAT_ENTRY_STEP (R170, R171). -/
def execFormatEntryStep (e : EntryNo) (s : State) : Host.Outcome State Fault Refusal :=
  if s.entryStepDue e then ((Ctx.of s).formatEntry e).next else .next s

/-- FORMAT_JOB_REPOST (R169, R172). -/
def execFormatJobRepost (e : EntryNo) (s : State) : Host.Outcome State Fault Refusal :=
  if s.repostDue e then ((Ctx.of s).formatPost e).next else .next s

end Sys2Proof.Machine
end

