-- ==== Sys2Proof/Machine/Power.lean ====
section
/-! DEFINITION. The meanings of power-on, the register writes and POWER WARNING (06, 6.1; chapter 11). -/

namespace Sys2Proof.Machine

open Sys2Proof

/-- POWER_ON (R181). -/
def execPowerOn (s : State) : Host.Outcome State Fault Refusal := .next s.powerOn

/-- REGISTER_WRITE (R107): a write of fewer than four bytes, and one to IDENT, STATUS or 0x1C, is ignored; so is one of
four bytes that does not lie on a register (log 50); NOTICE_ENABLE is stored. A whole word at a register with a row of
its own acts as that row states. -/
def execRegisterWrite (offset : BitVec 5) (size : Nat) (value : Word) (s : State) : Host.Outcome State Fault Refusal :=
  if size ≠ 4 ∨ offset.toNat % 4 ≠ 0 then .next s
  else if offset = 0x00 ∨ offset = 0x08 ∨ offset = 0x1C then .next s
  else if offset = 0x18 then .next { s with noticeEnable := value &&& noticeMask }
  else if offset = 0x0C then .next ((Ctx.of s).writeTableBase value).toState
  else if offset = 0x14 then .next ((Ctx.of s).clearNotice value).toState
  else if offset = 0x10 then ((Ctx.of s).writeDeskCommand value).next
  else ((Ctx.of s).writeControl value).next

/-- RUN_SET (R108, R181 to R183). -/
def execRunSet (driveNotice : Bool) (s : State) : Host.Outcome State Fault Refusal :=
  ((Ctx.of s).controlWrite true driveNotice).next

/-- RUN_CLEAR (R108, R183, R184). -/
def execRunClear (driveNotice : Bool) (s : State) : Host.Outcome State Fault Refusal :=
  ((Ctx.of s).controlWrite false driveNotice).next

/-- RESTART (R108, R187). -/
def execRestart (s : State) : Host.Outcome State Fault Refusal := (Ctx.of s).restart.next

/-- TABLE_BASE_WRITE (R109). -/
def execTableBaseWrite (value : Word) (s : State) : Host.Outcome State Fault Refusal :=
  .next ((Ctx.of s).writeTableBase value).toState

/-- NOTICE_CLEAR (R110). -/
def execNoticeClear (value : Word) (s : State) : Host.Outcome State Fault Refusal :=
  .next ((Ctx.of s).clearNotice value).toState

/-- POWER_WARNING_RISE (R181, R185). -/
def execPowerWarningRise (s : State) : Host.Outcome State Fault Refusal := (Ctx.of s).warningRises.next

/-- POWER_WARNING_FALL (R182, R186). -/
def execPowerWarningFall (s : State) : Host.Outcome State Fault Refusal := (Ctx.of s).warningFalls.next

end Sys2Proof.Machine
end

