-- ==== Sys2Proof/Machine/TimedCommands.lean ====
section
/-! DEFINITION. The meanings of the snapshot timer and of the Frame Wait Queue's stall (R86, R179). -/

namespace Sys2Proof.Machine

open Sys2Proof

/-- The automatic snapshot (R177, R179): every drive, NOTICE.SNAPSHOT, and the timer re-armed from its expiry time. -/
def Ctx.autoSnapshot (c : Ctx) (expiry : Word) : Ctx :=
  let c1 := (c.forDrives fun v c => c.snapshotDrive v).setNotice snapshotBit
  { c1 with snapTimer := c.header.map fun h => later expiry (h.snapshotInterval * 1000000) }

/-- SNAPSHOT_EXPIRY (R179). -/
def execSnapshotExpiry (s : State) : Host.Outcome State Fault Refusal :=
  match s.snapTimer with
  | some t => if reached s.g t then .next ((Ctx.of s).autoSnapshot t).toState else .next s
  | none => .next s

/-- An entry's STALL: its mark is set and NOTICE.STALL is set (R86). -/
def Ctx.stall (c : Ctx) (e : EntryNo) : Ctx :=
  ({ c with fwq := c.fwq.map fun w => if w.order = e then { w with stalled := true } else w } : Ctx).setNotice stallBit

/-- FWQ_STALL (R86). -/
def execFwqStall (e : EntryNo) (s : State) : Host.Outcome State Fault Refusal :=
  if s.fwqStallDue e then .next ((Ctx.of s).stall e).toState else .next s

end Sys2Proof.Machine
end

