-- ==== Sys2Proof/Machine/Dispatch.lean ====
section
/-! DEFINITION. One arm per command: each is one call of its meaning. -/

namespace Sys2Proof.Machine

open Sys2Proof

def exec (i : Instr) (s : State) : Host.Outcome State Fault Refusal :=
  match i with
  | .powerOn => Sys2Proof.Machine.execPowerOn s
  | .registerWrite offset size value => Sys2Proof.Machine.execRegisterWrite offset size value s
  | .runSet driveNotice => Sys2Proof.Machine.execRunSet driveNotice s
  | .runClear driveNotice => Sys2Proof.Machine.execRunClear driveNotice s
  | .restart => Sys2Proof.Machine.execRestart s
  | .tableBaseWrite value => Sys2Proof.Machine.execTableBaseWrite value s
  | .noticeClear value => Sys2Proof.Machine.execNoticeClear value s
  | .attend d => Sys2Proof.Machine.execAttend d s
  | .halt d => Sys2Proof.Machine.execHalt d s
  | .deskRestart d => Sys2Proof.Machine.execDeskRestart d s
  | .releaseLocks d => Sys2Proof.Machine.execReleaseLocks d s
  | .mediaLoad v writeProtect twoSided => Sys2Proof.Machine.execMediaLoad v writeProtect twoSided s
  | .mediaChange v => Sys2Proof.Machine.execMediaChange v s
  | .driveFaultRise v => Sys2Proof.Machine.execDriveFaultRise v s
  | .driveFaultFall v => Sys2Proof.Machine.execDriveFaultFall v s
  | .powerWarningRise => Sys2Proof.Machine.execPowerWarningRise s
  | .powerWarningFall => Sys2Proof.Machine.execPowerWarningFall s
  | .indexPulse v => Sys2Proof.Machine.execIndexPulse v s
  | .noIndexTimeout v => Sys2Proof.Machine.execNoIndexTimeout v s
  | .spinupLimit v => Sys2Proof.Machine.execSpinupLimit v s
  | .faultExpiry v => Sys2Proof.Machine.execFaultExpiry v s
  | .headLoadDone v => Sys2Proof.Machine.execHeadLoadDone v s
  | .probeStepDone v trackZero => Sys2Proof.Machine.execProbeStepDone v trackZero s
  | .probeSettled v writeProtect twoSided => Sys2Proof.Machine.execProbeSettled v writeProtect twoSided s
  | .seekStepDone v trackZero => Sys2Proof.Machine.execSeekStepDone v trackZero s
  | .armSettled v => Sys2Proof.Machine.execArmSettled v s
  | .recalStepDone v trackZero => Sys2Proof.Machine.execRecalStepDone v trackZero s
  | .recalSettled v => Sys2Proof.Machine.execRecalSettled v s
  | .stampBound => Sys2Proof.Machine.execStampBound s
  | .snapshotExpiry => Sys2Proof.Machine.execSnapshotExpiry s
  | .fwqStall e => Sys2Proof.Machine.execFwqStall e s
  | .headerReadDone r => Sys2Proof.Machine.execHeaderReadDone r s
  | .profileReadDone v r trackZero => Sys2Proof.Machine.execProfileReadDone v r trackZero s
  | .linkReadDone d r => Sys2Proof.Machine.execLinkReadDone d r s
  | .blockReadDone d r => Sys2Proof.Machine.execBlockReadDone d r s
  | .take d r => Sys2Proof.Machine.execTake d r s
  | .fetchDone e r => Sys2Proof.Machine.execFetchDone e r s
  | .deliveryDone e r => Sys2Proof.Machine.execDeliveryDone e r s
  | .layoutReadDone e r => Sys2Proof.Machine.execLayoutReadDone e r s
  | .resultWriteDone w r => Sys2Proof.Machine.execResultWriteDone w r s
  | .doneWriteDone w r => Sys2Proof.Machine.execDoneWriteDone w r s
  | .deskEntryWriteDone d r => Sys2Proof.Machine.execDeskEntryWriteDone d r s
  | .armingTime p => Sys2Proof.Machine.execArmingTime p s
  | .sideSelectSet p => Sys2Proof.Machine.execSideSelectSet p s
  | .idMarkSeen p flux => Sys2Proof.Machine.execIdMarkSeen p flux s
  | .idFieldEnd p record crcHigh crcLow => Sys2Proof.Machine.execIdFieldEnd p record crcHigh crcLow s
  | .dataMarkSeen p sync mark => Sys2Proof.Machine.execDataMarkSeen p sync mark s
  | .dataFieldEnd p data crcHigh crcLow => Sys2Proof.Machine.execDataFieldEnd p data crcHigh crcLow s
  | .dataMarkTimeout p => Sys2Proof.Machine.execDataMarkTimeout p s
  | .huntLimit p => Sys2Proof.Machine.execHuntLimit p s
  | .fluxLoss p flux => Sys2Proof.Machine.execFluxLoss p flux s
  | .gateOpenTime p => Sys2Proof.Machine.execGateOpenTime p s
  | .gateClose p => Sys2Proof.Machine.execGateClose p s
  | .discardRetry e => Sys2Proof.Machine.execDiscardRetry e s
  | .formatEntryStep e => Sys2Proof.Machine.execFormatEntryStep e s
  | .formatJobRepost e => Sys2Proof.Machine.execFormatJobRepost e s
  | .driveRecordWriteDone v r => Sys2Proof.Machine.execDriveRecordWriteDone v r s

end Sys2Proof.Machine
end

