-- ==== Sys2Proof/Safety.lean ====
section
/-! DEFINITION. What holds of the part in a safe run, and what the claims read of a state: the bounds the spec gives
its tables and counts, and the two views that the reports at the end of a command leave as they are. -/

namespace Sys2Proof.Machine

open Sys2Proof

/-! ### Bounds -/

/-- The Lock Table holds at most 24 locks and 16 waiters (R155, R160). -/
def State.lockBounds (s : State) : Prop := s.locks.length ≤ lockLimit ∧ s.waiters.length ≤ waiterLimit

/-- Every lock has a holder, and an EDIT lock has one (8.1, R163). -/
def State.locksHeld (s : State) : Prop :=
  ∀ l ∈ s.locks, l.holders ≠ [] ∧ (l.mode = .edit → l.holders.length = 1)

/-- Two held locks that overlap are both SHARE (R156, R158). -/
def State.locksExclusive (s : State) : Prop :=
  s.locks.Pairwise fun a b => a.extent.overlaps b.extent = true → a.mode = .share ∧ b.mode = .share

/-- The timer's runs and phase count lie in their ranges (02, 2.2). -/
def Timer.inRange (t : Timer) : Prop := t.phi ≤ phiLimit ∧ t.acc ≤ 4 ∧ t.rej ≤ 4

/-- The estimate of a timer lies in its range while one is held (R30). -/
def Timer.estimateInRange (t : Timer) : Prop :=
  ∀ e, t.p16 = some e → 16 * periodMin ≤ e ∧ e ≤ 16 * periodMax

/-- Every timer keeps its ranges. -/
def State.timersInRange (s : State) : Prop :=
  ∀ v : DriveNo, (s.drive v).timer.inRange ∧ (s.drive v).timer.estimateInRange

/-- The memory the part has written, and every data area, is in its canonical form. -/
def State.memoriesWf (s : State) : Prop :=
  s.mem.wf = true ∧ ∀ f : FrameNo, (s.frame f).area.wf = true

/-- No two HELD frames carry the same key (R63). -/
def State.keysDistinct (s : State) : Prop :=
  ∀ f g : FrameNo, (s.frame f).held = true → (s.frame g).held = true → (s.frame f).key = (s.frame g).key → f = g

/-- A desk has at most 4 orders in flight, and fewer while a TAKEN write is outstanding for it (R121). -/
def Desk.windowKept (k : Desk) : Prop :=
  k.inFlight ≤ 4 ∧ ∀ a f, k.look = .taking a f → k.inFlight ≤ 3

/-- Every desk keeps its window. -/
def State.windowsKept (s : State) : Prop := ∀ d : DeskNo, (s.desk d).windowKept

/-- RUN is clear in STOPPED and DRAINING and set in RUNNING, and a start is in progress only in STARTING (R181 to
R186). -/
def State.runMatches (s : State) : Prop :=
  (s.ctl = .stopped → s.run = false) ∧ (s.ctl = .draining → s.run = false) ∧ (s.ctl = .running → s.run = true)
    ∧ (s.ctl ≠ .starting → s.start = .idle)

/-- The command brings a byte list of another length than the transfer that it ends (log 3). -/
def State.badLength (s : State) : Instr → Prop
  | .headerReadDone (.data b) => s.ctl = .starting ∧ s.start = .readingHeader ∧ b.length ≠ 64
  | .profileReadDone v (.data b) _ => (s.drive v).profileReads ≠ [] ∧ b.length ≠ 5
  | .linkReadDone d (.data b) => (s.desk d).state = .fetching ∧ (s.desk d).look = .link ∧ b.length ≠ 4
  | .blockReadDone d (.data b) =>
    (s.desk d).state = .fetching ∧ (∃ addr, (s.desk d).look = .block addr) ∧ b.length ≠ 64
  | .fetchDone e (.data b) => ∃ o, s.order? e = some o ∧ o.stage = .fetch ∧ b.length ≠ o.part.length
  | .layoutReadDone e (.data b) => ∃ o v, s.format? e = some (o, v) ∧ o.phase = .readLayout ∧ b.length ≠ 68
  | _ => False

/-! ### When a command acts alone -/

/-- No drain or shed is in progress. -/
def State.calm (s : State) : Prop := s.ctl ≠ .draining ∧ s.ctl ≠ .shedding

/-- Nothing but the next command can move an order: no drain or shed is in progress, and no order in FILL can go on. -/
def State.still (s : State) : Prop := s.calm ∧ s.readyOrder? = none

/-- No drain or shed is in progress, no order is in FILL, and the Frame Wait Queue is empty: no order waits for a
sector or a frame. -/
def State.noneWaiting (s : State) : Prop :=
  s.calm ∧ s.fwq = [] ∧ ∀ e o, s.order? e = some o → o.stage ≠ .fill

/-- No order but the one in entry `e` can be in FILL, and nothing else waits: no drain or shed is in progress, and the
Frame Wait Queue is empty. -/
def State.onlyFills (s : State) (e : EntryNo) : Prop :=
  s.calm ∧ s.fwq = [] ∧ ∀ e' o, s.order? e' = some o → o.stage = .fill → e' = e

/-- Nothing that waits names the entry: no entry of the Frame Wait Queue and no waiting CHECKOUT. The orders named there
are in FRAME and in LOCK (R84, R159). -/
def State.notQueued (s : State) (e : EntryNo) : Prop :=
  (∀ w ∈ s.fwq, w.order ≠ e) ∧ ∀ w ∈ s.waiters, w.order ≠ e

/-! ### Wants and merges, as the claims read them -/

/-- A sector after a want that is answered WAIT (R68): WANTED or READING, with the rush mark of a RUSH order. -/
def Sector.wantedAt (x : Sector) (g : Word) (rush : Bool) : Sector :=
  let y : Sector := match x.state with
    | .wanted | .reading => x
    | .absent => { x with state := .wanted, stamp := g }
    | _ => { x with state := .wanted, stamp := g, attempts := 0 }
  { y with rush := x.rush || rush }

/-- The sector stands on a sector number that one of the blocks maps to. -/
def Sector.isOne (x : Sector) (geo : Geometry) (blocks : List Nat) : Bool :=
  blocks.any fun b => x.number == geo.sector b

/-- The wait list entries of blocks that a frame's wants answered WAIT (R137). -/
def waitsFor (f : FrameNo) (geo : Geometry) (blocks : List Nat) : List Wanted :=
  blocks.map fun b => { frame := f, sector := geo.sector b, block := b, found := false }

/-- `n` bytes from `a` of a frame's data area reach into the sector. -/
def Frame.reaches (fr : Frame) (a n : Nat) (x : Sector) : Bool :=
  decide (fr.sectorStart x.number < a + n ∧ a < fr.sectorStart x.number + fr.size)

/-- `n` bytes from `a` cover the whole sector. -/
def Frame.fills (fr : Frame) (a n : Nat) (x : Sector) : Bool :=
  decide (a ≤ fr.sectorStart x.number ∧ fr.sectorStart x.number + fr.size ≤ a + n)

/-- The target entries that a merge of `n` bytes at `a` makes, in slot order (R81, R142, R143). -/
def Order.mergeTargets (o : Order) (fr : Frame) (f : FrameNo) (v : DriveNo) (a n : Nat) : List Target :=
  (fr.sectors.filter (fr.reaches a n)).map fun x =>
    { frame := f, drive := v, sector := x.number, block := o.geometry.blockOf o.part.track x.number
      version := x.dataVer + 1, state := if x.state = .stranded then .stranded x.cause else .awaited }

/-- The sector records of a frame before and after a merge of `n` bytes at `a` (R77, R81). -/
def Frame.mergedTo (old new : Frame) (a n : Nat) (g : Word) (verify rush : Bool) : Prop :=
  new.sectors.length = old.sectors.length
  ∧ ∀ (i : Nat) x, old.sectors[i]? = some x → ∃ y, new.sectors[i]? = some y ∧ y.number = x.number
    ∧ (old.reaches a n x = false → y = x)
    ∧ (old.reaches a n x = true → y.dataVer = x.dataVer + 1 ∧ y.verify = (x.verify || verify)
      ∧ y.writtenVer = x.writtenVer ∧ y.settledVer = x.settledVer
      ∧ y.rush = (x.rush || (rush && y.state == .dirty))
      ∧ (x.state = .dirty ∨ x.state = .stranded →
          y.state = x.state ∧ y.stamp = x.stamp ∧ y.attempts = x.attempts ∧ y.redirty = x.redirty)
      ∧ (x.state = .writing ∨ x.state = .checkDue ∨ x.state = .checking →
          y.state = x.state ∧ y.redirty = true ∧ y.stamp = x.stamp)
      ∧ (x.state = .absent ∨ x.state = .wanted ∨ x.state = .reading ∨ x.state = .bad ∨ x.state = .valid →
          y.state = .dirty ∧ y.stamp = g ∧ y.attempts = 0))

/-- The state in which a want for a block finds its sector. -/
def Frame.stateAt (fr : Frame) (geo : Geometry) (b : Nat) : SectorState :=
  match fr.sectors.find? fun x => x.number == geo.sector b with
  | some x => x.state
  | none => .absent

/-- A want that finds this state is answered WAIT (R68), where no shed is in progress. -/
def SectorState.waited (x : SectorState) (fresh : Bool) : Bool :=
  match x with
  | .absent | .wanted | .reading => true
  | .valid | .bad => fresh
  | .dirty | .writing | .checkDue | .checking | .stranded => false

/-- The blocks of an order's current track whose wants at a frame are answered WAIT, ascending (R68, R137). -/
def Order.toWait (o : Order) (fr : Frame) : List Nat :=
  o.needed.filter fun b => (fr.stateAt o.geometry b).waited o.fields.fresh

/-- The lowest block of an order's current track whose want at a frame is answered BAD (R68, R137). -/
def Order.firstBad (o : Order) (fr : Frame) : Option Nat :=
  o.needed.find? fun b => fr.stateAt o.geometry b == .bad && !o.fields.fresh

/-- What the wants of order `o` at frame `f` leave where it has to wait: the order `o'`, and the frame `new` of `fr`. A BAD
block marks its fill used here for a READ; an EXCHANGE marks it at its exchange (R141, R145). -/
def Order.waitsAt (o o' : Order) (f : FrameNo) (fr new : Frame) (g : Word) : Prop :=
  o'.stage = .fill ∧ o'.frame = some f ∧ o'.staging = o.staging
  ∧ o'.wait = waitsFor f o.geometry (o.toWait fr)
  ∧ o'.fillUsed = (if o.fields.kind? = some .exchange then o.fillUsed else o.fillUsed.or (o.firstBad fr))
  ∧ new = { fr with
      sectors := fr.sectors.map fun x => if x.isOne o.geometry (o.toWait fr) then x.wantedAt g o.fields.rush else x }

/-- What a copy-out or an exchange gives of `n` bytes from `a` of a frame: the fill byte for a byte of a BAD sector, the data
area's own byte for every other (R80, R82). -/
def State.givenFrom (s : State) (f : FrameNo) (a n : Nat) (fill : Byte) (bytes : List Byte) : Prop :=
  let fr := s.frame f
  let bad (i : Nat) : Prop := ∃ x ∈ fr.sectors, x.state = .bad
    ∧ fr.sectorStart x.number ≤ i ∧ i < fr.sectorStart x.number + fr.size
  bytes.length = n ∧ ∀ i, i < n →
    (bad (a + i) → bytes[i]? = some fill) ∧ (¬ bad (a + i) → bytes[i]? = some (s.areaByte f (a + i)))

/-- The frame `f` that a request for the track of a key is granted while no order waits for a frame, and the frame as it is
granted: the key's own, else the lowest-numbered FREE one or the victim, allocated by the layout (R63, R64, R67). -/
def State.grants (s : State) (k : Key) (l : Layout) (f : FrameNo) (fr : Frame) : Prop :=
  (s.frameOf k = some f ∧ fr = { s.frame f with uses := (s.frame f).uses + 1, lru := s.g })
  ∨ (s.frameOf k = none
    ∧ (((s.frame f).held = false ∧ ∀ f', f' < f → (s.frame f').held = true)
      ∨ ((∀ f', (s.frame f').held = true) ∧ s.victim? = some f))
    ∧ fr =
      { held := true, key := k, generation := (s.drive k.drive).generation, density := l.density, sizeCode := l.sizeCode
        spt := l.spt, first := l.first, slotMap := l.map, area := (s.frame f).area, uses := 1, lru := s.g
        sectors := l.map.map fun n =>
          { state := .absent, number := n, dataVer := 0, writtenVer := 0, settledVer := 0, writtenCrc := 0
            stamp := s.g, rush := false, attempts := 0, redirty := false, verify := false, check := false
            cause := .write } })

/-- The sectors of a frame stand apart in its data area: no two carry one number, and none lies below the first. -/
def Frame.apart (fr : Frame) : Prop := (fr.sectors.map Sector.number).Nodup ∧ ∀ x ∈ fr.sectors, fr.first ≤ x.number

/-- Port `p` reads, by its work `r`, the sector `x` of frame `f`, which the order `o` in entry `e`, alone in FILL, awaits by
the entry `w` of its wait list. -/
def State.readsFor (s : State) (p : PortNo) (r : Request) (f : FrameNo) (x : Sector) (e : EntryNo) (o : Order)
    (w : Wanted) : Prop :=
  s.onlyFills e ∧ (s.chan p).work = some r ∧ r.kind = .read
  ∧ s.sectorAt ⟨r.drive, r.cylinder, r.head⟩ r.slot = some (f, x) ∧ x.state = .reading
  ∧ s.order? e = some o ∧ o.stage = .fill ∧ o.wantsDue = false ∧ o.frame = some f
  ∧ o.fields.drive = r.drive.val ∧ o.generation = (s.drive r.drive).generation
  ∧ (o.fields.kind? = some .read ∨ o.fields.kind? = some .write ∨ o.fields.kind? = some .exchange)
  ∧ w ∈ o.wait ∧ w.fill = false ∧ w.frame = f ∧ w.sector = x.number
  ∧ (∀ w' ∈ o.wait, w'.frame = f → w'.sector = x.number → w' = w)
  ∧ (s.frame f).apart

/-- The command ends a good data field with data bytes `b` at a port. -/
def State.fieldRead (s : State) (p : PortNo) (r : Request) (i : Instr) (b : List Byte) : Prop :=
  let h := s.chan p
  ∃ data high low hi lo, i = .dataFieldEnd p data high low ∧ h.state = .data ∧ b.length = s.sectorLength r.drive
    ∧ h.settings.bytes h.reference (data ++ high ++ low) (b.length + 2) = b ++ [hi, lo]
    ∧ crc (0xCB :: (b ++ [hi, lo])) = 0

/-- The command ends a read attempt at a port without its data: with its ID field found (`found`), at a bad data field or
a flux loss, or as NOT_FOUND, at the end of the hunt or of the wait for the data mark. -/
def State.readFails (s : State) (p : PortNo) (r : Request) (i : Instr) (found : Bool) : Prop :=
  let h := s.chan p
  (found = true ∧ ∃ data high low b hi lo, i = .dataFieldEnd p data high low ∧ h.state = .data
    ∧ b.length = s.sectorLength r.drive
    ∧ h.settings.bytes h.reference (data ++ high ++ low) (b.length + 2) = b ++ [hi, lo]
    ∧ crc (0xCB :: (b ++ [hi, lo])) ≠ 0)
  ∨ (found = true ∧ ∃ flux, i = .fluxLoss p flux ∧ (h.state = .id ∨ h.state = .data)
    ∧ h.settings.fluxLost h.reference flux = true)
  ∨ (found = false ∧ i = .huntLimit p ∧ h.state = .armed ∧ h.found = none
    ∧ ∃ period, workingPeriod (s.drive r.drive).timer.p16 = some period
      ∧ reached s.g (h.arming + BitVec.ofNat 32 period) = true)
  ∨ (found = false ∧ i = .dataMarkTimeout p ∧ h.state = .armed
    ∧ ∃ m, h.found = some m
      ∧ reached s.g (m + BitVec.ofNat 32 (30 * (if h.settings.density = .fm then 32 else 16))) = true)

/-! ### What a change leaves behind -/

/-- From `s` to `t`, a change of state or cause of drive `v` began its record write behind those that waited: the record of
`d`, the drive as the change left it, with stranded count `n`, marked with whether the drive entered READY. Where the
controller state writes no records, nothing was begun (R113, R114). -/
def State.recordsChange (s t : State) (v : DriveNo) (d : Drive) (n : Nat) (ready : Bool) : Prop :=
  (s.ctl = .running ∨ s.ctl = .draining ∨ s.ctl = .shedding ∨ s.ctl = .safe →
    (s.drive v).recordWrites ++ [⟨⟨driveRecordAddr s.runBase v, d.recordBytes n⟩, some ready⟩]
      <+: (t.drive v).recordWrites)
  ∧ (s.ctl = .stopped ∨ s.ctl = .starting ∨ s.ctl = .failed → (t.drive v).recordWrites = (s.drive v).recordWrites)

/-- From `s` to `t`, drive `v` entered FAULT and every FORMAT in stage JOB on it ended NOT_READY with its track: one that waits
on a discard or for the job slot, one whose job is pending or running, and every diskette format (R169, R173). -/
def State.formatsFail (s t : State) (v : DriveNo) : Prop :=
  ∀ e o n, s.format? e = some (o, v) → s.notQueued e → o.stage = .job → o.track = some n →
    o.phase = .busy ∨ o.phase = .slotFree ∨ o.phase = .discard1 ∨ (∃ b, o.phase = .discard2 b)
      ∨ (o.phase = .posted ∧ (∃ j, (s.drive v).sched.job = some j ∧ j.requester = .format e)
        ∧ ∀ r, (s.chan (portOf v)).work = some r → r.drive = v → r.kind ≠ .discover)
      ∨ o.fields.trackScope = false →
    ∃ o', t.order? e = some o' ∧ o'.stage = .finish ∧ o'.result = some ⟨.notReady, n, s.g⟩ ∧ o'.tracks = o.tracks

/-- A sector in WRITING after a failed write attempt of a number (R73): DIRTY again, or STRANDED after the third. -/
def Sector.afterFailedWrite (x : Sector) (attempt : Nat) : Sector :=
  if attempt < 3 then
    { x with
      state := .dirty, attempts := x.attempts + 1, verify := x.verify || x.check, check := false, redirty := false }
  else
    { x with
      state := .stranded, attempts := 3, rush := false, verify := x.verify || x.check, check := false, redirty := false
      cause := .write }

/-- From `s` to `t`, drive `v` entered FAULT while nothing waited, and the write that its port's channel worked on there ended
FAULTED: a sector in WRITING takes the failed attempt, one in another state discards the report, and no other sector changes
(R61, R73, R76). -/
def State.writeFaulted (s t : State) (v : DriveNo) : Prop :=
  ∀ r f x, s.noneWaiting → (s.chan (portOf v)).work = some r → r.drive = v → r.kind = .write →
    s.sectorAt ⟨v, r.cylinder, r.head⟩ r.slot = some (f, x) →
    (t.frame f).sectors = (if x.state = .writing then (s.frame f).sectors.set r.slot (x.afterFailedWrite r.attempt)
      else (s.frame f).sectors)
    ∧ ∀ f', f' ≠ f → (t.frame f').sectors = (s.frame f').sectors

/-- The order follows a sector of a frame: an AWAITED entry of its target list names it (R142, R143, R146). -/
def Order.follows (o : Order) (f : FrameNo) (n : Nat) : Prop :=
  ∃ y ∈ o.targets, y.frame = f ∧ y.sector = n ∧ y.state = .awaited

/-- A WRITE in SETTLE, no target of which is stranded. -/
def Order.settling (o : Order) : Prop :=
  o.fields.kind? = some .write ∧ o.stage = .settle ∧ o.failure = none ∧ o.fillUsed = none
    ∧ ∀ y ∈ o.targets, y.failure? = none

/-! ### The views -/

/-- Of a drive, what no pick, no order and no frame changes. -/
structure DriveView where
  state : DriveState
  cause : Cause
  incomplete : Bool
  layoutKnown : Bool
  generation : Half
  headCount : Nat
  writeProtect : Bool
  faultStamp : Option Word
  expiry : Expiry
  loadStamp : Option Word
  recalStopped : Bool
  profile : Option Profile
  profileReads : List ReadPurpose
  revolution : Nat
  timer : Timer

/-- The view of a drive: all but its arm, heads, cylinder, lines, scheduler, counters and record writes. -/
def Drive.view (d : Drive) : DriveView :=
  ⟨d.state, d.cause, d.incomplete, d.layoutKnown, d.generation, d.headCount, d.writeProtect, d.faultStamp, d.expiry,
    d.loadStamp, d.recalStopped, d.profile, d.profileReads, d.revolution, d.timer⟩

/-- Of the whole part, what no pick, no order and no frame changes. -/
structure View where
  g : Word
  ctl : CtlState
  run : Bool
  driveNotice : Bool
  startCode : StartCode
  tableBase : Word
  runBase : Word
  notice : Word
  noticeEnable : Word
  warning : Bool
  start : StartPhase
  header : Option Header
  snapTimer : Option Word
  tableWait : List DeskNo
  desks : Vector Desk 16
  orphans : List Orphan
  mem : Mem
  pending : List Instr
  drives : Vector DriveView 4

/-- The view of a state: the registers, the controller, the desks, cluster memory, the queue and the drives' views. -/
def State.view (s : State) : View :=
  ⟨s.g, s.ctl, s.run, s.driveNotice, s.startCode, s.tableBase, s.runBase, s.notice, s.noticeEnable, s.warning, s.start,
    s.header, s.snapTimer, s.tableWait, s.desks, s.orphans, s.mem, s.pending, s.drives.map Drive.view⟩

/-- A table entry, a FORMAT's place among its jobs left out: what no pick changes. -/
def Slot.view : Slot → Slot
  | .order o => .order { o with phase := .none }
  | x => x

/-- Of the store, the Lock Table and the Active Order Table, what no pick changes. -/
structure StoreView where
  frames : Vector Frame 16
  fwq : List Waiting
  quiet : List QuietWait
  locks : List Lock
  waiters : List Waiter
  table : Vector Slot 32

/-- The store's view of a state: the frames, the queues, the locks and the orders. -/
def State.store (s : State) : StoreView :=
  ⟨s.frames, s.fwq, s.quiet, s.locks, s.waiters, s.table.map Slot.view⟩

/-- A state with another record for one drive. -/
def State.withDrive (s : State) (v : DriveNo) (d : Drive) : State := { s with drives := s.drives.set v.val d }

/-- A state with another record for one desk. -/
def State.withDesk (s : State) (d : DeskNo) (k : Desk) : State := { s with desks := s.desks.set d.val k }

/-- A state with another channel at one port. -/
def State.withChan (s : State) (p : PortNo) (h : Channel) : State := { s with channels := s.channels.set p.val h }

/-- Bytes stored from an address, the lowest first, and every other address as before. -/
def storedAt (old new : Mem) (addr : Nat) (bytes : List Byte) : Prop :=
  (∀ i b, bytes[i]? = some b → new.read (addr + i) = some b)
    ∧ ∀ a, a < addr ∨ addr + bytes.length ≤ a → new.read a = old.read a

end Sys2Proof.Machine
end

