-- ==== Sys2Proof/Certificates/Slice0/Obligations.lean ====
section
/-! DEFINITION. The statements for the provers: what each command of the part does, what every step keeps, and what the
state after power-on is. The hypotheses `still` and `noneWaiting` of some of them (Sys2Proof/Safety.lean) name the states
in which nothing but the command at hand can move an order. -/

open Sys2Proof Sys2Proof.Machine

/-! ### Steps, stops and power -/

/-- A step with a command at the front of the queue is that command's meaning on the state with the queue's rest. -/
def Obligations.StepRunsTheFrontCommand : Prop :=
  ∀ (i : Instr) (rest : List Instr) (s : State), s.pending = i :: rest → step s = exec i { s with pending := rest }

/-- With nothing waiting one microsecond passes: the model's choice, log 1 and log 7. The phase counts move as R26
states. -/
def Obligations.EmptyQueueStepIsOneMicrosecond : Prop :=
  ∀ s : State, s.pending = [] → ∃ t, step s = .next t
    ∧ t.g = s.g + 1
    ∧ (∀ v, (s.drive v).state = .absent ∨ (s.drive v).state = .empty → t.drive v = s.drive v)
    ∧ (∀ v, (s.drive v).state ≠ .absent → (s.drive v).state ≠ .empty →
        t.drive v = { s.drive v with timer := { (s.drive v).timer with phi := min 1048575 ((s.drive v).timer.phi + 1) } })
    ∧ t.pending = t.due
    ∧ { t with g := s.g, drives := s.drives, pending := s.pending } = s

/-- A command completes unless it brings a byte list of another length than the transfer it ends: the model's choice,
log 3. -/
def Obligations.OnlyAWrongLengthStops : Prop :=
  ∀ (i : Instr) (s : State),
    (s.badLength i → exec i s = .fault .wrongLength) ∧ (¬ s.badLength i → ∃ t, exec i s = .next t)

/-- What POWER_ON leaves (R11, R38, R39, R63, R92, R117, R129, R155, R160, R175 to R181). That the levels of the inputs,
cluster memory and the queue stay is the model's choice, log 15; so are the load stamp, which is none, and the DIRECTION
line, which is low, log 32. -/
def Obligations.PowerOnValues : Prop :=
  ∀ s : State, ∃ t, exec .powerOn s = .next t
    ∧ t.g = 0 ∧ t.ctl = .stopped ∧ t.run = false ∧ t.driveNotice = false ∧ t.startCode = .none ∧ t.tableBase = 0
    ∧ t.notice = 0 ∧ t.noticeEnable = 0 ∧ t.start = .idle ∧ t.header = none ∧ t.snapTimer = none
    ∧ t.readRegister 0 = 0x48280003 ∧ (∀ n, n ≠ 0 → t.readRegister n = 0)
    ∧ (∀ v, let d := t.drive v
        d.state = .absent ∧ d.cause = .none ∧ d.layoutKnown = false ∧ d.generation = 0 ∧ d.cylinder = 0
          ∧ d.incomplete = false ∧ d.heads = .unloaded ∧ d.headCount = 1 ∧ d.writeProtect = false ∧ d.faultStamp = none
          ∧ d.expiry = .none ∧ d.loadStamp = none ∧ d.profile = none ∧ d.profileReads = [] ∧ d.arm = .free
          ∧ d.timer.p16 = none ∧ d.timer.active = none ∧ d.timer.staged = none ∧ d.timer.phi = 0 ∧ d.timer.prev = none
          ∧ d.timer.acc = 0 ∧ d.timer.rej = 0 ∧ d.timer.noIndex = none
          ∧ d.sched.state = .quiet ∧ d.sched.job = none ∧ d.sched.target = none ∧ d.sched.idle = 0 ∧ d.sched.hold = false
          ∧ d.sched.busy = [] ∧ d.lines = { (s.drive v).lines with inward := false }
          ∧ d.health.counters = Vector.replicate 8 0 ∧ d.health.overflow = 0 ∧ d.health.candMark = 0
          ∧ d.health.framesMark = 0 ∧ d.health.snapshot = none ∧ d.recordWrites = [])
    ∧ (∀ p, (t.chan p).state = .idle ∧ (t.chan p).work = none ∧ (t.chan p).selected = none
        ∧ (t.chan p).selectLine = none ∧ (t.chan p).sideLine = false ∧ (t.chan p).selectDue = none
        ∧ (t.chan p).burst = 0 ∧ (t.chan p).staging = [] ∧ (t.chan p).listen = []
        ∧ (t.chan p).pendLow = none ∧ (t.chan p).pendHigh = none
        ∧ (t.chan p).owedLow = false ∧ (t.chan p).owedHigh = false ∧ (t.chan p).roundOpen = false)
    ∧ (∀ v, t.writeGate v = false) ∧ t.quiet = [] ∧ t.orphans = []
    ∧ (∀ f, (t.frame f).held = false) ∧ t.fwq = [] ∧ (∀ e, t.slot e = .free) ∧ t.tableWait = []
    ∧ (∀ d, let k := t.desk d
        k.state = .halted ∧ k.fault = .none ∧ k.cursor = none ∧ k.latch = false ∧ k.taken = 0 ∧ k.done = 0
          ∧ k.inFlight = 0 ∧ k.look = .none ∧ k.entryWrites = [])
    ∧ t.locks = [] ∧ t.waiters = [] ∧ t.warning = s.warning ∧ t.mem = s.mem ∧ t.pending = s.pending

/-- What the register window reads (6.1, R107, R108), the level of INTERRUPT (R110), and the writes REGISTER_WRITE,
TABLE_BASE_WRITE and NOTICE_CLEAR (R107 to R110): what is ignored, what NOTICE_ENABLE, TABLE_BASE and NOTICE take, and that
a word written at CONTROL, TABLE_BASE, DESK_COMMAND or NOTICE is the command of that register's own row. That four bytes
written at an offset that is no multiple of 4 are ignored is the model's choice, log 50. -/
def Obligations.RegisterWindow : Prop :=
  (∀ s : State,
      s.readRegister 0x00 = 0x48280003
      ∧ (∀ i, (s.readRegister 0x04).getLsbD i = ((i == 0 && s.run) || (i == 2 && s.driveNotice)))
      ∧ (s.readRegister 0x08).toNat =
          (match s.ctl with
            | .stopped => 0 | .starting => 1 | .running => 2 | .draining => 3 | .shedding => 4 | .safe => 5 | .failed => 6)
          + 256 * (match s.startCode with
            | .none => 0 | .badMark => 1 | .badDeskCount => 2 | .badOverdue => 3 | .headerBusError => 4)
      ∧ s.readRegister 0x0C = s.tableBase ∧ s.readRegister 0x10 = 0 ∧ s.readRegister 0x14 = s.notice
      ∧ s.readRegister 0x18 = s.noticeEnable ∧ s.readRegister 0x1C = 0
      ∧ (∀ (n : Fin 8) (i : Fin 4) (k : Nat), k < 8 →
          (s.readWindowByte (4 * n.val + i.val)).getLsbD k = (s.readRegister (4 * n.val)).getLsbD (8 * i.val + k))
      ∧ (s.interrupt = true ↔ ∃ i, s.notice.getLsbD i = true ∧ s.noticeEnable.getLsbD i = true))
  ∧ ∀ s : State,
      (∀ offset size value, size ≠ 4 ∨ offset.toNat % 4 ≠ 0 → exec (.registerWrite offset size value) s = .next s)
      ∧ (∀ offset value, offset = 0x00 ∨ offset = 0x08 ∨ offset = 0x1C → exec (.registerWrite offset 4 value) s = .next s)
      ∧ (∀ value, exec (.registerWrite 0x18 4 value) s = .next { s with noticeEnable := value &&& 0x01FFFFFF })
      ∧ (∀ value, exec (.registerWrite 0x0C 4 value) s = exec (.tableBaseWrite value) s)
      ∧ (∀ value, exec (.tableBaseWrite value) s =
          .next { s with tableBase := if s.ctl = .stopped then value &&& 0x00FFFF00 else s.tableBase })
      ∧ (∀ value, exec (.registerWrite 0x14 4 value) s = exec (.noticeClear value) s)
      ∧ (∀ value, exec (.noticeClear value) s = .next { s with notice := s.notice &&& ~~~value })
      ∧ (∀ value, value.getLsbD 1 = true → exec (.registerWrite 0x04 4 value) s = exec .restart s)
      ∧ (∀ value, value.getLsbD 1 = false → value.getLsbD 0 = true →
          exec (.registerWrite 0x04 4 value) s = exec (.runSet (value.getLsbD 2)) s)
      ∧ (∀ value, value.getLsbD 1 = false → value.getLsbD 0 = false →
          exec (.registerWrite 0x04 4 value) s = exec (.runClear (value.getLsbD 2)) s)
      ∧ (∀ (value : Word) (d : DeskNo), value.toNat % 16 = d.val →
          exec (.registerWrite 0x10 4 value) s =
            match value.getLsbD 9, value.getLsbD 8 with
            | false, false => exec (.attend d) s
            | false, true => exec (.halt d) s
            | true, false => exec (.deskRestart d) s
            | true, true => exec (.releaseLocks d) s)

/-- A bit of NOTICE falls only by a write to NOTICE, a restart or power-on (R110). -/
def Obligations.NoticesFallOnlyByCommand : Prop :=
  ∀ (i : Instr) (s t : State), exec i s = .next t →
    i ≠ .powerOn → i ≠ .restart → (∀ value, i ≠ .noticeClear value)
      → (∀ value, i ≠ .registerWrite 0x14 4 value) → (∀ value, value.getLsbD 1 = true → i ≠ .registerWrite 0x04 4 value)
      → ∀ k, s.notice.getLsbD k = true → t.notice.getLsbD k = true

/-! ### Controller Control -/

/-- RUN_SET (R108, R181 to R183, R186): a start in STOPPED; in DRAINING the return to RUNNING, with every drive record
written and every IDLE desk of the run looking again, while one outside the run stays as it is (R111, R127); elsewhere the
bit is held, in FAILED too (log 31). -/
def Obligations.RunSet : Prop :=
  ∀ (n : Bool) (s : State), ∃ t, exec (.runSet n) s = .next t ∧ t.run = true ∧ t.driveNotice = n
    ∧ (s.ctl = .stopped → s.run = false → t.view = { s.view with
        run := true, driveNotice := n, ctl := .starting, startCode := .none, runBase := s.tableBase
        start := .readingHeader })
    ∧ (s.ctl = .running ∨ s.ctl = .safe ∨ s.ctl = .failed → t.view = { s.view with run := true, driveNotice := n })
    ∧ (s.ctl = .starting → (∀ h, s.start ≠ .probing h) ∨ (∃ v, (s.drive v).probing = true) ∨ s.warning = true →
        t.view = { s.view with run := true, driveNotice := n })
    ∧ (s.ctl = .shedding → s.tableEmpty = false → t.ctl = .shedding)
    ∧ (s.ctl = .draining → s.run = false → t.ctl = .running ∧ t.header = s.header ∧ t.notice = s.notice
        ∧ (∀ v, (s.drive v).recordWrites ++ [⟨⟨driveRecordAddr s.runBase v,
            (s.drive v).recordBytes (s.strandedCount v)⟩, none⟩] <+: (t.drive v).recordWrites)
        ∧ (∀ d, (s.desk d).state ≠ .idle ∨ s.deskInRun d = false → t.desk d = s.desk d)
        ∧ (∀ d, (s.desk d).state = .idle → s.deskInRun d = true →
            ({ t.desk d with entryWrites := [] } : Desk) =
              { s.desk d with state := .fetching, latch := false, look := .link, entryWrites := [] }))

/-- RUN_CLEAR (R108, R117, R165, R183, R184, R186): in RUNNING every FETCHING desk becomes IDLE, the waiting CHECKOUTs end
ABANDONED and the drain begins, or STOPPED follows at once where nothing is left; FAILED is left; a start that waits on
the warning ends; elsewhere the bit alone is held. -/
def Obligations.RunClear : Prop :=
  ∀ (n : Bool) (s : State), ∃ t, exec (.runClear n) s = .next t ∧ t.run = false ∧ t.driveNotice = n
    ∧ (s.ctl = .stopped ∨ s.ctl = .safe → t.view = { s.view with run := false, driveNotice := n })
    ∧ (s.ctl = .failed → t.view = { s.view with
        run := false, driveNotice := n, ctl := .stopped, snapTimer := none, start := .idle })
    ∧ (s.ctl = .starting → (∀ h, s.start ≠ .probing h) ∨ (∃ v, (s.drive v).probing = true) →
        t.view = { s.view with run := false, driveNotice := n })
    ∧ (∀ h, s.ctl = .starting → s.start = .probing h → (∀ v, (s.drive v).probing = false) → t.view = { s.view with
        run := false, driveNotice := n, ctl := .stopped, snapTimer := none, start := .idle })
    ∧ (s.ctl = .draining ∨ s.ctl = .shedding → s.tableEmpty = false → t.ctl = s.ctl)
    ∧ (s.ctl = .running → s.run = true →
        t.tableWait = []
        ∧ (∀ d, (s.desk d).state ≠ .fetching → t.desk d = s.desk d)
        ∧ (∀ d, (s.desk d).state = .fetching →
            ({ t.desk d with entryWrites := [] } : Desk) =
              { s.desk d with state := .idle, latch := false, look := .none, entryWrites := [] })
        ∧ ((∀ w ∈ s.waiters, ∃ o, s.order? w.order = some o ∧ o.stage ≠ .finish) → t.waiters = []
          ∧ ∀ w ∈ s.waiters, ∃ o, t.order? w.order = some o ∧ o.result = some ⟨.abandoned, 0, s.g⟩)
        ∧ (s.tableEmpty = false ∨ s.anySector SectorState.unsettled = true → t.ctl = .draining)
        ∧ (s.tableEmpty = true → s.anySector SectorState.unsettled = false →
            t.ctl = .stopped ∧ t.snapTimer = none ∧ t.start = .idle
            ∧ ∀ v, (s.drive v).sched.job = none → (t.drive v).heads = .unloaded))

/-- RESTART (R39, R62, R90, R106, R108, R128, R165, R174, R176, R187): the orders, desks, sectors, drives and channels. A
channel's last values are stated where no drive of its port has a track job left to serve. That the writes of the abandoned
orders stay outstanding, each with ABANDONED also where its order had come to another code, are readings of the spec: log 11
and log 12; where the results are written already, only DONE is left (log 56). That the profile reads of an abandoned start
stay outstanding and end as a load's read does is the model's choice, log 70. A bus error on a desk's entry write is dropped
here (R128). A diskette format's granted track job runs on
and keeps its drive FORMATTING; every other drive in FORMATTING becomes BLANK. -/
def Obligations.Restart : Prop :=
  ∀ s : State, ∃ t, exec .restart s = .next t
    ∧ t.ctl = .stopped ∧ t.run = false ∧ t.startCode = .none ∧ t.notice = 0 ∧ t.snapTimer = none ∧ t.start = .idle
    ∧ t.g = s.g ∧ t.driveNotice = s.driveNotice ∧ t.tableBase = s.tableBase ∧ t.noticeEnable = s.noticeEnable
    ∧ t.header = s.header ∧ t.warning = s.warning ∧ t.mem = s.mem ∧ t.pending = s.pending
    ∧ t.locks = s.locks ∧ t.waiters = [] ∧ t.fwq = [] ∧ t.quiet = [] ∧ t.tableWait = [] ∧ (∀ e, t.slot e = .free)
    ∧ t.orphans = s.orphans ++ s.orders.map (fun x =>
        { addr := x.2.addr, desk := x.2.desk, bytes := x.2.resultBytes ⟨.abandoned, 0, s.g⟩
          resultWritten := x.2.resultWritten, counts := true })
    ∧ (∀ d, let k : Desk := { s.desk d with state := .halted, inFlight := 0, latch := false, look := .none }
        t.desk d = { k with entryWrites := k.entryWrites ++
          (if s.deskInRun d = true then [⟨deskEntryAddr s.runBase d, k.entryBytes, true⟩] else []) })
    ∧ (∀ f, (s.frame f).held = false → t.frame f = s.frame f)
    ∧ (∀ f, (s.frame f).held = true → t.frame f = { s.frame f with
        uses := 0
        sectors := (s.frame f).sectors.map fun x =>
          match x.state with
          | .wanted | .reading => { x with state := .absent, rush := false }
          | .writing | .checkDue | .checking =>
            { x with state := .dirty, rush := false, verify := x.verify || x.check, check := false, redirty := false }
          | .absent | .valid | .dirty | .bad | .stranded => { x with rush := false } })
    ∧ (∀ v, (s.drive v).state ≠ .formatting → (t.drive v).view = { (s.drive v).view with
        profileReads := (s.drive v).profileReads.map fun x => if x = .start then .load else x })
    ∧ (∀ v, (s.drive v).state = .formatting →
        (∀ j, (s.drive v).sched.job = some j → j.requester ≠ .gone true
          ∧ (j.kind = .formatTrack → j.running = false ∨ j.requester = .gone false)) →
        (t.drive v).state = .blank ∧ (t.drive v).cause = .incomplete ∧ (t.drive v).layoutKnown = false)
    ∧ (∀ v j, (s.drive v).state = .formatting → (s.drive v).sched.job = some j → j.kind = .formatTrack →
        j.running = true → j.requester ≠ .gone false →
        (∀ p r, (s.chan p).work = some r → r.drive = v → r.kind = .formatTrack) →
        (t.drive v).state = .formatting ∧ (t.drive v).cause = (s.drive v).cause
        ∧ (t.drive v).layoutKnown = (s.drive v).layoutKnown ∧ (t.drive v).timer = (s.drive v).timer
        ∧ (t.drive v).sched.job = some { j with requester := .gone true })
    ∧ (∀ v j, (s.drive v).state ≠ .formatting → (s.drive v).sched.job = some j → j.kind = .formatTrack →
        j.running = true → (∀ b, j.requester ≠ .gone b) →
        (∀ p r, (s.chan p).work = some r → r.drive = v → r.kind = .formatTrack) →
        (t.drive v).sched.job = some { j with requester := .gone false })
    ∧ (∀ v, (s.drive v).sched.job = none → (s.drive v).state ≠ .discovery →
        (t.drive v).health = (s.drive v).health ∧ (t.drive v).heads = (s.drive v).heads
        ∧ (t.drive v).arm = (s.drive v).arm ∧ (t.drive v).cylinder = (s.drive v).cylinder
        ∧ (t.drive v).sched.target = none
        ∧ (t.drive v).sched.state = (match (s.drive v).sched.state with
            | .moving => .moving
            | .recalibrating => .recalibrating
            | .quiet | .filed | .served => .quiet))
    ∧ (∀ p r, (s.chan p).work = some r → (s.chan p).state = .gate ∨ r.kind = .formatTrack →
        t.chan p = { s.chan p with
          acrossRestart := true, listen := [], pendLow := none, pendHigh := none, roundOpen := false })
    ∧ (∀ p, (∀ r, (s.chan p).work = some r → (s.chan p).state ≠ .gate ∧ r.kind ≠ .formatTrack) →
        (t.chan p).staging = [] ∧ (t.chan p).listen = [] ∧ (t.chan p).roundOpen = false
        ∧ (t.chan p).acrossRestart = false
        ∧ ((t.chan p).state = .idle ∨ ((t.chan p).state = .selecting ∧ ∃ r, (t.chan p).work = some r ∧ r.kind = .discover))
        ∧ ((∀ v, portOf v = p → (s.drive v).sched.job = none ∧ (s.drive v).state ≠ .discovery) →
            t.chan p = { s.chan p with
              state := .idle, work := none, burst := 0, staging := [], listen := [], found := none, field := none
              acrossRestart := false, pendLow := none, pendHigh := none, roundOpen := false }))
    ∧ (∀ p r, (s.chan p).work = some r → (s.chan p).state ≠ .gate → r.kind = .discover → portOf r.drive = p →
        (s.drive r.drive).state = .discovery →
        ∃ j, (t.drive r.drive).sched.job = some j ∧ j.kind = .discover ∧ j.requester = .driveControl
          ∧ j.density = (if (s.drive r.drive).revolution % 2 = 1 then .mfm else .fm))

/-- POWER_WARNING_RISE (R91, R117, R152, R165, R174, R181, R185): RUNNING and DRAINING go to SHEDDING, and at once to SAFE
where nothing is left to save; the orders that the shed does not carry end ABANDONED; a FORMAT whose job is granted waits for
the outcome, every other ends ABANDONED with its pending job withdrawn, and a drive left in FORMATTING by one becomes BLANK
with cause INCOMPLETE (one still reading its layout ends so too: log 21); elsewhere the level alone is held. What the
sectors of HELD frames become (R76, R91), WANTED and CHECK_DUE ones, and those that a read or a check cut short leaves, is
stated where no order can go on and none waits for a frame. -/
def Obligations.PowerWarningRise : Prop :=
  ∀ s : State, ∃ t, exec .powerWarningRise s = .next t ∧ t.warning = true ∧ t.run = s.run
    ∧ (s.ctl ≠ .running → s.ctl ≠ .draining → s.ctl ≠ .shedding → t.view = { s.view with warning := true })
    ∧ (s.ctl = .shedding → s.tableEmpty = false → t.ctl = .shedding)
    ∧ (s.ctl = .running ∨ s.ctl = .draining →
        (t.ctl = .shedding ∨ t.ctl = .safe)
        ∧ (s.tableEmpty = false → t.ctl = .shedding)
        ∧ (s.tableEmpty = true → (∀ f, (s.frame f).held = false) → t.ctl = .safe)
        ∧ (t.ctl = .safe → t.notice.getLsbD 23 = true ∧ ∀ v, (t.drive v).heads = .unloaded)
        ∧ t.tableWait = []
        ∧ (∀ e o v, s.format? e = some (o, v) → s.notQueued e →
            let granted : Prop := ∃ j, (s.drive v).sched.job = some j ∧ j.requester = .format e ∧ j.running = true
            (granted → o.stage = .job → o.phase = .posted →
                (∀ p r, (s.chan p).work = some r → r.drive = v → r.kind = .formatTrack) → t.order? e = some o)
            ∧ (¬ granted →
                (∃ o', t.order? e = some o' ∧ o'.stage = .finish ∧ o'.result = some ⟨.abandoned, 0, s.g⟩
                  ∧ o'.tracks = o.tracks)
                ∧ (∀ j, (t.drive v).sched.job = some j → j.requester ≠ .format e)
                ∧ (o.stage = .job → o.fields.trackScope = false → (s.drive v).state = .formatting →
                    (t.drive v).state = .blank ∧ (t.drive v).cause = .incomplete ∧ (t.drive v).layoutKnown = false)))
        ∧ (∀ d, (s.desk d).state ≠ .fetching → t.desk d = s.desk d)
        ∧ (∀ d, (s.desk d).state = .fetching →
            ({ t.desk d with entryWrites := [] } : Desk) =
              { s.desk d with state := .idle, latch := false, look := .none, entryWrites := [] })
        ∧ (∀ f x, (t.frame f).held = true → x ∈ (t.frame f).sectors → x.state ≠ .wanted ∧ x.state ≠ .checkDue)
        ∧ (s.readyOrder? = none → s.fwq = [] → ∀ f, (s.frame f).held = true →
            (t.frame f).held = true ∧ (t.frame f).key = (s.frame f).key ∧ (t.frame f).area = (s.frame f).area
            ∧ (t.frame f).sectors.length = (s.frame f).sectors.length
            ∧ (∀ (k : Nat) x, (s.frame f).sectors[k]? = some x → x.state ≠ .reading → x.state ≠ .checking →
                (t.frame f).sectors[k]? = some (match x.state with
                  | .wanted => { x with state := .absent, rush := false }
                  | .checkDue => { x with state := .dirty, check := false, verify := false }
                  | _ => x))
            ∧ ∀ p r x, (s.chan p).work = some r →
                s.sectorAt ⟨r.drive, r.cylinder, r.head⟩ r.slot = some (f, x) →
                (r.kind = .read → x.state = .reading →
                  (t.frame f).sectors[r.slot]? = some { x with state := .absent, rush := false })
                ∧ (r.kind = .check → x.state = .checking →
                  (t.frame f).sectors[r.slot]? = some { x with state := .dirty, check := false, verify := false }))
        ∧ ((∀ w ∈ s.waiters, ∃ o, s.order? w.order = some o ∧ o.stage ≠ .finish) → t.waiters = []
          ∧ (∀ w ∈ s.waiters, ∃ o, t.order? w.order = some o ∧ o.result = some ⟨.abandoned, 0, s.g⟩)
          ∧ ∀ e o, s.order? e = some o →
              (o.fields.kind? = some .read ∧ o.stage ≠ .finish)
                ∨ (o.fields.kind? = some .write ∧ o.stage ≠ .settle ∧ o.stage ≠ .finish)
                ∨ (o.fields.kind? = some .exchange ∧ (o.stage = .frame ∨ o.stage = .fetch ∨ o.stage = .fill)) →
              (∃ o', t.order? e = some o' ∧ o'.stage = .finish ∧ o'.result = some ⟨.abandoned, 0, s.g⟩
                ∧ o'.frame = none ∧ o'.tracks = o.tracks)
              ∧ ∀ w ∈ t.fwq, w.order ≠ e))

/-- POWER_WARNING_FALL (R111, R117, R127, R179, R182, R185, R186): SAFE is left by the held RUN bit, every IDLE desk of the
run looking again and one outside it staying as it is, and a start that waits on the warning enters RUNNING, every drive record
being written at either entry (R113); elsewhere the level alone is held. That a desk outside the run is then HALTED is log 54,
and that the done counts begin at 0 whatever an earlier restart still has to write is log 12. -/
def Obligations.PowerWarningFall : Prop :=
  ∀ s : State,
    let recorded (t : State) : Prop := ∀ v, (s.drive v).recordWrites ++ [⟨⟨driveRecordAddr s.runBase v,
      (s.drive v).recordBytes (s.strandedCount v)⟩, none⟩] <+: (t.drive v).recordWrites
    ∃ t, exec .powerWarningFall s = .next t ∧ t.warning = false
    ∧ (s.ctl = .stopped ∨ s.ctl = .running ∨ s.ctl = .failed → t.view = { s.view with warning := false })
    ∧ (s.ctl = .shedding ∨ s.ctl = .draining → s.tableEmpty = false → t.ctl = s.ctl)
    ∧ (s.ctl = .safe → s.run = false →
        t.view = { s.view with warning := false, ctl := .stopped, snapTimer := none, start := .idle })
    ∧ (s.ctl = .safe → s.run = true → t.ctl = .running ∧ t.header = s.header ∧ recorded t
        ∧ (∀ d, (s.desk d).state ≠ .idle ∨ s.deskInRun d = false → t.desk d = s.desk d)
        ∧ (∀ d, (s.desk d).state = .idle → s.deskInRun d = true →
            ({ t.desk d with entryWrites := [] } : Desk) =
              { s.desk d with state := .fetching, latch := false, look := .link, entryWrites := [] }))
    ∧ (s.ctl = .starting → (∀ h, s.start ≠ .probing h) ∨ (∃ v, (s.drive v).probing = true) →
        t.view = { s.view with warning := false })
    ∧ (∀ h, s.ctl = .starting → s.start = .probing h → (∀ v, (s.drive v).probing = false) → s.run = true →
        t.ctl = .running ∧ t.header = some h ∧ t.start = .idle ∧ recorded t
        ∧ t.snapTimer = (if h.snapshotInterval = 0 then none
            else some (s.g + BitVec.ofNat 32 (h.snapshotInterval * 1000000)))
        ∧ (∀ d : DeskNo, h.deskCount ≤ d.val → t.desk d = { s.desk d with state := .halted })
        ∧ t.orphans = s.orphans.map (fun x => { x with counts := false })
        ∧ (∀ d : DeskNo, d.val < h.deskCount → ({ t.desk d with entryWrites := [] } : Desk) =
            { state := .fetching, fault := .none, cursor := none, latch := false, taken := 0, done := 0, inFlight := 0
              look := .link }))

/-! ### Desks and locks -/

/-- ATTEND of a desk in the run, in RUNNING (R124). -/
def Obligations.Attend : Prop :=
  ∀ (d : DeskNo) (s : State), s.still → s.ctl = .running → s.deskInRun d = true →
    let k := s.desk d
    let k1 : Desk := { k with latch := false, state := .fetching }
    (k.state = .idle → exec (.attend d) s = .next (s.withDesk d
        { k1 with look := .link, entryWrites := k.entryWrites ++ [⟨deskEntryAddr s.runBase d, k1.entryBytes, false⟩] }))
    ∧ (k.state = .fetching → exec (.attend d) s = .next (s.withDesk d { k with latch := true }))
    ∧ (k.state = .halting ∨ k.state = .halted → exec (.attend d) s = .next s)

/-- HALT of a desk in the run, in the states that take it (R125, R165). In SHEDDING the same command may end the shed, so
there nothing is said of the other desks. A bus error on its entry write is a desk fault, but where the desk already holds a
fault code (R112, R123, log 22). Where ATTEND, HALT and RESTART of a desk are ignored (R127): nothing happens but the
reports that were due anyway. -/
def Obligations.HaltAndWhatIsIgnored : Prop :=
  (∀ (d : DeskNo) (s : State), s.ctl = .running ∨ s.ctl = .draining ∨ s.ctl = .shedding → s.deskInRun d = true →
    ∃ t, exec (.halt d) s = .next t
    ∧ ((s.desk d).state = .halting ∨ (s.desk d).state = .halted →
        t.desk d = s.desk d ∧ (s.ctl ≠ .shedding → t.desks = s.desks))
    ∧ ((s.desk d).state = .idle ∨ (s.desk d).state = .fetching →
        (t.desk d).state = (if 0 < (s.desk d).inFlight then .halting else .halted)
        ∧ (t.desk d).latch = false ∧ (t.desk d).look = .none ∧ (t.desk d).fault = (s.desk d).fault
        ∧ (t.desk d).cursor = (s.desk d).cursor ∧ (t.desk d).taken = (s.desk d).taken
        ∧ (t.desk d).done = (s.desk d).done ∧ (t.desk d).inFlight = (s.desk d).inFlight
        ∧ (t.desk d).entryWrites =
            (s.desk d).entryWrites ++ [⟨deskEntryAddr s.runBase d, (t.desk d).entryBytes, (t.desk d).faultStands⟩]
        ∧ d ∉ t.tableWait
        ∧ (s.ctl ≠ .shedding → s.reservedFor? d = none → ∀ d', d' ≠ d → t.desk d' = s.desk d')
        ∧ (∀ w ∈ s.waiters, w.desk = d → (∃ o, s.order? w.order = some o ∧ o.stage ≠ .finish) →
            (∃ o, t.order? w.order = some o ∧ o.result = some ⟨.abandoned, 0, s.g⟩)
            ∧ ∀ w' ∈ t.waiters, w'.order ≠ w.order)))
  ∧ ∀ (d : DeskNo) (s : State),
    (s.ctl ≠ .running ∨ s.deskInRun d = false →
      exec (.attend d) s = (Ctx.of s).next ∧ exec (.deskRestart d) s = (Ctx.of s).next)
    ∧ ((s.ctl ≠ .running ∧ s.ctl ≠ .draining ∧ s.ctl ≠ .shedding) ∨ s.deskInRun d = false →
      exec (.halt d) s = (Ctx.of s).next)
    ∧ (s.ctl ≠ .shedding → ∃ t, (Ctx.of s).next = .next t ∧ t.desks = s.desks)
    ∧ (s.still → (Ctx.of s).next = .next s)

/-- A desk RESTART of a desk in the run, in RUNNING (R126). -/
def Obligations.DeskRestart : Prop :=
  ∀ (d : DeskNo) (s : State), s.still → s.ctl = .running → s.deskInRun d = true →
    let k := s.desk d
    let k1 : Desk := { k with fault := .none, cursor := none, latch := false, state := .fetching }
    (k.state = .halted → exec (.deskRestart d) s = .next (s.withDesk d
        { k1 with look := .link, entryWrites := k.entryWrites ++ [⟨deskEntryAddr s.runBase d, k1.entryBytes, false⟩] }))
    ∧ (k.state ≠ .halted → exec (.deskRestart d) s = .next s)

/-- RELEASE_LOCKS (R127, R161, R163): in every controller state and for every desk, the desk leaves every lock, and a lock
left without holders goes. A RELEASE order (R163) with no CHECKOUT waiting: scope 0 takes its desk out of the first lock
that matches exactly, or ends NOT_HELD; scope 1 takes it out of every lock. -/
def Obligations.Releases : Prop :=
  (∀ (d : DeskNo) (s : State), ∃ t, exec (.releaseLocks d) s = .next t
      ∧ (s.ctl ≠ .shedding → t.desks = s.desks)
      ∧ ((∀ w ∈ s.waiters, w.desk ≠ d) → ∀ l ∈ t.locks, d ∉ l.holders)
      ∧ (s.still → s.waiters = [] → t = { s with
          locks := s.locks.filterMap fun l =>
            if d ∈ l.holders then
              if l.holders.filter (· ≠ d) = [] then none else some { l with holders := l.holders.filter (· ≠ d) }
            else some l }))
  ∧ ∀ (s : State) (e : EntryNo) (o : Order), s.order? e = some o → o.stage ≠ .finish → o.fields.kind? = some .release →
      s.waiters = [] →
      let t := (Ctx.of s).release e o
      let ends (code : Code) : Prop := ∃ o', t.order? e = some o' ∧ o'.stage = .finish ∧ o'.result = some ⟨code, 0, s.g⟩
      let matching (l : Lock) : Prop :=
        l.drive = o.fields.drive ∧ l.first = o.fields.block ∧ l.count = o.fields.count ∧ o.desk ∈ l.holders
      (o.fields.scope = 1 → ends .ok ∧ ∀ l ∈ t.locks, o.desk ∉ l.holders)
      ∧ (o.fields.scope = 0 → (∀ l ∈ s.locks, ¬ matching l) → ends .notHeld ∧ t.locks = s.locks)
      ∧ (∀ xs l ys, o.fields.scope = 0 → s.locks = xs ++ l :: ys → (∀ x ∈ xs, ¬ matching x) → matching l →
          ends .ok ∧ t.locks = xs ++ (if l.holders.filter (· ≠ o.desk) = [] then []
            else [{ l with holders := l.holders.filter (· ≠ o.desk) }]) ++ ys)

/-- The decision on a CHECKOUT that has passed its common checks (R158, R159, R160), in a Lock Table within its bounds:
the claim of its own desk, the grant by joining or by a new lock, the refusals, and the wait. -/
def Obligations.CheckoutDecision : Prop :=
  ∀ (s : State) (e : EntryNo) (o : Order), s.order? e = some o → o.stage ≠ .finish → o.fields.kind? = some .checkout →
    let w := o.claim e
    let t := (Ctx.of s).decideCheckout e o
    let ends (code : Code) (detail : Nat) : Prop :=
      ∃ o', t.order? e = some o' ∧ o'.stage = .finish ∧ o'.result = some ⟨code, detail, s.g⟩
    let mine (l : Lock) : Prop := o.desk ∈ l.holders ∧ l.extent.overlaps w.extent = true
    let against (l : Lock) : Prop :=
      o.desk ∉ l.holders ∧ l.extent.overlaps w.extent = true ∧ (l.mode = .edit ∨ w.mode = .edit)
    let writing (x : Order) : Prop :=
      x ∈ s.writingInFlight ∧ x.desk ≠ o.desk ∧ ∃ a, x.extent = some a ∧ a.overlaps w.extent = true
    let free : Prop :=
      (∀ l ∈ s.locks, ¬ against l)
      ∧ (∀ x, ¬ writing x)
      ∧ (∀ x ∈ s.waiters, x.extent.overlaps w.extent = false)
    let join (l : Lock) : Prop :=
      w.mode = .share ∧ l.mode = .share ∧ l.drive = w.drive ∧ l.first = w.first ∧ l.count = w.count
    (∀ xs l ys, s.locks = xs ++ l :: ys → (∀ x ∈ xs, ¬ mine x) → mine l →
      ends .alreadyHeld l.first ∧ t.locks = s.locks)
    ∧ ((∀ l ∈ s.locks, ¬ mine l) → free →
        (∀ xs l ys, s.locks = xs ++ l :: ys → (∀ x ∈ xs, ¬ join x) → join l →
          ends .ok 0 ∧ t.locks = xs ++ { l with holders := l.holders ++ [o.desk] } :: ys)
        ∧ ((∀ l ∈ s.locks, ¬ join l) → s.locks.length < 24 →
          ends .ok 0 ∧ t.locks = s.locks ++ [⟨o.fields.drive, o.fields.block, o.fields.count, w.mode, [o.desk]⟩])
        ∧ ((∀ l ∈ s.locks, ¬ join l) → 24 ≤ s.locks.length → ends .tableFull 0 ∧ t.locks = s.locks))
    ∧ ((∀ l ∈ s.locks, ¬ mine l) → ¬ free →
        t.locks = s.locks
        ∧ (o.fields.waits = false → ∃ n, ends .busy n
          ∧ (∀ xs l ys, s.locks = xs ++ l :: ys → (∀ x ∈ xs, ¬ against x) → against l → n = l.first)
          ∧ ((∀ l ∈ s.locks, ¬ against l) → ∀ x a, writing x → x.extent = some a →
              (∀ y, writing y → y ≠ x → x.seq < y.seq) → n = a.firstBlock)
          ∧ ((∀ l ∈ s.locks, ¬ against l) → (∀ x, ¬ writing x) →
              ∀ xs x ys, s.waiters = xs ++ x :: ys → (∀ y ∈ xs, y.extent.overlaps w.extent = false) →
                x.extent.overlaps w.extent = true → n = x.first))
        ∧ (o.fields.waits = true → s.waiters.length < 16 →
            t.waiters = s.waiters ++ [w] ∧ ∃ o', t.order? e = some o' ∧ o'.stage = .lock)
        ∧ (o.fields.waits = true → 16 ≤ s.waiters.length → ends .tableFull 0))

/-! ### Drives and their timers -/

/-- MEDIA_LOAD (R1, R4, R15, R25): a rise of READY is a media load on a drive in EMPTY and a level alone elsewhere. The change
goes into the drive record (R113, R114). -/
def Obligations.MediaLoad : Prop :=
  ∀ (v : DriveNo) (wp ts : Bool) (s : State),
    let d := s.drive v
    (d.lines.ready = true → exec (.mediaLoad v wp ts) s = .next s)
    ∧ (d.lines.ready = false → d.state ≠ .empty →
        exec (.mediaLoad v wp ts) s = .next (s.withDrive v { d with lines := { d.lines with ready := true } }))
    ∧ (d.lines.ready = false → d.state = .empty → ∃ t, exec (.mediaLoad v wp ts) s = .next t
        ∧ (t.drive v).lines.ready = true ∧ (t.drive v).generation = d.generation + 1
        ∧ (t.drive v).profileReads = d.profileReads ++ [.load]
        ∧ (t.drive v).writeProtect = wp ∧ (t.drive v).headCount = (if ts then 2 else 1)
        ∧ (t.drive v).layoutKnown = false ∧ (t.drive v).heads = .unloaded ∧ (t.drive v).loadStamp = some s.g
        ∧ (t.drive v).timer = { phi := 0, prev := none, acc := 0, rej := 0, p16 := none
                                noIndex := some (s.g + 400000), active := d.timer.active, staged := none }
        ∧ (let recorded (st : DriveState) (cause : Cause) : Prop := s.recordsChange t v
             { d with
               state := st, cause := cause, generation := d.generation + 1, writeProtect := wp
               headCount := if ts then 2 else 1, layoutKnown := false, timer := (t.drive v).timer }
             (s.strandedCount v) false
           (d.lines.driveFault = false → (t.drive v).state = .spinup ∧ (t.drive v).cause = .none
              ∧ recorded .spinup .none ∧ ∀ w, w ≠ v → (t.drive w).view = (s.drive w).view)
           ∧ (d.lines.driveFault = true → (t.drive v).state = .fault ∧ (t.drive v).cause = .drive
              ∧ (t.drive v).faultStamp = some s.g ∧ (t.drive v).expiry = .armed ∧ recorded .fault .drive)))

/-- MEDIA_CHANGE (R7, R25, R89, R105, R149, R164, R169, R173): READY falls on a drive that is not ABSENT. The locks are stated
where no CHECKOUT waits, the orders where no waiting CHECKOUT names their entry. Log 8 gives the order of the receivers. That
the fault stamp and INCOMPLETE are given up is log 39 and log 19, that an order in SETTLE gives the first block of its last
track's part is log 24, and that a FORMAT still reading its layout ends too is log 21. The change goes into the drive record
(R113, R114), with P 0 and the stranded count 0 (log 43). -/
def Obligations.MediaChange : Prop :=
  ∀ (v : DriveNo) (s : State),
    let d := s.drive v
    (d.lines.ready = false → exec (.mediaChange v) s = .next s)
    ∧ (d.lines.ready = true → d.state = .absent →
        exec (.mediaChange v) s = .next (s.withDrive v { d with lines := { d.lines with ready := false } }))
    ∧ (d.lines.ready = true → d.state ≠ .absent → ∃ t, exec (.mediaChange v) s = .next t
        ∧ (t.drive v).lines.ready = false ∧ (t.drive v).state = .empty ∧ (t.drive v).cause = .none
        ∧ (t.drive v).layoutKnown = false ∧ (t.drive v).incomplete = false ∧ (t.drive v).heads = .unloaded
        ∧ (t.drive v).arm = .free ∧ (t.drive v).faultStamp = none ∧ (t.drive v).expiry = .none
        ∧ (t.drive v).generation = d.generation ∧ (t.drive v).headCount = d.headCount
        ∧ (t.drive v).writeProtect = d.writeProtect ∧ (t.drive v).cylinder = d.cylinder
        ∧ (t.drive v).timer = { phi := 0, prev := none, acc := 0, rej := 0, p16 := none, noIndex := none
                                active := d.timer.active, staged := none }
        ∧ (t.drive v).sched.job = none ∧ (t.drive v).sched.target = none ∧ (t.drive v).sched.state = .quiet
        ∧ (d.state ≠ .empty → s.recordsChange t v
            { d with state := .empty, cause := .none, layoutKnown := false, timer := (t.drive v).timer } 0 false)
        ∧ (∀ r, (t.chan (portOf v)).work = some r → r.drive ≠ v)
        ∧ (t.chan (portOf v)).owed v = false
        ∧ (∀ f, (t.frame f).held = true → (t.frame f).key.drive ≠ v)
        ∧ (s.waiters = [] → t.locks = s.locks.filter (fun l => l.drive ≠ v.val))
        ∧ (∀ w ∈ s.waiters, w.drive = v.val → (∃ o, s.order? w.order = some o ∧ o.stage ≠ .finish) →
            (∃ o, t.order? w.order = some o ∧ o.stage = .finish ∧ o.result = some ⟨.mediaChanged, 0, s.g⟩)
            ∧ ∀ w' ∈ t.waiters, w'.order ≠ w.order)
        ∧ (∀ e o, s.order? e = some o → o.stage ≠ .finish → (∀ w ∈ s.waiters, w.order ≠ e) →
            let kind (k : Kind) : Prop := o.fields.kind? = some k
            let ends (detail : Nat) : Prop :=
              ∃ o', t.order? e = some o' ∧ o'.stage = .finish ∧ o'.result = some ⟨.mediaChanged, detail, s.g⟩
            (kind .read ∨ kind .write ∨ kind .exchange → o.fields.drive = v.val → ends o.partBlock)
            ∧ (kind .flush → o.fields.scope ≠ 1 → o.fields.drive = v.val → ends 0)
            ∧ (kind .flush → o.fields.scope = 1 → (∃ y ∈ o.targets, y.drive = v ∧ y.state = .awaited) → ends 0)
            ∧ (kind .format → o.fields.drive = v.val → ends 0)))

/-- DRIVE_FAULT_RISE (R8, R61, R73, R76, R105, R169, R173): where the line counts the drive enters FAULT with cause DRIVE, or
its cause becomes DRIVE; elsewhere the level alone is held. The FORMATs that work on the drive end NOT_READY, and a write of its
sector ends FAULTED, a failed attempt of a sector in WRITING and no attempt of one in another state. That INCOMPLETE held since
an earlier fault is kept is log 19, and that a recalibration which waits for a seek counts as stopped is log 67. The change
goes into the drive record (R113, R114). -/
def Obligations.DriveFaultRise : Prop :=
  ∀ (v : DriveNo) (s : State),
    let d := s.drive v
    (d.lines.driveFault = true → exec (.driveFaultRise v) s = .next s)
    ∧ (d.lines.driveFault = false → d.state = .absent ∨ d.state = .empty ∨ (d.state = .fault ∧ d.cause ≠ .speed) →
        exec (.driveFaultRise v) s = .next (s.withDrive v { d with lines := { d.lines with driveFault := true } }))
    ∧ (d.lines.driveFault = false → d.state = .fault → d.cause = .speed → ∃ t, exec (.driveFaultRise v) s = .next t
        ∧ (t.drive v).view = { d.view with cause := .drive } ∧ (t.drive v).lines.driveFault = true
        ∧ s.recordsChange t v { d with cause := .drive } (s.strandedCount v) false)
    ∧ (d.lines.driveFault = false → d.state ≠ .absent → d.state ≠ .empty → d.state ≠ .fault →
        ∃ t, exec (.driveFaultRise v) s = .next t
        ∧ (t.drive v).state = .fault ∧ (t.drive v).cause = .drive ∧ (t.drive v).lines.driveFault = true
        ∧ (t.drive v).heads = .unloaded ∧ (t.drive v).arm = .free ∧ (t.drive v).faultStamp = some s.g
        ∧ (t.drive v).expiry = .armed ∧ (t.drive v).recalStopped = (d.arm.recalibrating || (d.state == .recal && d.arm.seeking))
        ∧ s.formatsFail t v ∧ s.writeFaulted t v
        ∧ (t.drive v).layoutKnown = (d.layoutKnown && d.state != .formatting)
        ∧ (t.drive v).incomplete = (d.incomplete || d.state == .formatting)
        ∧ (t.drive v).timer = d.timer ∧ (t.drive v).cylinder = d.cylinder
        ∧ (t.drive v).sched.job = none ∧ (t.drive v).sched.target = none ∧ (t.drive v).sched.state = .quiet
        ∧ s.recordsChange t v
            { d with state := .fault, cause := .drive, layoutKnown := d.layoutKnown && d.state != .formatting }
            (s.strandedCount v) false
        ∧ (∀ r, (t.chan (portOf v)).work = some r → r.drive ≠ v))

/-- DRIVE_FAULT_FALL (R6, R9, R10, R13, R14): a drive in FAULT with cause DRIVE recalibrates, by one pulse outward where
TRACK ZERO is low, at once where it is high; elsewhere the level alone is held. Where a seek still runs it runs on, and that
the recalibration waits for its settle is log 67; that no fault stamp is held outside FAULT is log 39; the level of TRACK
ZERO since the last pulse is a free value, log 25. The entry to RECAL goes into the drive record (R113, R114). -/
def Obligations.DriveFaultFall : Prop :=
  ∀ (v : DriveNo) (s : State),
    let d := s.drive v
    let zero : Bool := match d.lines.trackZero with
      | some level => level
      | none => Config.trackZero v d.lines.steps
    (d.lines.driveFault = false → exec (.driveFaultFall v) s = .next s)
    ∧ (d.lines.driveFault = true → d.state ≠ .fault ∨ d.cause ≠ .drive →
        exec (.driveFaultFall v) s = .next (s.withDrive v { d with lines := { d.lines with driveFault := false } }))
    ∧ (d.lines.driveFault = true → d.state = .fault → d.cause = .drive → ∃ t, exec (.driveFaultFall v) s = .next t
        ∧ (t.drive v).lines.driveFault = false ∧ (t.drive v).expiry = .none ∧ (t.drive v).faultStamp = none
        ∧ s.recordsChange t v { d with state := .recal, cause := if d.incomplete then .incomplete else .none }
            (s.strandedCount v) false
        ∧ (d.arm.seeking = true ∨ zero = false →
            (t.drive v).state = .recal ∧ (t.drive v).cause = (if d.incomplete then .incomplete else .none))
        ∧ (d.arm.seeking = true → (t.drive v).arm = d.arm ∧ (t.drive v).cylinder = d.cylinder
            ∧ (t.drive v).lines = { d.lines with driveFault := false })
        ∧ (d.arm.seeking = false → zero = false →
            (t.drive v).arm = .recal 1 (s.g + BitVec.ofNat 32 (1000 * d.profileOrZero.stepMs)) none
            ∧ (t.drive v).lines.steps = d.lines.steps + 1 ∧ (t.drive v).lines.inward = false)
        ∧ (d.arm.seeking = false → zero = true →
            (d.layoutKnown = true → (t.drive v).state = .ready ∧ (t.drive v).cause = .none)
            ∧ (d.layoutKnown = false → d.incomplete = true →
                (t.drive v).state = .blank ∧ (t.drive v).cause = .incomplete)
            ∧ (d.layoutKnown = false → d.incomplete = false →
                (t.drive v).state = .discovery ∧ (t.drive v).cause = .none ∧ (t.drive v).revolution = 1)))

/-- INDEX_PULSE at the timer (R25 to R30, R37): the phase count, the verdict, the runs, the estimate, the staged layout
and the SPEED_REJECT counter. A layout that discovery concludes at the same pulse is no staged layout, so the active
layout is stated where the channel does not listen. -/
def Obligations.IndexPulseAtTheTimer : Prop :=
  ∀ (v : DriveNo) (s : State),
    let d := s.drive v
    let old := d.timer
    (d.state = .absent ∨ d.state = .empty → exec (.indexPulse v) s = .next s)
    ∧ (d.state ≠ .absent → d.state ≠ .empty → ∃ t, exec (.indexPulse v) s = .next t ∧
        let new := (t.drive v).timer
        new.phi = 0 ∧ new.prev = some s.g ∧ new.noIndex = some (s.g + 400000)
        ∧ (old.prev = none → new.acc = old.acc ∧ new.rej = old.rej ∧ new.p16 = old.p16 ∧ new.staged = old.staged
            ∧ (t.drive v).health.counters[6] = d.health.counters[6])
        ∧ (∀ p, old.prev = some p →
            let period := (s.g - p).toNat
            (161667 ≤ period → period ≤ 171667 →
              new.acc = min 4 (old.acc + 1) ∧ new.rej = 0 ∧ new.staged = none
              ∧ (old.p16 = none → new.p16 = some (16 * period))
              ∧ (∀ e, old.p16 = some e → new.p16 = some ((e : Int) + (16 * (period : Int) - e) / 8).toNat)
              ∧ ((s.chan (portOf v)).state ≠ .listen →
                  new.active = match old.staged with | some l => some l | none => old.active)
              ∧ (t.drive v).health.counters[6] = d.health.counters[6])
            ∧ (period < 161667 ∨ 171667 < period →
              new.acc = 0 ∧ new.rej = (if d.state = .spinup then 0 else min 4 (old.rej + 1)) ∧ new.p16 = old.p16
              ∧ new.staged = old.staged ∧ ((s.chan (portOf v)).state ≠ .listen → new.active = old.active)
              ∧ (t.drive v).health.counters[6] =
                  (if d.health.counters[6] = 0xFFFF then (0xFFFF : Half) else d.health.counters[6] + 1)
              ∧ (d.health.counters[6] = 0xFFFF → (t.drive v).health.overflow.getLsbD 6 = true))))

/-- INDEX_PULSE at Drive Control (R5, R8, R9, R13, R28): the second accepted period ends SPINUP, the fourth ends a fault with
cause SPEED, and the fourth rejected one makes such a fault, but in SPINUP. The first two are stated for a drive whose
channel is not at work on it and whose TRACK ZERO is low (a free value since the last pulse, log 25) or whose arm still runs a seek from before
the fault: the seek runs on, and that the recalibration waits for its settle is log 67. Each change goes into the drive
record, marked where the drive entered READY (R113, R114), stated where no staged layout becomes active at the same pulse. -/
def Obligations.SpeedReports : Prop :=
  ∀ (v : DriveNo) (p : Word) (s : State), (s.drive v).timer.prev = some p →
    let d := s.drive v
    let period := (s.g - p).toNat
    let zero : Bool := match d.lines.trackZero with
      | some level => level
      | none => Config.trackZero v d.lines.steps
    let recorded (t : State) (st : DriveState) (cause : Cause) (known ready : Bool) : Prop := d.timer.staged = none →
      s.recordsChange t v { d with
        state := st, cause := cause, layoutKnown := known, timer := { d.timer with p16 := (t.drive v).timer.p16 } }
        (s.strandedCount v) ready
    let recals (t : State) : Prop := (t.drive v).state = .recal
      ∧ (t.drive v).arm = (if d.arm.seeking = true then d.arm
          else .recal 1 (s.g + BitVec.ofNat 32 (1000 * d.profileOrZero.stepMs)) none)
      ∧ recorded t .recal (if d.incomplete then .incomplete else .none) d.layoutKnown false
    (161667 ≤ period → period ≤ 171667 → (∀ r, (s.chan (portOf v)).work = some r → r.drive ≠ v) →
      (d.timer.acc = 1 → d.state = .spinup → d.arm.seeking = true ∨ zero = false →
        ∃ t, exec (.indexPulse v) s = .next t ∧ recals t)
      ∧ (d.timer.acc ≠ 1 → d.state = .spinup → ∃ t, exec (.indexPulse v) s = .next t ∧ (t.drive v).state = .spinup)
      ∧ (d.timer.acc = 3 → d.state = .fault → d.cause = .speed → ∃ t, exec (.indexPulse v) s = .next t
          ∧ (t.drive v).expiry = .none
          ∧ (d.layoutKnown = true → d.recalStopped = false → (t.drive v).state = .ready ∧ (t.drive v).cause = .none
              ∧ recorded t .ready .none true true)
          ∧ (d.layoutKnown = false ∨ d.recalStopped = true → d.arm.seeking = true ∨ zero = false → recals t)))
    ∧ (period < 161667 ∨ 171667 < period →
      (d.state = .spinup → (∀ r, (s.chan (portOf v)).work = some r → r.drive ≠ v) →
        ∃ t, exec (.indexPulse v) s = .next t ∧ (t.drive v).state = .spinup)
      ∧ (d.timer.rej = 3 → d.state = .recal ∨ d.state = .discovery ∨ d.state = .ready ∨ d.state = .blank
            ∨ d.state = .formatting →
          ∃ t, exec (.indexPulse v) s = .next t ∧ (t.drive v).state = .fault ∧ (t.drive v).cause = .speed
            ∧ (t.drive v).faultStamp = some s.g ∧ (t.drive v).expiry = .armed ∧ (t.drive v).heads = .unloaded
            ∧ recorded t .fault .speed (d.layoutKnown && d.state != .formatting) false))

/-- The estimate of R30 stays in its range and, at a steady period, the working period of R31 becomes that period and
stays it. -/
def Obligations.EstimateConverges : Prop :=
  ∀ e p : Nat, 16 * 161667 ≤ e → e ≤ 16 * 171667 → 161667 ≤ p → p ≤ 171667 →
    (∀ n, let x := (fun x => estimate (some x) p)^[n] e
      16 * 161667 ≤ x ∧ x ≤ 16 * 171667)
    ∧ ∃ n, ∀ m, n ≤ m → workingPeriod (some ((fun x => estimate (some x) p)^[m] e)) = some p

/-- NO_INDEX_TIMEOUT and SPINUP_LIMIT (R5, R29): before their time they change nothing; at their time the drive enters
FAULT with cause SPEED where a speed loss counts, and the change goes into the drive record (R113, R114). A seek runs on, a
recalibration is stopped (R8, R13), the FORMATs that work on the drive end NOT_READY (R169, R173), and a write of its sector
ends FAULTED (R61, R73, R76). That a recalibration which waits for a seek counts as stopped is log 67. -/
def Obligations.SpeedTimeouts : Prop :=
  ∀ (v : DriveNo) (s : State),
    let d := s.drive v
    let faults (t : State) : Prop := (t.drive v).state = .fault ∧ (t.drive v).cause = .speed
      ∧ (t.drive v).heads = .unloaded ∧ (t.drive v).faultStamp = some s.g ∧ (t.drive v).expiry = .armed
      ∧ (t.drive v).arm = (if d.arm.recalibrating = true then .free else d.arm)
      ∧ (t.drive v).recalStopped = (d.arm.recalibrating || (d.state == .recal && d.arm.seeking))
      ∧ s.formatsFail t v ∧ s.writeFaulted t v
      ∧ s.recordsChange t v
          { d with state := .fault, cause := .speed, layoutKnown := d.layoutKnown && d.state != .formatting }
          (s.strandedCount v) false
    ((∀ x, d.timer.noIndex = some x → reached s.g x = false) → exec (.noIndexTimeout v) s = .next s)
    ∧ (∀ x, d.timer.noIndex = some x → reached s.g x = true → ∃ t, exec (.noIndexTimeout v) s = .next t
        ∧ (t.drive v).timer = { d.timer with acc := 0, noIndex := none }
        ∧ (d.state ≠ .absent → d.state ≠ .empty → d.state ≠ .fault → faults t)
        ∧ (d.state = .absent ∨ d.state = .empty ∨ d.state = .fault →
            (t.drive v).view = { d.view with timer := { d.timer with acc := 0, noIndex := none } }))
    ∧ (d.state ≠ .spinup ∨ (∀ x, d.loadStamp = some x → reached s.g (x + 5000000) = false) →
        exec (.spinupLimit v) s = .next s)
    ∧ (∀ x, d.state = .spinup → d.loadStamp = some x → reached s.g (x + 5000000) = true →
        ∃ t, exec (.spinupLimit v) s = .next t ∧ faults t ∧ (t.drive v).timer = d.timer)

/-- FAULT_EXPIRY (R10, R87, R151): before its time nothing; at it the expiry arrives, the drive's DIRTY sectors become
STRANDED and its WANTED ones ABSENT, and its orders in FRAME, FETCH and FILL end NOT_READY and leave the Frame Wait Queue. The sectors are
stated where no order can go on and none waits for a frame, the orders where no waiting CHECKOUT names their entry. -/
def Obligations.FaultExpiry : Prop :=
  ∀ (v : DriveNo) (s : State),
    let d := s.drive v
    (d.state ≠ .fault ∨ d.expiry ≠ .armed ∨ (∀ x, d.faultStamp = some x → reached s.g (x + 2000000) = false) →
      exec (.faultExpiry v) s = .next s)
    ∧ (∀ x, d.state = .fault → d.expiry = .armed → d.faultStamp = some x → reached s.g (x + 2000000) = true →
      ∃ t, exec (.faultExpiry v) s = .next t
        ∧ (t.drive v).view = { d.view with expiry := .arrived }
        ∧ (s.readyOrder? = none → s.fwq = [] →
            (∀ f, (s.frame f).held = true → (s.frame f).key.drive = v →
              (t.frame f).sectors = (s.frame f).sectors.map fun x =>
                match x.state with
                | .dirty => { x with state := .stranded, rush := false, cause := .fault }
                | .wanted => { x with state := .absent, rush := false }
                | _ => x)
            ∧ (∀ f, (s.frame f).key.drive ≠ v → (t.frame f).sectors = (s.frame f).sectors))
        ∧ (∀ e o, s.order? e = some o → o.fields.drive = v.val →
            o.stage = .frame ∨ o.stage = .fetch ∨ o.stage = .fill → (∀ w ∈ s.waiters, w.order ≠ e) →
            (∃ o', t.order? e = some o' ∧ o'.stage = .finish ∧ o'.result = some ⟨.notReady, o.partBlock, s.g⟩)
            ∧ ∀ w ∈ t.fwq, w.order ≠ e))

/-- HEADER_READ_DONE (R111, R182): the checks in their order, the failures, and the profile reads that follow a good
header. That the command is always taken as the end of the present start's own read is log 70. -/
def Obligations.HeaderReadDone : Prop :=
  ∀ s : State,
    (s.ctl ≠ .starting ∨ s.start ≠ .readingHeader → ∀ r, exec (.headerReadDone r) s = .next s)
    ∧ (s.ctl = .starting → s.start = .readingHeader →
      let fails (r : DmaRead) (code : StartCode) : Prop := ∃ t, exec (.headerReadDone r) s = .next t ∧ t.view =
        { s.view with
          ctl := .failed, startCode := code, start := .idle, snapTimer := none, notice := s.notice ||| (1 : Word) <<< 24 }
      fails .busError .headerBusError
      ∧ ∀ b : List Byte, b.length = 64 →
        let mark := fieldAt b 0 2
        let count := fieldAt b 2 1
        let overdue := fieldAt b 3 1
        (mark ≠ 0x4E42 → fails (.data b) .badMark)
        ∧ (mark = 0x4E42 → count = 0 ∨ 16 < count → fails (.data b) .badDeskCount)
        ∧ (mark = 0x4E42 → 1 ≤ count → count ≤ 16 → overdue = 0 ∨ 50 < overdue → fails (.data b) .badOverdue)
        ∧ (s.still → mark = 0x4E42 → 1 ≤ count → count ≤ 16 → 1 ≤ overdue → overdue ≤ 50 →
            exec (.headerReadDone (.data b)) s = .next { s with
              start := .probing ⟨count, overdue, fieldAt b 4 1, byteAt b 5⟩
              drives := s.drives.map fun d => { d with profileReads := d.profileReads ++ [.start] } }))

/-- PROFILE_READ_DONE (R2, R3): the values held, clamped to their ranges, or kept at a bus error; a load's read does no
more; at a start an enabled ABSENT drive is to be probed and a disabled one becomes ABSENT; at a probe the first pulse is
given by the level of TRACK ZERO. That a probe reads its profile again after the start's own read is log 23, that a probe
of an abandoned start which still runs is left to run on is log 41, and that the profile reads of one drive end in the order
they began is log 70. -/
def Obligations.ProfileReadDone : Prop :=
  ∀ (v : DriveNo) (r : DmaRead) (tz : Bool) (s : State) (rest : List ReadPurpose),
    (∀ b, r = .data b → b.length = 5) →
    let d := s.drive v
    let held : Option Profile := match r with
      | .busError => d.profile
      | .data b => some
        { stepMs := max 2 (min 8 (fieldAt b 1 1)), settleMs := max 5 (min 50 (fieldAt b 2 1))
          headLoadMs := max 10 (min 80 (fieldAt b 3 1)), headIdleRevs := fieldAt b 4 1, enabled := byteAt b 0 != 0 }
    let starting : Prop := s.ctl = .starting ∧ ∃ h, s.start = .probing h
    let enabled : Prop := ∃ p, held = some p ∧ p.enabled = true
    (d.profileReads = [] → exec (.profileReadDone v r tz) s = .next s)
    ∧ (d.profileReads = .load :: rest → s.still → exec (.profileReadDone v r tz) s =
        .next (s.withDrive v { d with profileReads := rest, profile := held }))
    ∧ (d.profileReads = .start :: rest → s.still → ¬ starting → exec (.profileReadDone v r tz) s =
        .next (s.withDrive v { d with profileReads := rest, profile := held }))
    ∧ (d.profileReads = .start :: rest → s.still → starting → enabled → d.state = .absent → d.arm = .free →
        .probe ∉ rest → exec (.profileReadDone v r tz) s =
          .next (s.withDrive v { d with profileReads := rest ++ [.probe], profile := held }))
    ∧ (d.profileReads = .start :: rest → s.still → starting → enabled → d.state = .absent →
        .probe ∈ rest ∨ (∃ phase n x, d.arm = .probe phase n x) ∨ (∃ x, d.arm = .probeSettle x) →
        exec (.profileReadDone v r tz) s = .next (s.withDrive v { d with profileReads := rest, profile := held }))
    ∧ (d.profileReads = .start :: rest → starting → (∃ b, r = .data b) → ¬ enabled →
        ∃ t, exec (.profileReadDone v r tz) s = .next t ∧ (t.drive v).state = .absent ∧ (t.drive v).cause = .none
          ∧ (t.drive v).profile = held)
    ∧ (d.profileReads = .probe :: rest → s.still → enabled → d.state = .absent → d.arm = .free →
        exec (.profileReadDone v r tz) s = .next (s.withDrive v { d with
          profileReads := rest, profile := held
          lines := { d.lines with inward := tz, steps := d.lines.steps + 1, trackZero := none }
          arm := .probe (if tz then .inward else .outward) 1
            (s.g + BitVec.ofNat 32 (1000 * (held.getD ⟨0, 0, 0, 0, false⟩).stepMs)) }))

/-- PROBE_STEP_DONE and PROBE_SETTLED (R3): the pulses inward and back, the pulses outward up to 80, the answer and the
failure; a settled probe records cylinder 0 and takes the drive to EMPTY or into a media load. What a start does then, and at a
profile read that begins no probe (R111, R113, R117, R179, R182): it waits for the other drives; with RUN 0 it ends in STOPPED,
with the warning it waits in STARTING, and otherwise it enters RUNNING, where the desks of the run are set up and every drive
record is written. That a desk outside the run is then HALTED is log 54, and that the done counts begin at 0 whatever an
earlier restart still has to write is log 12. -/
def Obligations.Probes : Prop :=
  ∀ (v : DriveNo) (tz wp ts : Bool) (r : DmaRead) (s : State),
    let d := s.drive v
    let d1 : Drive := { d with lines := { d.lines with trackZero := some tz } }
    let due := s.g + BitVec.ofNat 32 (1000 * d.profileOrZero.stepMs)
    let outward (phase : ProbePhase) (n : Nat) : State := s.withDrive v
      { d with
        lines := { d.lines with inward := false, steps := d.lines.steps + 1, trackZero := none }
        arm := .probe phase (n + 1) due }
    let answers : State := s.withDrive v
      { d1 with arm := .probeSettle (s.g + BitVec.ofNat 32 (1000 * d.profileOrZero.settleMs)) }
    let fails : State := s.withDrive v { d1 with arm := .free }
    let loads : State := s.withDrive v { d with
      arm := .free, cylinder := 0, state := .spinup, cause := .none, generation := d.generation + 1
      profileReads := d.profileReads ++ [.load], writeProtect := wp, headCount := if ts then 2 else 1
      layoutKnown := false, incomplete := false, heads := .unloaded, loadStamp := some s.g
      lines := { d.lines with ready := true, writeProtect := wp, twoSided := ts }
      timer := { phi := 0, prev := none, acc := 0, rej := 0, p16 := none, noIndex := some (s.g + 400000)
                 active := d.timer.active, staged := none } }
    let starts (i : Instr) (u : State) : Prop := ∀ h, s.ctl = .starting → s.start = .probing h →
      ∃ t, exec i s = .next t
        ∧ ((∃ w, (u.drive w).probing = true) ∨ (s.run = true ∧ s.warning = true) → t.view = u.view)
        ∧ ((∀ w, (u.drive w).probing = false) → s.run = false →
            t.view = { u.view with ctl := .stopped, snapTimer := none, start := .idle })
        ∧ ((∀ w, (u.drive w).probing = false) → s.run = true → s.warning = false →
            t.ctl = .running ∧ t.header = some h ∧ t.start = .idle
            ∧ t.snapTimer = (if h.snapshotInterval = 0 then none
                else some (s.g + BitVec.ofNat 32 (h.snapshotInterval * 1000000)))
            ∧ (∀ k : DeskNo, h.deskCount ≤ k.val → t.desk k = { s.desk k with state := .halted })
            ∧ (∀ k : DeskNo, k.val < h.deskCount →
                (t.desk k).entryWrites =
                  (s.desk k).entryWrites ++ [⟨deskEntryAddr s.runBase k, (t.desk k).entryBytes, false⟩]
                ∧ ({ t.desk k with entryWrites := [] } : Desk) =
                  { state := .fetching, fault := .none, cursor := none, latch := false, taken := 0, done := 0
                    inFlight := 0, look := .link })
            ∧ t.orphans = s.orphans.map (fun x => { x with counts := false })
            ∧ (∀ w, (u.drive w).recordWrites ++ [⟨⟨driveRecordAddr s.runBase w,
                (u.drive w).recordBytes (u.strandedCount w)⟩, none⟩] <+: (t.drive w).recordWrites))
    (∀ phase n x, d.arm = .probe phase n x → reached s.g x = false → exec (.probeStepDone v tz) s = .next s)
    ∧ ((∀ phase n x, d.arm ≠ .probe phase n x) → exec (.probeStepDone v tz) s = .next s)
    ∧ (∀ phase n x, d.arm = .probe phase n x → reached s.g x = true → s.still →
        (phase = .inward → exec (.probeStepDone v tz) s = .next (outward (.back (!tz)) n))
        ∧ (phase = .back true → tz = true → exec (.probeStepDone v tz) s = .next answers)
        ∧ (phase = .outward → tz = true → exec (.probeStepDone v tz) s = .next answers)
        ∧ (phase = .outward → tz = false → n < 80 → exec (.probeStepDone v tz) s = .next (outward .outward n))
        ∧ (phase = .outward → tz = false → 80 ≤ n → s.ctl ≠ .starting → exec (.probeStepDone v tz) s = .next fails)
        ∧ (phase = .back false ∨ (phase = .back true ∧ tz = false) → s.ctl ≠ .starting →
            exec (.probeStepDone v tz) s = .next fails)
        ∧ (phase = .back false ∨ (phase = .back true ∧ tz = false) ∨ (phase = .outward ∧ tz = false ∧ 80 ≤ n) →
            starts (.probeStepDone v tz) fails))
    ∧ ((∀ x, d.arm = .probeSettle x → reached s.g x = false) → exec (.probeSettled v wp ts) s = .next s)
    ∧ (∀ x, d.arm = .probeSettle x → reached s.g x = true → ∃ t, exec (.probeSettled v wp ts) s = .next t
        ∧ (t.drive v).cylinder = 0 ∧ (t.drive v).arm = .free
        ∧ (d.lines.ready = false → (t.drive v).state = .empty ∧ (t.drive v).cause = .none
            ∧ (t.drive v).generation = d.generation)
        ∧ (d.lines.ready = true → (t.drive v).generation = d.generation + 1 ∧ (t.drive v).writeProtect = wp
            ∧ (t.drive v).headCount = (if ts then 2 else 1)
            ∧ (d.lines.driveFault = false → (t.drive v).state = .spinup)
            ∧ (d.lines.driveFault = true → (t.drive v).state = .fault ∧ (t.drive v).cause = .drive)))
    ∧ (∀ x, d.arm = .probeSettle x → reached s.g x = true → s.still →
        (d.lines.ready = false → starts (.probeSettled v wp ts)
          (s.withDrive v { d with arm := .free, cylinder := 0, state := .empty, cause := .none }))
        ∧ (d.lines.ready = true → d.lines.driveFault = false → starts (.probeSettled v wp ts) loads))
    ∧ (∀ purpose rest, d.profileReads = purpose :: rest → purpose ≠ .load → (∀ b, r = .data b → b.length = 5) →
        s.still →
        let held : Option Profile := match r with
          | .busError => d.profile
          | .data b => some
            { stepMs := max 2 (min 8 (fieldAt b 1 1)), settleMs := max 5 (min 50 (fieldAt b 2 1))
              headLoadMs := max 10 (min 80 (fieldAt b 3 1)), headIdleRevs := fieldAt b 4 1, enabled := byteAt b 0 != 0 }
        let d2 : Drive := { d with profileReads := rest, profile := held }
        let enabled : Prop := ∃ p, held = some p ∧ p.enabled = true
        (d.state ≠ .absent → enabled ∨ r = .busError ∨ purpose = .probe →
          starts (.profileReadDone v r tz) (s.withDrive v d2))
        ∧ (d.state = .absent → ¬ enabled → d.cause = .none ∨ r = .busError ∨ purpose = .probe →
            starts (.profileReadDone v r tz) (s.withDrive v d2))
        ∧ (d.state = .empty → purpose = .start → (∃ b, r = .data b) → ¬ enabled →
            starts (.profileReadDone v r tz)
              (s.withDrive v { d2 with arm := .free, state := .absent, cause := .none })))

/-- HEAD_LOAD_DONE, SEEK_STEP_DONE and ARM_SETTLED (R12, R13, R99, R100, R106): the load's end, the next pulse or the settle,
and the end of the settle; a scheduler that is MOVING then picks, unless a restart holds it, and only an arm pick sets a new
arm target. A running load ends by the load time held now (log 42). The seek back of a dropped RECAL job clears no mark
(log 45). In RECAL the settle of a seek from before the fault begins the recalibration (R6, R13, R14, log 67); the level of
TRACK ZERO since the last pulse is a free value, log 25. At an accepted index pulse idle heads are counted and unloaded
(R104; a count above a lowered head_idle_revs is log 65). -/
def Obligations.HeadsAndSeeks : Prop :=
  ∀ (v : DriveNo) (tz : Bool) (s : State),
    let d := s.drive v
    let zero : Bool := match d.lines.trackZero with
      | some level => level
      | none => Config.trackZero v d.lines.steps
    let loaded : Prop := ∃ x, d.heads = .loading x
      ∧ reached s.g (x + BitVec.ofNat 32 (1000 * d.profileOrZero.headLoadMs)) = true
    (loaded → exec (.headLoadDone v) s = .next (s.withDrive v { d with heads := .loaded }))
    ∧ (¬ loaded → exec (.headLoadDone v) s = .next s)
    ∧ ((∀ n x b, d.arm = .seek n x b → reached s.g x = false) → exec (.seekStepDone v tz) s = .next s)
    ∧ (∀ n x b, d.arm = .seek n x b → reached s.g x = true →
        exec (.seekStepDone v tz) s = .next (s.withDrive v (
          if n = 0 then { d with
            lines := { d.lines with trackZero := some tz }
            arm := .seekSettle (s.g + BitVec.ofNat 32 (1000 * d.profileOrZero.settleMs)) b }
          else { d with
            lines := { d.lines with trackZero := none, steps := d.lines.steps + 1 }
            arm := .seek (n - 1) (s.g + BitVec.ofNat 32 (1000 * d.profileOrZero.stepMs)) b })))
    ∧ ((∀ x b, d.arm = .seekSettle x b → reached s.g x = false) → exec (.armSettled v) s = .next s)
    ∧ (∀ x, d.arm = .seekSettle x false → reached s.g x = true → s.still → d.state ≠ .recal →
        (d.sched.state ≠ .moving → exec (.armSettled v) s = .next (s.withDrive v { d with arm := .free }))
        ∧ (d.sched.state = .moving → d.sched.hold = true ∨ s.served v = [] → exec (.armSettled v) s =
            .next (s.withDrive v { d with arm := .free, sched := { d.sched with state := .quiet } }))
        ∧ (∀ y cost overdue armPick, d.sched.state = .moving → d.sched.hold = false →
            s.pick v d.sched.target = .file y cost overdue armPick → ∃ t r, exec (.armSettled v) s = .next t
              ∧ ((t.chan (portOf v)).work = some r ∨ (t.chan (portOf v)).pend v = some r)
              ∧ r.drive = v ∧ r.kind = y.kind ∧ r.cylinder = y.place.cylinder ∧ r.head = y.place.head
              ∧ r.start = s.g + BitVec.ofNat 32 cost
              ∧ (t.drive v).sched.target = (if armPick then some y.place else d.sched.target)
              ∧ (t.drive v).sched.state ≠ .moving))
    ∧ (∀ x j, d.arm = .seekSettle x true → reached s.g x = true → d.sched.job = some j → j.kind = .recal →
        j.running = true → d.state ≠ .discovery → d.state ≠ .recal → ∃ t, exec (.armSettled v) s = .next t
        ∧ (t.drive v).sched.job = none ∧ (t.chan (portOf v)).owed v = false)
    ∧ (∀ x, d.arm = .seekSettle x true → reached s.g x = true → d.sched.job = none → s.still → d.state ≠ .recal →
        exec (.armSettled v) s = .next (s.withDrive v { d with arm := .free }))
    ∧ (∀ x b, d.arm = .seekSettle x b → reached s.g x = true → d.sched.job = none → s.still → d.state = .recal →
        (zero = false → exec (.armSettled v) s = .next (s.withDrive v { d with
          lines := { d.lines with trackZero := none, inward := false, steps := d.lines.steps + 1 }
          arm := .recal 1 (s.g + BitVec.ofNat 32 (1000 * d.profileOrZero.stepMs)) none }))
        ∧ (zero = true → ∃ t, exec (.armSettled v) s = .next t
          ∧ (d.layoutKnown = true → (t.drive v).state = .ready ∧ (t.drive v).cause = .none)
          ∧ (d.layoutKnown = false → d.incomplete = true →
              (t.drive v).state = .blank ∧ (t.drive v).cause = .incomplete)
          ∧ (d.layoutKnown = false → d.incomplete = false →
              (t.drive v).state = .discovery ∧ (t.drive v).cause = .none ∧ (t.drive v).revolution = 1)))
    ∧ (∀ p, d.timer.prev = some p → 161667 ≤ (s.g - p).toNat → (s.g - p).toNat ≤ 171667 → s.still →
        d.state = .recal ∨ d.state = .discovery ∨ d.state = .ready ∨ d.state = .blank ∨ d.state = .formatting →
        (∀ r, (s.chan (portOf v)).work = some r → r.drive ≠ v) →
        ∃ t, exec (.indexPulse v) s = .next t
          ∧ (d.sched.state ≠ .quiet ∨ d.heads = .unloaded ∨ d.arm ≠ .free → (t.drive v).sched.idle = 0)
          ∧ (d.sched.state = .quiet → d.heads ≠ .unloaded → d.arm = .free → s.served v = [] →
              let n := min 255 (d.sched.idle + 1)
              let limit := d.profileOrZero.headIdleRevs
              (limit ≠ 0 → limit ≤ n → (t.drive v).heads = .unloaded ∧ (t.drive v).sched.idle = 0)
              ∧ (limit = 0 ∨ n < limit → (t.drive v).heads = d.heads ∧ (t.drive v).sched.idle = n)))

/-- RECAL_STEP_DONE and RECAL_SETTLED (R6, R14, R52, R103): the pulses, the settle, the failure after 80 pulses; at the
settle a recalibration of bring-up records cylinder 0 and leaves RECAL by the drive's marks, and one of a RECAL job seeks
back. A pick of the same command may begin a seek from there. The entry to READY goes into the drive record, marked so (R113,
R114). -/
def Obligations.Recalibrations : Prop :=
  ∀ (v : DriveNo) (tz : Bool) (s : State),
    let d := s.drive v
    let counted (t : State) : Prop := (t.drive v).health.counters[7] =
      (if d.health.counters[7] = 0xFFFF then (0xFFFF : Half) else d.health.counters[7] + 1)
    ((∀ n x b, d.arm = .recal n x b → reached s.g x = false) → exec (.recalStepDone v tz) s = .next s)
    ∧ (∀ n x b, d.arm = .recal n x b → reached s.g x = true →
        (tz = true → s.still → exec (.recalStepDone v tz) s = .next (s.withDrive v { d with
          lines := { d.lines with trackZero := some true }
          arm := .recalSettle (s.g + BitVec.ofNat 32 (1000 * d.profileOrZero.settleMs)) b }))
        ∧ (tz = false → n < 80 → s.still → exec (.recalStepDone v tz) s = .next (s.withDrive v { d with
          lines := { d.lines with trackZero := none, inward := false, steps := d.lines.steps + 1 }
          arm := .recal (n + 1) (s.g + BitVec.ofNat 32 (1000 * d.profileOrZero.stepMs)) b }))
        ∧ (tz = false → 80 ≤ n → d.state ≠ .fault → ∃ t, exec (.recalStepDone v tz) s = .next t
            ∧ (t.drive v).state = .fault ∧ (t.drive v).cause = .seek ∧ (t.drive v).arm = .free ∧ counted t))
    ∧ ((∀ x b, d.arm = .recalSettle x b → reached s.g x = false) → exec (.recalSettled v) s = .next s)
    ∧ (∀ x, d.arm = .recalSettle x none → reached s.g x = true → d.state = .recal →
        ∃ t, exec (.recalSettled v) s = .next t
        ∧ (d.sched.job = none → counted t) ∧ (t.chan (portOf v)).owed v = false
        ∧ (s.still → ((t.drive v).arm = .free → (t.drive v).cylinder = 0)
          ∧ (d.sched.job = none → (∀ f, (s.frame f).held = true → (s.frame f).key.drive ≠ v) →
              (t.drive v).arm = .free ∧ (t.drive v).cylinder = 0))
        ∧ (d.layoutKnown = true → (t.drive v).state = .ready ∧ (t.drive v).cause = .none
            ∧ s.recordsChange t v { d with state := .ready, cause := .none, cylinder := 0 } (s.strandedCount v) true)
        ∧ (d.layoutKnown = false → d.incomplete = true → (t.drive v).state = .blank ∧ (t.drive v).cause = .incomplete)
        ∧ (d.layoutKnown = false → d.incomplete = false →
            (t.drive v).state = .discovery ∧ (t.drive v).cause = .none ∧ (t.drive v).revolution = 1))
    ∧ (∀ x b, d.arm = .recalSettle x (some b) → reached s.g x = true → b ≠ 0 → s.still →
        ∃ t, exec (.recalSettled v) s = .next t ∧ counted t
        ∧ { t.drive v with health := d.health } = { d with
            cylinder := b
            lines := { d.lines with inward := true, steps := d.lines.steps + 1, trackZero := none }
            arm := .seek (b - 1) (s.g + BitVec.ofNat 32 (1000 * d.profileOrZero.stepMs)) true })
    ∧ (∀ x j, d.arm = .recalSettle x (some 0) → reached s.g x = true → d.sched.job = some j → j.kind = .recal →
        j.running = true → d.state ≠ .discovery → ∃ t, exec (.recalSettled v) s = .next t ∧ counted t
        ∧ (t.drive v).sched.job = none ∧ (t.chan (portOf v)).owed v = false)

/-! ### Stamps, stalls and snapshots -/

/-- STAMP_BOUND (R24, R65, R96): every stamp held for comparison that is older than 2^30 microseconds is advanced to that
age, those of drives, of track jobs, of the sectors of HELD frames, their LRU stamps and those of the Frame Wait Queue, and
nothing else changes.
FWQ_STALL (R86): an entry whose age has reached the overdue limit reports STALL once; otherwise nothing.
SNAPSHOT_EXPIRY (R113, R177 to R179): at the timer's expiry every drive's counters are copied and cleared, its record
is written where records are written, NOTICE.SNAPSHOT is set, and the timer runs on from its expiry time. One event at a
counter (R175): below 65,535 it moves on by one and no flag changes; at 65,535 it stays and its own flag is set; the other
counters, the marks and the held snapshot stay. -/
def Obligations.StampsStallsAndCounters : Prop :=
  (∀ s : State,
      let bound (x : Word) : Word := if 1073741824 < (s.g - x).toNat then s.g - 1073741824 else x
      exec .stampBound s = .next { s with
        drives := s.drives.map fun d => { d with
          faultStamp := d.faultStamp.map bound
          loadStamp := d.loadStamp.map bound
          heads := match d.heads with
            | .loading x => .loading (bound x)
            | h => h
          sched := { d.sched with job := d.sched.job.map fun j => { j with stamp := bound j.stamp } } }
        frames := s.frames.map fun fr =>
          if fr.held = true then
            { fr with lru := bound fr.lru, sectors := fr.sectors.map fun x => { x with stamp := bound x.stamp } }
          else fr
        fwq := s.fwq.map fun w => { w with stamp := bound w.stamp } })
  ∧ (∀ (e : EntryNo) (s : State),
      let due : Prop := ∃ h, s.header = some h
        ∧ ∃ w ∈ s.fwq, w.order = e ∧ w.stalled = false ∧ h.overdue * 100000 ≤ (s.g - w.stamp).toNat
      (due → exec (.fwqStall e) s = .next { s with
        fwq := s.fwq.map fun w => if w.order = e then { w with stalled := true } else w
        notice := s.notice ||| (1 : Word) <<< 21 })
      ∧ (¬ due → exec (.fwqStall e) s = .next s))
  ∧ (∀ s : State,
      ((∀ x, s.snapTimer = some x → reached s.g x = false) → exec .snapshotExpiry s = .next s)
      ∧ (∀ x, s.snapTimer = some x → reached s.g x = true →
        let taken (v : DriveNo) : Health :=
          let d := s.drive v
          { counters := Vector.replicate 8 0, overflow := 0
            candMark := s.candidateCount v, framesMark := (s.framesOf v).length
            snapshot := some ⟨d.health.counters, d.health.overflow, d.health.candMark, d.health.framesMark, s.g⟩ }
        ∃ t, exec .snapshotExpiry s = .next t
          ∧ t.notice = s.notice ||| (1 : Word) <<< 22
          ∧ t.snapTimer = s.header.map (fun h => x + BitVec.ofNat 32 (h.snapshotInterval * 1000000))
          ∧ (∀ v, t.drive v = { s.drive v with
              health := taken v
              recordWrites := (s.drive v).recordWrites ++
                if s.ctl = .running ∨ s.ctl = .draining ∨ s.ctl = .shedding ∨ s.ctl = .safe then
                  [⟨⟨driveRecordAddr s.runBase v,
                    ({ s.drive v with health := taken v } : Drive).recordBytes (s.strandedCount v)⟩, none⟩]
                else [] })
          ∧ { t with notice := s.notice, snapTimer := s.snapTimer, drives := s.drives } = s))
  ∧ ∀ (h : Health) (k : Counter),
      let n := h.counters[k.index.val]
      (n ≠ 0xFFFF → (h.count k).counters[k.index.val] = n + 1 ∧ (h.count k).overflow = h.overflow)
      ∧ (n = 0xFFFF → (h.count k).counters = h.counters
          ∧ ∀ i, (h.count k).overflow.getLsbD i = (h.overflow.getLsbD i || i == k.index.val))
      ∧ (∀ i : Fin 8, i ≠ k.index → (h.count k).counters[i.val] = h.counters[i.val])
      ∧ (h.count k).candMark = h.candMark ∧ (h.count k).framesMark = h.framesMark ∧ (h.count k).snapshot = h.snapshot

/-! ### Chains, takes and the data of orders -/

/-- The desk fault of R123 at a link read, a block read and a TAKEN write: what it leaves of a FETCHING desk, with its entry
write, a bus error on which is dropped. That the command always ends the present look's own read is log 72. -/
def Obligations.ChainReadsThatFail : Prop :=
  ∀ (d : DeskNo) (s : State), s.ctl = .running → s.deskInRun d = true → (s.desk d).state = .fetching →
    let k := s.desk d
    let faulted (i : Instr) (code : DeskFault) : Prop := ∃ t, exec i s = .next t
      ∧ (t.desk d).state = (if 0 < k.inFlight then .halting else .halted) ∧ (t.desk d).fault = code
      ∧ (t.desk d).latch = false ∧ (t.desk d).look = .none ∧ (t.desk d).cursor = k.cursor
      ∧ (t.desk d).taken = k.taken ∧ (t.desk d).done = k.done ∧ (t.desk d).inFlight = k.inFlight
      ∧ (t.desk d).entryWrites = k.entryWrites ++ [⟨deskEntryAddr s.runBase d, (t.desk d).entryBytes, true⟩]
      ∧ d ∉ t.tableWait ∧ t.notice = s.notice ||| (1 : Word) <<< 20 ∧ t.mem = s.mem
    (k.look = .link → faulted (.linkReadDone d .busError) .busError)
    ∧ (∀ b : List Byte, k.look = .link → b.length = 4 →
        (leNat b = 0 ∧ k.cursor ≠ none) ∨ (leNat b ≠ 0 ∧ (leNat b % 16 ≠ 0 ∨ 16777216 ≤ leNat b)) →
        faulted (.linkReadDone d (.data b)) .badLink)
    ∧ (∀ a, k.look = .block a → faulted (.blockReadDone d .busError) .busError)
    ∧ (∀ a f, k.look = .taking a f → faulted (.take d (.busError 0)) .busError)

/-- LINK_READ_DONE and BLOCK_READ_DONE (R118, R119, R121, R122): the end of the chain, the block to be read, and a POSTED
block held by the first of the four holds that applies or set aside for the take (log 10). A desk without a reservation has
the lowest-numbered free entry set aside (log 49); one that holds a reservation takes its own entry, and gives it up at the
end of its chain and at the other holds, stated where no desk waits for an entry. That the command always ends the present
look's own read is log 72. -/
def Obligations.ChainLooks : Prop :=
  ∀ (d : DeskNo) (b : List Byte) (s : State), s.still → s.ctl = .running → s.deskInRun d = true →
    (s.desk d).state = .fetching → s.reservedFor? d = none ∨ s.tableWait = [] →
    let k := s.desk d
    let given (t : State) : State := { t with table := match s.reservedFor? d with
      | none => t.table
      | some e => t.table.set e.val .free }
    let atEnd (i : Instr) : Prop :=
      (k.latch = true → exec i s = .next (given (s.withDesk d { k with latch := false, look := .link })))
      ∧ (k.latch = false → exec i s = .next (given (s.withDesk d { k with
          state := .idle, look := .none
          entryWrites := k.entryWrites ++
            [⟨deskEntryAddr s.runBase d, ({ k with state := .idle, look := .none } : Desk).entryBytes, false⟩] })))
    let link := leNat b
    (k.look = .link → b.length = 4 → link = 0 → k.cursor = none → atEnd (.linkReadDone d (.data b)))
    ∧ (k.look = .link → b.length = 4 → link ≠ 0 → link % 16 = 0 → link < 16777216 →
        exec (.linkReadDone d (.data b)) s = .next (s.withDesk d { k with look := .block (BitVec.ofNat 32 link) }))
    ∧ (∀ a, k.look = .block a → b.length = 64 → byteAt b 4 ≠ 1 → atEnd (.blockReadDone d (.data b)))
    ∧ (∀ a, k.look = .block a → b.length = 64 → byteAt b 4 = 1 →
        let f := orderFieldsOf b
        let barred : Prop := f.options.getLsbD 2 = true ∧ 0 < k.inFlight
        let overlapped : Prop := ∃ e o x y, s.order? e = some o ∧ o.desk = d ∧ f.extent (s.knownGeometry f.drive) = some x
          ∧ o.extent = some y ∧ x.overlaps y = true ∧ (f.writes = true ∨ o.fields.writes = true)
        let goes (t : State) : Prop := exec (.blockReadDone d (.data b)) s = .next t
        (4 ≤ k.inFlight → goes (given (s.withDesk d { k with look := .held .window })))
        ∧ (k.inFlight < 4 → s.reservedFor? d = none → (∀ e, s.slot e ≠ .free) → goes { s.withDesk d { k with look := .held .table } with
            tableWait := if d ∈ s.tableWait then s.tableWait else s.tableWait ++ [d] })
        ∧ (∀ e, k.inFlight < 4 → s.reservedFor? d = some e
              ∨ (s.reservedFor? d = none ∧ s.slot e = .free ∧ ∀ e', s.slot e' = .free → e ≤ e') →
            (barred → goes (given (s.withDesk d { k with look := .held .barrier })))
            ∧ (¬ barred → overlapped → goes (given (s.withDesk d { k with look := .held .overlap })))
            ∧ (¬ barred → ¬ overlapped → goes { s.withDesk d { k with look := .taking a f } with
                table := s.table.set e.val (.reserved d) })))

/-- TAKE (R120, R129, R130): the TAKEN byte, the desk's cursor and counts, its entry, the order record, and the refusal of
an order by the first check that fails. A FLUSH that has passed its checks (R83, R146): the set it gathers with its stranded
sectors unstranded, its end where the set is empty, and its end once no entry is awaited. -/
def Obligations.TakeAndFlush : Prop :=
  (∀ (d : DeskNo) (a : Word) (f : OrderFields) (e : EntryNo) (s : State), s.ctl = .running →
      (s.desk d).state = .fetching → (s.desk d).look = .taking a f → s.reservedFor? d = some e →
      ∃ t, exec (.take d .ok) s = .next t
        ∧ storedAt s.mem t.mem (a.toNat + 4) [2]
        ∧ (t.desk d).cursor = some a ∧ (t.desk d).taken = (s.desk d).taken + 1
        ∧ (t.desk d).inFlight = (s.desk d).inFlight + 1 ∧ (t.desk d).look = .link ∧ (t.desk d).state = .fetching
        ∧ (t.desk d).latch = (s.desk d).latch ∧ (t.desk d).done = (s.desk d).done ∧ (t.desk d).fault = (s.desk d).fault
        ∧ (s.deskInRun d = true → (t.desk d).entryWrites =
            (s.desk d).entryWrites ++ [⟨deskEntryAddr s.runBase d, (t.desk d).entryBytes, false⟩])
        ∧ (∀ d', d' ≠ d → t.desk d' = s.desk d')
        ∧ ∃ o, t.order? e = some o ∧ o.addr = a ∧ o.desk = d ∧ o.fields = f ∧ o.takeStamp = s.g
          ∧ (∀ v : DriveNo, f.drive = v.val → o.generation =
              if f.scope = 1 ∧ (f.kind? = some .flush ∨ f.kind? = some .snapshot ∨ f.kind? = some .release) then 0
              else (s.drive v).generation)
          ∧ (∀ code detail, s.refusal f d = some (code, detail) →
              o.stage = .finish ∧ o.result = some ⟨code, detail, s.g⟩ ∧ o.highest = 0 ∧ o.bytes = 0 ∧ o.tracks = 0))
  ∧ (∀ (s : State) (e : EntryNo) (o : Order), s.order? e = some o → o.stage ≠ .finish → o.fields.kind? = some .flush →
      o.frame = none →
      let t := (Ctx.of s).flushOrder e o
      let named (f : FrameNo) : Prop := (s.frame f).held = true
        ∧ (o.fields.scope = 1 ∨ o.fields.drive = (s.frame f).key.drive.val)
      let joins (f : FrameNo) (x : Sector) : Prop := named f ∧ x ∈ (s.frame f).sectors
        ∧ (x.state = .dirty ∨ x.state = .writing ∨ x.state = .checkDue ∨ x.state = .checking ∨ x.state = .stranded)
      (∀ f, ¬ named f → t.frame f = s.frame f)
      ∧ (∀ f, named f → t.frame f = { s.frame f with sectors := (s.frame f).sectors.map fun x =>
          if x.state = .stranded then { x with state := .dirty, stamp := s.g, attempts := 0 } else x })
      ∧ ((∀ f x, ¬ joins f x) →
          ∃ o', t.order? e = some o' ∧ o'.stage = .finish ∧ o'.result = some ⟨.ok, 0, s.g⟩)
      ∧ (∀ f x, joins f x → ∃ o', t.order? e = some o' ∧ o'.stage = .settle
          ∧ (∃ y ∈ o'.targets, y.frame = f ∧ y.drive = (s.frame f).key.drive ∧ y.sector = x.number
              ∧ y.version = x.dataVer
              ∧ y.block = ((s.frame f).key.cylinder * (s.drive (s.frame f).key.drive).headCount + (s.frame f).key.head)
                  * (s.frame f).spt + (x.number - (s.frame f).first))
          ∧ ∀ y ∈ o'.targets, y.state = .awaited
              ∧ ∃ f' x', joins f' x' ∧ y.frame = f' ∧ y.sector = x'.number ∧ y.version = x'.dataVer))
  ∧ ∀ (s : State) (e : EntryNo) (o : Order), s.order? e = some o → o.stage = .settle → o.fields.kind? = some .flush →
      let t := (Ctx.of s).settleCheck e
      let ends (code : Code) (detail : Nat) : Prop :=
        ∃ o', t.order? e = some o' ∧ o'.stage = .finish ∧ o'.result = some ⟨code, detail, s.g⟩
      ((∃ y ∈ o.targets, y.state = .awaited) → t = Ctx.of s)
      ∧ ((∀ y ∈ o.targets, y.state = .durable) → ends .ok 0)
      ∧ (∀ z cause, (∀ y ∈ o.targets, y.state ≠ .awaited) → z ∈ o.targets → z.state = .stranded cause →
          (∀ y cause', y ∈ o.targets → y.state = .stranded cause' →
            z.drive < y.drive ∨ (z.drive = y.drive ∧ z.block ≤ y.block)) → ends .writeFault z.block)

/-- TAKE of an order that has passed its checks (R129, R130): its record, and the work of its kind. A CHECKOUT is decided
(R158), a RELEASE releases (R163), a FLUSH gathers its set (R146); a SNAPSHOT copies the counters of the drives it names
(R148); a DISCARD frees the frame of its track or is refused IN_USE (R88, R147, R150); a FORMAT reads its layout, or meets its
refusals, then asks its first discard and posts its track, or gathers its drain set (R167 to R170); a READ, WRITE or EXCHANGE
requests the frame of its first track, which is granted or waited for (R64, R84, R134 to R136). An order that has ended stays
ended to the end of the command. -/
def Obligations.TakenWork : Prop :=
  (∀ (c : Ctx) (e : EntryNo) (o : Order), c.order? e = some o → o.stage = .finish → (∀ w ∈ c.fwq, w.order ≠ e) →
      ∃ o', c.finish.order? e = some o' ∧ o'.stage = .finish ∧ o'.result = o.result)
  ∧ ∀ (d : DeskNo) (a : Word) (f : OrderFields) (e : EntryNo) (s : State), s.ctl = .running →
    (s.desk d).state = .fetching → (s.desk d).look = .taking a f → s.reservedFor? d = some e → s.refusal f d = none →
    (∀ w ∈ s.waiters, w.order ≠ e) → (∀ w ∈ s.fwq, w.order ≠ e) →
    let k0 := s.desk d
    let k1 : Desk := { k0 with cursor := some a, taken := k0.taken + 1, inFlight := k0.inFlight + 1, look := .link }
    let k2 : Desk := if s.deskInRun d = true then
        { k1 with entryWrites := k1.entryWrites ++ [⟨deskEntryAddr s.runBase d, k1.entryBytes, false⟩] } else k1
    let become (x : Order) : State := { s.withDesk d k2 with
      mem := s.mem.writeAll (a.toNat + 4) [2], table := s.table.set e.val (.order x) }
    let o := s.newOrder d a f
    let k (n : Nat) : Prop := f.kind.toNat = n
    let i : Instr := .take d .ok
    let goes (c : Ctx) : Prop := exec i s = .next c.finish
    let ends (t : State) (code : Code) : Prop := exec i s = .next t
      ∧ ∃ x, t.order? e = some x ∧ x.stage = .finish ∧ x.result = some ⟨code, 0, s.g⟩
    (o.addr = a ∧ o.desk = d ∧ o.fields = f ∧ o.takeStamp = s.g ∧ o.stage = .check ∧ o.track = none ∧ o.frame = none
      ∧ o.wait = [] ∧ o.targets = [] ∧ o.failure = none ∧ o.highest = 0 ∧ o.bytes = 0 ∧ o.tracks = 0 ∧ o.fillUsed = none
      ∧ o.result = none ∧ (∀ e' x, s.order? e' = some x → x.seq < o.seq)
      ∧ ∀ (v : DriveNo) l, f.drive = v.val → (s.drive v).layoutKnown = true → (s.drive v).timer.active = some l →
          o.geometry = ⟨l.spt, l.first, l.size, (s.drive v).headCount⟩)
    ∧ (k 6 → goes ((Ctx.of (become o)).decideCheckout e o))
    ∧ (k 7 → goes ((Ctx.of (become o)).release e o))
    ∧ (k 4 → goes ((Ctx.of (become o)).flushOrder e o))
    ∧ (k 9 → s.still →
        let taken (v : DriveNo) : Health :=
          { counters := Vector.replicate 8 0, overflow := 0
            candMark := s.candidateCount v, framesMark := (s.framesOf v).length
            snapshot := some ⟨(s.drive v).health.counters, (s.drive v).health.overflow, (s.drive v).health.candMark,
              (s.drive v).health.framesMark, s.g⟩ }
        ∃ t, ends t .ok ∧ t.notice = s.notice ∧ t.snapTimer = s.snapTimer
          ∧ ∀ v : DriveNo, t.drive v = if f.scope = 1 ∨ f.drive = v.val then
              { s.drive v with
                health := taken v
                recordWrites := (s.drive v).recordWrites ++ [⟨⟨driveRecordAddr s.runBase v,
                  ({ s.drive v with health := taken v } : Drive).recordBytes (s.strandedCount v)⟩, none⟩] }
            else s.drive v)
    ∧ (k 8 → f.scope = 2 ∨ f.scope = 3 → s.still → exec i s = .next (become { o with phase := .readLayout }))
    ∧ ∀ (v : DriveNo) (l : Layout), f.drive = v.val → (s.drive v).timer.active = some l →
      let hc := (s.drive v).headCount
      let key (n : Nat) : Key := ⟨v, n / hc, n % hc⟩
      let busy (g : FrameNo) : Prop := (s.frame g).uses ≠ 0
        ∨ ∃ x ∈ (s.frame g).sectors, x.state = .reading ∨ x.state = .writing ∨ x.state = .checking
      (k 5 → s.noneWaiting →
        (s.frameOf (key (f.block / l.spt)) = none → ∃ t, ends t .ok ∧ t.frames = s.frames)
        ∧ ∀ g, s.frameOf (key (f.block / l.spt)) = some g →
          (busy g → ∃ t, ends t .inUse ∧ t.frames = s.frames)
          ∧ (¬ busy g → ∃ t, ends t .ok ∧ t.frame g = { area := (s.frame g).area }
            ∧ (∀ f', f' ≠ g → (t.frame f').held = (s.frame f').held ∧ (t.frame f').key = (s.frame f').key
              ∧ (t.frame f').sectors = (s.frame f').sectors)
            ∧ ∀ e' x y, s.order? e' = some x → x.stage ≠ .finish → x.fields.kind? ≠ some .format →
                (∀ w ∈ s.waiters, w.order ≠ e') → y ∈ x.targets → y.frame = g → y.state = .awaited →
                (∀ z ∈ x.targets, z.frame = g → z.state = .awaited → y.block ≤ z.block) →
                ∃ x', t.order? e' = some x' ∧ x'.stage = .finish ∧ x'.result = some ⟨.discarded, y.block, s.g⟩))
      ∧ (k 8 → f.scope = 0 ∨ f.scope = 1 →
        let onDrive (e' : EntryNo) (x : Order) : Prop :=
          (∃ g, x.frame = some g ∧ (s.frame g).key.drive = v) ∨ (∃ w ∈ s.fwq, w.order = e' ∧ w.key.drive = v)
            ∨ (x.stage = .fill ∧ x.fields.drive = v.val)
            ∨ (x.stage = .settle ∧ ∃ y ∈ x.targets, y.drive = v ∧ y.state = .awaited)
        let barred : Prop := ∃ e' x, s.order? e' = some x
          ∧ ((x.fields.kind? = some .format ∧ x.passed = true ∧ x.fields.drive = v.val
              ∧ (f.scope = 1 ∨ (x.fields.scope ≠ 0 ∧ x.fields.scope ≠ 2) ∨ x.fields.block = f.block))
            ∨ (f.scope = 1 ∧ x.fields.kind? ≠ some .format ∧ onDrive e' x))
        let legal := l.legal (workingPeriod (s.drive v).timer.p16)
        (legal = false → ∃ t, ends t .badOrder)
        ∧ (legal = true → barred → ∃ t, ends t .inUse)
        ∧ (legal = true → ¬ barred → f.scope = 1 → s.still → ∃ ts,
            exec i s = .next (become
              { o with layout := some l, passed := true, stage := .settle, phase := .drain, targets := ts })
            ∧ ∀ y, y ∈ ts ↔ ∃ g x, (s.frame g).held = true ∧ (s.frame g).key.drive = v ∧ x ∈ (s.frame g).sectors
              ∧ (x.state = .dirty ∨ x.state = .writing ∨ x.state = .checkDue ∨ x.state = .checking)
              ∧ y = ⟨g, v, x.number, ((s.frame g).key.cylinder * hc + (s.frame g).key.head) * (s.frame g).spt
                  + (x.number - (s.frame g).first), x.dataVer, .awaited⟩)
        ∧ (legal = true → ¬ barred → f.scope = 0 → s.noneWaiting →
            let posts (t : State) : Prop :=
              ((s.drive v).sched.job = none →
                (∃ j, (t.drive v).sched.job = some j ∧ j.kind = .formatTrack ∧ j.cylinder = f.block / hc
                  ∧ j.head = f.block % hc ∧ j.requester = .format e ∧ j.rush = f.rush ∧ j.fill = f.mode)
                ∧ ∃ x, t.order? e = some x ∧ x.stage = .job ∧ x.phase = .posted ∧ x.track = some f.block
                  ∧ x.layout = some l ∧ x.passed = true)
              ∧ ∀ j, (s.drive v).sched.job = some j → (t.drive v).sched.job = some j
                ∧ (t.drive v).sched.busy = (s.drive v).sched.busy ++ [.format e]
                ∧ ∃ x, t.order? e = some x ∧ x.stage = .job ∧ x.phase = .busy ∧ x.track = some f.block
            (s.frameOf (key f.block) = none → ∃ t, exec i s = .next t ∧ posts t)
            ∧ ∀ g, s.frameOf (key f.block) = some g →
              (¬ busy g → ∃ t, exec i s = .next t ∧ posts t ∧ t.frame g = { area := (s.frame g).area })
              ∧ (busy g → exec i s = .next { become { o with
                    layout := some l, passed := true, stage := .job, phase := .discard1, track := some f.block } with
                  quiet := s.quiet ++ [⟨e, g, false⟩] })))
      ∧ (k 1 ∨ k 2 ∨ k 3 →
        let n := (f.block + (if f.kind = 3 then 0 else f.offset / l.size)) / l.spt
        let o1 : Order := { o with passed := true, stage := .frame, track := some n }
        goes ((Ctx.of (become o1)).requestFrame e)
        ∧ (s.still → s.frameOf (key n) = none →
            s.fwq ≠ [] ∨ ((∀ f', (s.frame f').held = true) ∧ s.victim? = none) →
            exec i s = .next { become o1 with fwq := s.fwq ++ [⟨e, key n, (s.drive v).generation, s.g, false⟩] })
        ∧ ∀ g fr, k 2 ∨ k 3 → s.noneWaiting → s.grants (key n) l g fr →
            ∃ t, exec i s = .next t ∧ t.frame g = fr ∧ (∀ f', f' ≠ g → t.frame f' = s.frame f')
              ∧ ∃ x, t.order? e = some x ∧ x.stage = .fetch ∧ x.frame = some g ∧ x.track = some n ∧ x.passed = true)

/-- The checks at take in their order (R130): the refusal is that of the first check that fails. What BAD_ORDER tests (R131,
R157, R166), by kind code, option bit, count, drive field, scope, mode, byte range and buffers; then the drive state (R132),
RANGE and PROTECTED (R133, R166) and the write check (R162) for the kinds that meet them. The later checks are stated for a
drive whose layout is known, and for a FORMAT on a BLANK one too. -/
def Obligations.RefusalOrder : Prop :=
  ∀ (s : State) (f : OrderFields) (d : DeskNo),
    let k (n : Nat) : Prop := f.kind.toNat = n
    let opt (i : Nat) : Prop := f.options.getLsbD i = true
    let supplies : Prop := f.scope = 2 ∨ f.scope = 3
    let badOption : Prop :=
      (opt 1 ∧ ¬ (k 1 ∨ k 2 ∨ k 3 ∨ k 8)) ∨ (opt 3 ∧ ¬ (k 2 ∨ k 3)) ∨ (opt 4 ∧ ¬ k 2) ∨ (opt 5 ∧ ¬ (k 1 ∨ k 3))
        ∨ (opt 6 ∧ ¬ k 1) ∨ (opt 7 ∧ ¬ k 6) ∨ (opt 3 ∧ opt 4)
    let badCount : Prop := (¬ (k 7 ∧ f.scope = 1) ∧ (f.count = 0 ∨ 64 < f.count)) ∨ (k 3 ∧ f.count ≠ 1)
    let badDrive : Prop :=
      3 < f.drive ∧ (k 1 ∨ k 2 ∨ k 3 ∨ k 5 ∨ k 6 ∨ k 8 ∨ ((k 4 ∨ k 7 ∨ k 9) ∧ f.scope = 0))
    let badScope : Prop := ((k 4 ∨ k 7 ∨ k 9) ∧ 1 < f.scope) ∨ (k 8 ∧ 3 < f.scope) ∨ (k 6 ∧ f.mode ≠ 0 ∧ f.mode ≠ 1)
      ∨ (k 8 ∧ supplies ∧ 0x1000000 < f.buffer + 68)
    let badRange : Prop := ∃ (v : DriveNo) (l : Layout), f.drive = v.val ∧ (s.drive v).layoutKnown = true
      ∧ (s.drive v).timer.active = some l
      ∧ (((k 1 ∨ k 2) ∧ ((f.length = 0 ∧ f.offset ≠ 0) ∨ (f.length ≠ 0 ∧ f.count * l.size < f.offset + f.length)
            ∨ 0x1000000 < f.buffer + (if f.length = 0 then f.count * l.size else f.length)))
        ∨ (k 3 ∧ (0x1000000 < f.buffer + l.size ∨ 0x1000000 < f.buffer2 + l.size)))
    (s.badOrder f = true ↔
      f.kind = 0 ∨ 9 < f.kind.toNat ∨ badOption ∨ badCount ∨ badDrive ∨ badScope ∨ badRange)
    ∧ (s.badOrder f = true → s.refusal f d = some (.badOrder, 0))
    ∧ (s.badOrder f = false → k 7 ∨ k 9 ∨ (k 4 ∧ f.scope = 1) → s.refusal f d = none)
    ∧ ∀ v : DriveNo, f.drive = v.val → s.badOrder f = false →
      let works : Prop := k 1 ∨ k 2 ∨ k 3
      let checked : Prop := works ∨ k 5 ∨ k 6 ∨ k 8 ∨ (k 4 ∧ f.scope = 0)
      let hc := (s.drive v).headCount
      let refuses (mine : Extent) (l : Lock) : Prop := l.extent.overlaps mine = true ∧ (l.mode = .share ∨ d ∉ l.holders)
      let lockCheck (mine : Extent) : Prop :=
        ((∀ l ∈ s.locks, ¬ refuses mine l) → s.refusal f d = none)
        ∧ ∀ xs l ys, s.locks = xs ++ l :: ys → (∀ x ∈ xs, ¬ refuses mine x) → refuses mine l →
            s.refusal f d = some (.locked, l.first)
      (checked → (s.drive v).state = .blank → ¬ (k 8 ∧ supplies) → s.refusal f d = some (.blank, 0))
      ∧ (checked → (s.drive v).state ≠ .blank → (s.drive v).state ≠ .ready → s.refusal f d = some (.notReady, 0))
      ∧ (k 4 → (s.drive v).state = .ready → s.refusal f d = none)
      ∧ (∀ l, (s.drive v).state = .ready → (s.drive v).layoutKnown = true → (s.drive v).timer.active = some l →
          let blocks := 77 * hc * l.spt
          let fits : Prop := if k 3 ∨ k 5 then f.block < blocks else f.block + f.count ≤ blocks
          (works ∨ k 5 ∨ k 6 → ¬ fits → s.refusal f d = some (.range, max blocks f.block))
          ∧ (k 1 ∨ k 5 ∨ k 6 → fits → s.refusal f d = none)
          ∧ (k 2 ∨ k 3 → fits → (s.drive v).writeProtect = true → s.refusal f d = some (.writeProtected, 0))
          ∧ (k 2 ∨ k 3 → fits → (s.drive v).writeProtect = false →
              lockCheck ⟨f.drive, f.block, some (if k 3 then 1 else f.count)⟩))
      ∧ (k 8 → (s.drive v).state = .ready ∨ ((s.drive v).state = .blank ∧ supplies) →
          let oneTrack : Prop := f.scope = 0 ∨ f.scope = 2
          (oneTrack → 77 * hc ≤ f.block → s.refusal f d = some (.range, f.block))
          ∧ (¬ (oneTrack ∧ 77 * hc ≤ f.block) →
            ((s.drive v).writeProtect = true → s.refusal f d = some (.writeProtected, 0))
            ∧ ((s.drive v).writeProtect = false →
              (¬ oneTrack ∨ (s.drive v).layoutKnown = false → lockCheck ⟨f.drive, 0, none⟩)
              ∧ ∀ l, oneTrack → (s.drive v).layoutKnown = true → (s.drive v).timer.active = some l →
                  lockCheck ⟨f.drive, f.block * l.spt, some l.spt⟩)))

/-- FETCH_DONE (R81, R137, R139, R142, R143): a bus error ends the order; the bytes of a WRITE's last track are merged into
its frame in the same command, where no other order waits and every sector that is touched in part holds data. Then an EARLY
order ends with the pending failure of an earlier track, else OK, also where this merge went into a STRANDED sector; one
without EARLY enters SETTLE, or ends with the first stranded sector it merged into. The slot order of the sectors of one merge
is the model's choice (log 51), and so is that the command always ends the present order's own fetch (log 73). -/
def Obligations.FetchDone : Prop :=
  ∀ (e : EntryNo) (s : State),
    ((∀ o, s.order? e = some o → o.stage ≠ .fetch) → ∀ r, exec (.fetchDone e r) s = .next s)
    ∧ (∀ o, s.order? e = some o → o.stage = .fetch →
      (∃ t, exec (.fetchDone e .busError) s = .next t
        ∧ ∃ o', t.order? e = some o' ∧ o'.stage = .finish ∧ o'.result = some ⟨.busError, o.partBlock, s.g⟩
          ∧ o'.bytes = o.bytes ∧ o'.tracks = o.tracks)
      ∧ (∀ (b : List Byte) (f : FrameNo) (v : DriveNo), b.length = o.part.length → s.noneWaiting → s.waiters = [] →
          o.fields.kind? = some .write → o.fields.fresh = false → o.fields.drive = v.val → o.frame = some f →
          (s.frame f).held = true → o.generation = (s.drive v).generation → o.wait = [] →
          o.part.track = lastTrack o.fields o.geometry →
          let fr := s.frame f
          let a := o.part.areaStart o.fields o.geometry
          (fr.sectors.map Sector.number).Nodup →
          (∀ q ∈ o.needed, ∃ x ∈ fr.sectors, x.number = o.geometry.sector q ∧ x.state.holdsData = true) →
          (∀ x ∈ fr.sectors, fr.reaches a b.length x = true →
            x.state.holdsData = true ∨ fr.fills a b.length x = true) →
          ∃ t, exec (.fetchDone e (.data b)) s = .next t
            ∧ storedAt fr.area (t.frame f).area a b
            ∧ (t.frame f).uses = fr.uses - 1 ∧ (t.frame f).lru = s.g ∧ (t.frame f).key = fr.key
            ∧ fr.mergedTo (t.frame f) a b.length s.g o.fields.verify o.fields.rush
            ∧ (∀ f', f' ≠ f → t.frame f' = s.frame f')
            ∧ ∃ o', t.order? e = some o' ∧ o'.bytes = o.bytes + b.length ∧ o'.tracks = o.tracks + 1
              ∧ (o.fields.early = true → o.failure = none → o'.stage = .finish ∧ o'.result = some ⟨.ok, 0, s.g⟩)
              ∧ (o.fields.early = false → o.failure = none → (∀ y ∈ o.targets, y.failure? = none) →
                  (∀ x ∈ fr.sectors, fr.reaches a b.length x = true → x.state ≠ .stranded) →
                  (∃ x ∈ fr.sectors, fr.reaches a b.length x = true) →
                  o'.stage = .settle ∧ o'.targets = o.targets ++ o.mergeTargets fr f v a b.length)
              ∧ (∀ (k : Nat) x, o.fields.early = false → o.failure = none → (∀ y ∈ o.targets, y.failure? = none) →
                  fr.sectors[k]? = some x → fr.reaches a b.length x = true → x.state = .stranded →
                  (∀ (j : Nat) y, j < k → fr.sectors[j]? = some y → fr.reaches a b.length y = true → y.state ≠ .stranded) →
                  o'.stage = .finish ∧ o'.result = some ⟨if x.cause = .check then .verifyFail else .writeFault,
                    o.geometry.blockOf o.part.track x.number, s.g⟩)
              ∧ (∀ code block, o.failure = some (code, block) →
                  o'.stage = .finish ∧ o'.result = some ⟨code, block, s.g⟩)))

/-- The frame of a READ, granted at its TAKE, and its wants (R68, R134, R135, R137): the blocks of its first track, those it
waits for, and the copy-out where none is left to wait for (R80, R140), with the fill of SALVAGE (R141) or the end HARD_READ.
Then what an order in FILL hears of a sector it awaits: SECTOR FILLED, a failed attempt, and the eighth (R137, R138, R141,
R142), with HARD_READ, NOT_FOUND or the fill, which a READ marks used there and an EXCHANGE only at its exchange (R145); the copy-out of a READ that awaits nothing more; and the wants made again where
a sector has lost its data meanwhile (NO DATA, R80, R81, R137). Stated where no other order waits. That the entry of a BAD
sector stays in the wait list under its fill mark is the model's reading (log 53), and so is that a WRITE's highest attempt leaves
out its pre-reads (R144 over R138, log 57); a data byte that nothing has written is a free value (log 5). -/
def Obligations.ReadsAtTheirFrames : Prop :=
  (∀ (d : DeskNo) (a : Word) (f : OrderFields) (e : EntryNo) (v : DriveNo) (l : Layout) (g : FrameNo) (fr : Frame)
      (hd : Header) (s : State), s.noneWaiting → s.ctl = .running →
      (s.desk d).state = .fetching → (s.desk d).look = .taking a f → s.reservedFor? d = some e → s.refusal f d = none →
      (∀ w ∈ s.waiters, w.order ≠ e) → f.kind = 1 → f.drive = v.val → (s.drive v).timer.active = some l →
      s.header = some hd →
      let hc := (s.drive v).headCount
      let lo := f.block + f.offset / l.size
      let stop := f.offset + (if f.length = 0 then f.count * l.size else f.length)
      let n := lo / l.spt
      let hi := min (f.block + (stop - 1) / l.size) ((n + 1) * l.spt - 1)
      let at' := f.block * l.size + f.offset - n * l.spt * l.size
      let m := min stop (((n + 1) * l.spt - f.block) * l.size) - f.offset
      let o : Order := { s.newOrder d a f with track := some n }
      let i : Instr := .take d .ok
      s.grants ⟨v, n / hc, n % hc⟩ l g fr → fr.apart →
      (∀ q, lo ≤ q → q ≤ hi → ∃ x ∈ fr.sectors, x.number = l.first + q % l.spt) →
      (∀ q, q ∈ o.needed ↔ lo ≤ q ∧ q ≤ hi)
      ∧ (o.toWait fr ≠ [] → f.salvage = true ∨ o.firstBad fr = none → ∃ t o', exec i s = .next t
          ∧ t.order? e = some o' ∧ o.waitsAt o' g fr (t.frame g) s.g ∧ ∀ f', f' ≠ g → t.frame f' = s.frame f')
      ∧ (∀ q, o.firstBad fr = some q → f.salvage = false → ∃ t o', exec i s = .next t
          ∧ t.order? e = some o' ∧ o'.stage = .finish ∧ o'.result = some ⟨.hardRead, q, s.g⟩
          ∧ (t.frame g).uses = fr.uses - 1)
      ∧ (o.toWait fr = [] →
          (∀ x ∈ fr.sectors, fr.reaches at' m x = true →
            x.state.holdsData = true ∨ (f.salvage = true ∧ x.state = .bad)) →
          f.salvage = true ∨ o.firstBad fr = none → ∃ t o', exec i s = .next t
          ∧ t.order? e = some o' ∧ o'.stage = .deliver ∧ o'.frame = none ∧ o'.wait = [] ∧ o'.bytes = 0
          ∧ t.givenFrom g at' m hd.salvageFill o'.staging ∧ o'.fillUsed = o.firstBad fr
          ∧ t.frame g = { fr with uses := fr.uses - 1 } ∧ ∀ f', f' ≠ g → t.frame f' = s.frame f'))
  ∧ ∀ (p : PortNo) (r : Request) (f : FrameNo) (x : Sector) (e : EntryNo) (o : Order) (w : Wanted) (s : State),
      s.readsFor p r f x e o w →
      let fr := s.frame f
      let others := o.wait.filter fun y => decide (y ≠ w)
      let a := o.part.areaStart o.fields o.geometry
      let n := o.part.length
      let read : Prop := o.fields.kind? = some .read
      let filled : Sector := { x with state := .valid, settledVer := x.dataVer, attempts := 0, rush := false }
      let lost := o.needed.filter fun b => o.geometry.sector b != x.number && (fr.stateAt o.geometry b).waited false
      let highest := if o.fields.kind? = some .write then o.highest else max o.highest r.attempt
      (∀ i b, s.fieldRead p r i b →
        ((∃ y ∈ others, y.fill = false) → ∃ t o', exec i s = .next t ∧ t.order? e = some o' ∧ o'.stage = .fill
          ∧ o'.wait = others ∧ o'.highest = highest ∧ o'.frame = some f)
        ∧ (others = [] → lost ≠ [] → (read ∨ o.staging.length = n) →
          (∀ q ∈ o.needed, ∃ y ∈ fr.sectors, y.number = o.geometry.sector q) →
          (∀ y ∈ fr.sectors, y.isOne o.geometry o.needed = true ↔
            fr.reaches a n y = true ∧ (o.fields.kind? = some .write → fr.fills a n y = false)) →
          (∀ y ∈ fr.sectors, y.isOne o.geometry o.needed = true → y.number ≠ x.number →
            y.state.holdsData = true ∨ y.state.waited false = true) →
          ∃ t o', exec i s = .next t ∧ t.order? e = some o' ∧ o'.stage = .fill ∧ o'.frame = some f
            ∧ o'.wait = waitsFor f o.geometry lost ∧ o'.staging = o.staging
            ∧ (t.frame f).sectors = (fr.sectors.set r.slot filled).map fun y =>
                if y.isOne o.geometry lost then y.wantedAt s.g o.fields.rush else y)
        ∧ (read → (∀ y ∈ others, y.fill = true) →
          (∀ y ∈ fr.sectors, fr.reaches a n y = true → y.number = x.number ∨ y.state.holdsData = true
            ∨ (o.fields.salvage = true ∧ y.state = .bad)) →
          ∃ t o', exec i s = .next t ∧ t.order? e = some o' ∧ o'.stage = .deliver ∧ o'.frame = none ∧ o'.wait = []
            ∧ (∀ hd, s.header = some hd → t.givenFrom f a n hd.salvageFill o'.staging)
            ∧ (∀ q, o.fillUsed = some q → o'.fillUsed = some q)
            ∧ ((∀ y ∈ fr.sectors, fr.reaches a n y = true → y.state ≠ .bad) → o'.fillUsed = o.fillUsed)
            ∧ storedAt fr.area (t.frame f).area (fr.sectorStart x.number) b
            ∧ (t.frame f).uses = fr.uses - 1 ∧ (t.frame f).sectors = fr.sectors.set r.slot filled))
      ∧ ∀ i found, s.readFails p r i found →
        (r.attempt < 8 → ∃ t o', exec i s = .next t ∧ t.order? e = some o' ∧ o'.stage = .fill
          ∧ o'.highest = highest
          ∧ o'.wait = o.wait.map fun y => if y = w then { y with found := y.found || found } else y)
        ∧ (8 ≤ r.attempt → o.fields.salvage = false ∨ o.fields.kind? = some .write → ∃ t o', exec i s = .next t
          ∧ t.order? e = some o' ∧ o'.stage = .finish ∧ o'.highest = highest
          ∧ (s.waiters = [] → (t.frame f).uses = fr.uses - 1)
          ∧ (read → found = false → w.found = false → o'.result = some ⟨.notFound, w.block, s.g⟩)
          ∧ (¬ read ∨ found = true ∨ w.found = true → o'.result = some ⟨.hardRead, w.block, s.g⟩))
        ∧ (8 ≤ r.attempt → o.fields.salvage = true → o.fields.kind? ≠ some .write →
          ((∃ y ∈ others, y.fill = false) → ∃ t o', exec i s = .next t ∧ t.order? e = some o' ∧ o'.stage = .fill
            ∧ o'.fillUsed = (if o.fields.kind? = some .exchange then o.fillUsed else some (o.fillUsed.getD w.block))
            ∧ o'.highest = highest
            ∧ o'.wait = o.wait.map fun y => if y = w then { y with found := y.found || found, fill := true } else y)
          ∧ (read → (∀ y ∈ others, y.fill = true) →
            (∀ y ∈ fr.sectors, fr.reaches a n y = true → y.number = x.number ∨ y.state.holdsData = true
              ∨ y.state = .bad) →
            ∃ t o', exec i s = .next t ∧ t.order? e = some o' ∧ o'.stage = .deliver ∧ o'.frame = none
              ∧ o'.fillUsed = some (o.fillUsed.getD w.block)
              ∧ (∀ hd, s.header = some hd → t.givenFrom f a n hd.salvageFill o'.staging)
              ∧ (t.frame f).uses = fr.uses - 1))

/-- The frames of a WRITE and an EXCHANGE from FETCH_DONE on (R68, R81, R82, R137, R142, R143, R145): the blocks they need, those
they wait for, the end at a BAD one, the exchange step with the bytes taken and the bytes placed, and an earlier track of a
WRITE, merged, with the frame of the next one requested (R134 to R136). Then the end of the read that fills the last sector
they await: the merge on the last track with its SETTLE or early end, and the exchange, also where SALVAGE gives fill in place
of an unreadable block. Stated where no other order waits. The slot order of the sectors of one merge (log 51) and the fill
mark (log 53) are the model's reading; a data byte that nothing has written is a free value (log 5). -/
def Obligations.WritesAndExchanges : Prop :=
  (∀ o : Order,
      let p := o.part
      let size := o.geometry.size
      p.lo < p.hi → 0 < size → ∀ q, q ∈ o.needed ↔
        o.fields.block + p.lo / size ≤ q ∧ q ≤ o.fields.block + (p.hi - 1) / size
        ∧ (o.fields.kind? = some .write →
            (q - o.fields.block) * size < p.lo ∨ p.hi < (q - o.fields.block + 1) * size))
  ∧ (∀ (e : EntryNo) (o : Order) (f : FrameNo) (v : DriveNo) (b : List Byte) (s : State), s.noneWaiting → s.waiters = [] →
      s.order? e = some o → o.stage = .fetch → o.fields.kind? = some .write ∨ o.fields.kind? = some .exchange →
      o.fields.fresh = false → o.fields.drive = v.val → o.frame = some f → (s.frame f).held = true →
      o.generation = (s.drive v).generation → o.wait = [] → b.length = o.part.length → (s.frame f).apart →
      (∀ q ∈ o.needed, ∃ x ∈ (s.frame f).sectors, x.number = o.geometry.sector q) →
      let fr := s.frame f
      let a := o.part.areaStart o.fields o.geometry
      let n := o.part.length
      let fills : Prop := o.fields.kind? = some .exchange ∧ o.fields.salvage = true
      let i : Instr := .fetchDone e (.data b)
      (o.toWait fr ≠ [] → fills ∨ o.firstBad fr = none → ∃ t o', exec i s = .next t ∧ t.order? e = some o'
          ∧ ({ o with staging := b } : Order).waitsAt o' f fr (t.frame f) s.g ∧ ∀ f', f' ≠ f → t.frame f' = s.frame f')
      ∧ (∀ q, o.firstBad fr = some q → ¬ fills → ∃ t o', exec i s = .next t ∧ t.order? e = some o'
          ∧ o'.stage = .finish ∧ o'.result = some ⟨.hardRead, q, s.g⟩ ∧ (t.frame f).uses = fr.uses - 1
          ∧ (t.frame f).area = fr.area ∧ o'.bytes = o.bytes ∧ o'.tracks = o.tracks)
      ∧ (o.fields.kind? = some .exchange → o.toWait fr = [] → fills ∨ o.firstBad fr = none →
          (∀ x ∈ fr.sectors, fr.reaches a n x = true → x.state.holdsData = true ∨ (fills ∧ x.state = .bad)) →
          ∃ t o', exec i s = .next t ∧ t.order? e = some o' ∧ o'.stage = .deliver ∧ o'.frame = none
            ∧ (∀ hd, s.header = some hd → s.givenFrom f a n hd.salvageFill o'.staging)
            ∧ ((∀ x ∈ fr.sectors, x.isOne o.geometry o.needed = true → fr.reaches a n x = true) →
                o'.fillUsed = o.fillUsed.or (o.firstBad fr))
            ∧ o'.tracks = 1 ∧ o'.bytes = o.bytes + o.geometry.size
            ∧ o'.targets = o.targets ++ o.mergeTargets fr f v a n
            ∧ storedAt fr.area (t.frame f).area a b ∧ (t.frame f).uses = fr.uses - 1 ∧ (t.frame f).lru = s.g
            ∧ fr.mergedTo (t.frame f) a n s.g o.fields.verify o.fields.rush
            ∧ ∀ f', f' ≠ f → t.frame f' = s.frame f')
      ∧ (o.fields.kind? = some .write → o.part.track < lastTrack o.fields o.geometry → o.toWait fr = [] →
          o.firstBad fr = none →
          (∀ x ∈ fr.sectors, fr.reaches a n x = true → x.state.holdsData = true ∨ fr.fills a n x = true) →
          (∃ x ∈ fr.sectors, fr.reaches a n x = true) →
          let next : Order := { o with track := some (o.part.track + 1) }
          let key : Key := ⟨v, (o.part.track + 1) / o.geometry.heads, (o.part.track + 1) % o.geometry.heads⟩
          let d := s.drive v
          s.frameOf key ≠ some f → ∃ t o', exec i s = .next t ∧ t.order? e = some o' ∧ o'.tracks = o.tracks + 1 ∧ o'.bytes = o.bytes + n
            ∧ storedAt fr.area (t.frame f).area a b ∧ (t.frame f).uses = fr.uses - 1
            ∧ fr.mergedTo (t.frame f) a n s.g o.fields.verify o.fields.rush
            ∧ (d.state ≠ .ready ∨ d.layoutKnown = false →
                o'.stage = .finish ∧ o'.result = some ⟨.notReady, next.partBlock, s.g⟩)
            ∧ (d.state = .ready → d.layoutKnown = true → o'.targets = o.targets ++ o.mergeTargets fr f v a n
              ∧ (s.frameOf key = none → (∀ f', (s.frame f').held = true) → s.victim? = none →
                  o'.stage = .frame ∧ o'.track = next.track ∧ t.fwq = [⟨e, key, o.generation, s.g, false⟩])
              ∧ ∀ l f2 fr2, d.timer.active = some l → f2 ≠ f → s.grants key l f2 fr2 →
                  o'.stage = .fetch ∧ o'.frame = some f2 ∧ o'.track = next.track ∧ t.frame f2 = fr2)))
  ∧ ∀ (p : PortNo) (r : Request) (f : FrameNo) (x : Sector) (e : EntryNo) (o : Order) (w : Wanted) (s : State),
      s.readsFor p r f x e o w → s.waiters = [] → (∀ y ∈ o.wait, y ≠ w → y.fill = true) →
      let fr := s.frame f
      let a := o.part.areaStart o.fields o.geometry
      let n := o.part.length
      let start := fr.sectorStart x.number
      let filled : Sector := { x with state := .valid, settledVer := x.dataVer, attempts := 0, rush := false }
      let read : Frame := { fr with sectors := fr.sectors.set r.slot filled }
      o.staging.length = n →
      (∀ i b, s.fieldRead p r i b → o.fields.kind? = some .write → fr.reaches a n x = true →
        (∀ y ∈ fr.sectors, fr.reaches a n y = true →
          y.number = x.number ∨ y.state.holdsData = true ∨ fr.fills a n y = true) →
        ∃ t o', exec i s = .next t ∧ t.order? e = some o' ∧ o'.tracks = o.tracks + 1 ∧ o'.bytes = o.bytes + n
          ∧ (∃ mid, storedAt fr.area mid start b ∧ storedAt mid (t.frame f).area a o.staging)
          ∧ read.mergedTo (t.frame f) a n s.g o.fields.verify o.fields.rush
          ∧ (o.part.track = lastTrack o.fields o.geometry → (t.frame f).uses = fr.uses - 1)
          ∧ (o.part.track = lastTrack o.fields o.geometry → o.failure = none →
              (o.fields.early = true → o'.stage = .finish ∧ o'.result = some ⟨.ok, 0, s.g⟩)
              ∧ (o.fields.early = false → (∀ y ∈ o.targets, y.failure? = none) →
                (∀ y ∈ fr.sectors, fr.reaches a n y = true → y.state ≠ .stranded) →
                o'.stage = .settle ∧ o'.targets = o.targets ++ o.mergeTargets read f r.drive a n)))
      ∧ (o.fields.kind? = some .exchange → a = start → n = fr.size →
        (∀ i b, s.fieldRead p r i b → b.length = n → ∃ t o', exec i s = .next t ∧ t.order? e = some o'
          ∧ o'.stage = .deliver ∧ o'.frame = none ∧ o'.staging = b ∧ o'.fillUsed = o.fillUsed ∧ o'.tracks = 1
          ∧ o'.bytes = o.bytes + o.geometry.size ∧ o'.targets = o.targets ++ o.mergeTargets read f r.drive a n
          ∧ storedAt fr.area (t.frame f).area a o.staging ∧ (t.frame f).uses = fr.uses - 1
          ∧ read.mergedTo (t.frame f) a n s.g o.fields.verify o.fields.rush)
        ∧ ∀ i found hd, s.readFails p r i found → 8 ≤ r.attempt → o.fields.salvage = true → s.header = some hd →
          ∃ t o', exec i s = .next t ∧ t.order? e = some o' ∧ o'.stage = .deliver ∧ o'.frame = none
            ∧ o'.staging = List.replicate n hd.salvageFill
            ∧ (o.needed = [w.block] → o.geometry.sector w.block = x.number →
                o'.fillUsed = some (o.fillUsed.getD w.block))
            ∧ o'.tracks = 1 ∧ o'.bytes = o.bytes + o.geometry.size
            ∧ storedAt fr.area (t.frame f).area a o.staging ∧ (t.frame f).uses = fr.uses - 1
            ∧ ∃ y, (t.frame f).sectors[r.slot]? = some y ∧ y.state = .dirty ∧ y.dataVer = x.dataVer + 1)

/-- DELIVERY_DONE (R134 to R136, R139, R140, R145): the bytes in the buffer, the bytes transferred, the end of a READ at its
last track, the SETTLE or the end of an EXCHANGE, and the bus error with the block whose bytes the failed write carried. Of an
order that has ended meanwhile nothing lands (log 66), and the command always ends the present order's own delivery (log 73).
That an EXCHANGE's delivery with a bus error lands as far as it came is the model's choice, log 76.
Of a READ that has delivered an earlier track, where no other order waits: the generation check (R134), the request of the
next track's frame, refused, waited for, or granted, and there its wants, the end at a BAD sector, or the copy-out at once
(R68, R137, R140, R141). A data byte that nothing has written is a free value (log 5). -/
def Obligations.DeliveryDone : Prop :=
  ∀ (e : EntryNo) (s : State),
    ((∀ o, s.order? e = some o → o.stage ≠ .deliver) → ∀ r, exec (.deliveryDone e r) s = .next s)
    ∧ (∀ o, s.order? e = some o → o.stage = .deliver → o.fields.kind? = some .read →
        let addr := o.fields.buffer + (o.part.lo - o.fields.offset)
        (∃ t, exec (.deliveryDone e .ok) s = .next t ∧ storedAt s.mem t.mem addr o.staging
          ∧ ∃ o', t.order? e = some o' ∧ o'.bytes = o.bytes + o.part.length
            ∧ (o.part.track = lastTrack o.fields o.geometry → o'.stage = .finish
              ∧ (o.fillUsed = none → o'.result = some ⟨.ok, 0, s.g⟩)
              ∧ (∀ b, o.fillUsed = some b → o'.result = some ⟨.salvaged, b, s.g⟩)))
        ∧ (∀ v : DriveNo, o.fields.drive = v.val → o.part.track < lastTrack o.fields o.geometry → s.noneWaiting →
          s.waiters = [] → o.wait = [] →
          let d := s.drive v
          let n := o.part.track + 1
          let next : Order := { o with bytes := o.bytes + o.part.length, staging := [], frame := none, track := some n }
          let key : Key := ⟨v, n / o.geometry.heads, n % o.geometry.heads⟩
          let a := next.part.areaStart o.fields o.geometry
          let m := next.part.length
          ∃ t o', exec (.deliveryDone e .ok) s = .next t ∧ t.order? e = some o' ∧ o'.bytes = next.bytes
            ∧ (o.generation ≠ d.generation → o'.stage = .finish ∧ o'.result = some ⟨.mediaChanged, next.partBlock, s.g⟩)
            ∧ (o.generation = d.generation → d.state ≠ .ready ∨ d.layoutKnown = false →
                o'.stage = .finish ∧ o'.result = some ⟨.notReady, next.partBlock, s.g⟩)
            ∧ (o.generation = d.generation → d.state = .ready → d.layoutKnown = true → o'.track = next.track
              ∧ (s.frameOf key = none → (∀ f, (s.frame f).held = true) → s.victim? = none →
                  o'.stage = .frame ∧ t.fwq = [⟨e, key, o.generation, s.g, false⟩] ∧ t.frames = s.frames)
              ∧ ∀ l f fr, d.timer.active = some l → s.grants key l f fr → fr.apart →
                  (∀ q ∈ next.needed, ∃ x ∈ fr.sectors, x.number = o.geometry.sector q) →
                  (∀ f', f' ≠ f → t.frame f' = s.frame f')
                  ∧ (next.toWait fr ≠ [] → o.fields.salvage = true ∨ next.firstBad fr = none →
                      next.waitsAt o' f fr (t.frame f) s.g)
                  ∧ (∀ q, next.firstBad fr = some q → o.fields.salvage = false → o'.stage = .finish
                      ∧ o'.result = some ⟨.hardRead, q, s.g⟩ ∧ (t.frame f).uses = fr.uses - 1)
                  ∧ (next.toWait fr = [] → o.fields.salvage = true ∨ next.firstBad fr = none →
                      (∀ x ∈ fr.sectors, fr.reaches a m x = true →
                        x.state.holdsData = true ∨ (o.fields.salvage = true ∧ x.state = .bad)) →
                      o'.stage = .deliver ∧ o'.frame = none ∧ o'.wait = []
                      ∧ (∀ hd, s.header = some hd → t.givenFrom f a m hd.salvageFill o'.staging)
                      ∧ o'.fillUsed = o.fillUsed.or (next.firstBad fr)
                      ∧ t.frame f = { fr with uses := fr.uses - 1, lru := s.g })))
        ∧ (∀ n, n < o.part.length → ∃ t, exec (.deliveryDone e (.busError n)) s = .next t
          ∧ storedAt s.mem t.mem addr (o.staging.take n)
          ∧ ∃ o', t.order? e = some o' ∧ o'.stage = .finish ∧ o'.bytes = o.bytes + n
            ∧ o'.result = some ⟨.busError, o.fields.block + (o.part.lo + n) / o.geometry.size, s.g⟩))
    ∧ (∀ o, s.order? e = some o → o.stage = .deliver → o.fields.kind? = some .exchange →
        (∃ t, exec (.deliveryDone e .ok) s = .next t ∧ storedAt s.mem t.mem o.fields.buffer2 o.staging
          ∧ ∃ o', t.order? e = some o' ∧ o'.bytes = o.bytes
            ∧ (o.failure = none → (∃ x ∈ o.targets, x.state = .awaited) → (∀ x ∈ o.targets, x.failure? = none) →
                s.notQueued e → o'.stage = .settle)
            ∧ (o.failure = none → (∀ x ∈ o.targets, x.state = .durable) → o'.stage = .finish
              ∧ (o.fillUsed = none → o'.result = some ⟨.ok, 0, s.g⟩)
              ∧ (∀ b, o.fillUsed = some b → o'.result = some ⟨.salvaged, b, s.g⟩)))
        ∧ (∀ n, n < o.part.length → ∃ t, exec (.deliveryDone e (.busError n)) s = .next t
          ∧ storedAt s.mem t.mem o.fields.buffer2 (o.staging.take n)
          ∧ ∃ o', t.order? e = some o' ∧ o'.stage = .finish ∧ o'.bytes = o.bytes
            ∧ o'.result = some ⟨.busError, o.fields.block + (o.part.lo + n) / o.geometry.size, s.g⟩))

/-- LAYOUT_READ_DONE (R167 to R170; the write check made again is log 20): the refusals in their order, the first discard and
the posting of a track format that passes them, refused discard and busy job slot included, and the drain set that a diskette
format goes on with. That the command always ends the present FORMAT's own read is log 73. -/
def Obligations.LayoutReadDone : Prop :=
  ∀ (e : EntryNo) (o : Order) (v : DriveNo) (s : State), s.format? e = some (o, v) → o.phase = .readLayout →
    let ends (r : DmaRead) (code : Code) (detail : Nat) : Prop := ∃ t, exec (.layoutReadDone e r) s = .next t
      ∧ ∃ o', t.order? e = some o' ∧ o'.stage = .finish ∧ o'.result = some ⟨code, detail, s.g⟩
    ends .busError .busError 0
    ∧ ∀ b : List Byte, b.length = 68 →
      (∀ x l, o.extent = some x → s.refusingLock o.desk x = some l → ends (.data b) .locked l.first)
      ∧ ((∀ x, o.extent = some x → s.refusingLock o.desk x = none) →
        (2 ≤ fieldAt b 0 1 → ends (.data b) .badOrder 0)
        ∧ ∀ l, suppliedLayout b = some l →
          (l.legal o.period = false → ends (.data b) .badOrder 0)
          ∧ (l.legal o.period = true → o.fields.scope = 2 → (s.drive v).timer.active ≠ some l → ends (.data b) .badOrder 0)
          ∧ (l.legal o.period = true → (o.fields.scope = 2 → (s.drive v).timer.active = some l) →
              s.formatInUse e o.fields v = true → ends (.data b) .inUse 0)
          ∧ (l.legal o.period = true → o.fields.scope = 2 → (s.drive v).timer.active = some l →
              s.formatInUse e o.fields v = false → s.noneWaiting → (∀ w ∈ s.waiters, w.order ≠ e) → o.targets = [] →
              let n := o.fields.block
              let d := s.drive v
              let key := s.trackKey v n
              let accepted : Order := { o with
                layout := some l, passed := true, stage := .job, phase := .discard1, track := some n }
              let posts (t : State) : Prop :=
                (o.generation ≠ d.generation →
                  ∃ x, t.order? e = some x ∧ x.stage = .finish ∧ x.result = some ⟨.mediaChanged, 0, s.g⟩)
                ∧ (o.generation = d.generation → d.state ≠ .ready → d.state ≠ .blank →
                  ∃ x, t.order? e = some x ∧ x.stage = .finish ∧ x.result = some ⟨.notReady, n, s.g⟩)
                ∧ (o.generation = d.generation → d.state = .ready ∨ d.state = .blank → 0 < d.headCount →
                  n < 77 * d.headCount →
                  (d.sched.job = none →
                    (∃ j, (t.drive v).sched.job = some j ∧ j.kind = .formatTrack ∧ j.cylinder = n / d.headCount
                      ∧ j.head = n % d.headCount ∧ j.requester = .format e ∧ j.rush = o.fields.rush
                      ∧ j.fill = o.fields.mode)
                    ∧ t.order? e = some { accepted with phase := .posted })
                  ∧ ∀ j, d.sched.job = some j → (t.drive v).sched.job = some j
                    ∧ (t.drive v).sched.busy = d.sched.busy ++ [.format e]
                    ∧ t.order? e = some { accepted with phase := .busy })
              (s.frameOf key = none → ∃ t, exec (.layoutReadDone e (.data b)) s = .next t ∧ posts t)
              ∧ ∀ f, s.frameOf key = some f →
                ((s.frame f).isQuiet = true → ∃ t, exec (.layoutReadDone e (.data b)) s = .next t ∧ posts t
                  ∧ t.frame f = { area := (s.frame f).area })
                ∧ ((s.frame f).isQuiet = false → exec (.layoutReadDone e (.data b)) s =
                    .next { s with
                      table := s.table.set e.val (.order accepted), quiet := s.quiet ++ [⟨e, f, false⟩] }))
          ∧ (l.legal o.period = true → o.fields.scope = 3 → s.formatInUse e o.fields v = false → s.notQueued e →
              ∃ t, exec (.layoutReadDone e (.data b)) s = .next t
                ∧ ∃ o', t.order? e = some o' ∧ o'.stage = .settle ∧ o'.phase = .drain ∧ o'.layout = some l
                  ∧ o'.passed = true
                  ∧ ∀ (f : FrameNo) x, (s.frame f).held = true → (s.frame f).key.drive = v → x ∈ (s.frame f).sectors →
                      x.state = .dirty ∨ x.state = .writing ∨ x.state = .checkDue ∨ x.state = .checking →
                      s.noneWaiting → ∃ y ∈ o'.targets, y.frame = f ∧ y.sector = x.number ∧ y.version = x.dataVer))

/-- RESULT_WRITE_DONE (R116, R128, R154): the 24 result bytes at offset 0x20 of the block, the code by its number; a bus error finishes the order all the
same and faults its desk. That the generation and both stamps are written for every kind, a granted CHECKOUT and a RELEASE
among them, is log 52. -/
def Obligations.ResultWriteDone : Prop :=
  ∀ s : State,
    (∀ (e : EntryNo) (o : Order) (res : Result), s.order? e = some o → o.result = some res → o.resultWritten = false →
      let code : Nat := match res.code with
        | .ok => 0x00 | .salvaged => 0x01 | .badOrder => 0x10 | .range => 0x11 | .notReady => 0x12 | .blank => 0x13
        | .writeProtected => 0x14 | .locked => 0x15 | .busy => 0x16 | .tableFull => 0x17 | .alreadyHeld => 0x18
        | .notHeld => 0x19 | .inUse => 0x1A | .hardRead => 0x20 | .notFound => 0x21 | .writeFault => 0x22
        | .verifyFail => 0x23 | .trackOverrun => 0x24 | .mediaChanged => 0x30 | .abandoned => 0x31
        | .busError => 0x32 | .discarded => 0x33
      let bytes := leBytes 1 code ++ leBytes 1 o.highest ++ leBytes 2 o.generation.toNat ++ leBytes 4 res.detail
        ++ leBytes 4 o.bytes ++ leBytes 4 o.tracks ++ leBytes 4 o.takeStamp.toNat ++ leBytes 4 res.stamp.toNat
      (∃ t, exec (.resultWriteDone (.entry e) .ok) s = .next t ∧ storedAt s.mem t.mem (o.addr.toNat + 0x20) bytes
        ∧ ∃ o', t.order? e = some o' ∧ o'.resultWritten = true ∧ (s.still → o' = { o with resultWritten := true }))
      ∧ (∀ n, n < 24 → s.ctl ≠ .shedding → ∃ t, exec (.resultWriteDone (.entry e) (.busError n)) s = .next t
        ∧ storedAt s.mem t.mem (o.addr.toNat + 0x20) (bytes.take n)
        ∧ t.order? e = none ∧ (t.desk o.desk).done = (s.desk o.desk).done
        ∧ (t.desk o.desk).inFlight = (s.desk o.desk).inFlight - 1
        ∧ (t.desk o.desk).state = (if 1 < (s.desk o.desk).inFlight then .halting else .halted)
        ∧ t.notice = s.notice ||| (1 : Word) <<< 20))
    ∧ (∀ (k : Nat) (x : Orphan), s.orphans[k]? = some x → x.resultWritten = false →
        exec (.resultWriteDone (.orphan k) .ok) s = .next { s with
          mem := s.mem.writeAll (x.addr.toNat + 0x20) x.bytes
          orphans := s.orphans.set k { x with resultWritten := true } }
        ∧ ∀ n, exec (.resultWriteDone (.orphan k) (.busError n)) s = .next { s with
          mem := s.mem.writeAll (x.addr.toNat + 0x20) (x.bytes.take n), orphans := s.orphans.eraseIdx k })

/-- DONE_WRITE_DONE (R116, R121, R122, R125, R128): the DONE byte, the desk's counts, DESK_DONE with NOTIFY, the freed
entry, and the desk's own hold; a bus error faults the desk; a restart's write moves the done count alone, and not that of
a desk set up afresh since (log 12). -/
def Obligations.DoneWriteDone : Prop :=
  ∀ s : State,
    (∀ (e : EntryNo) (o : Order), s.order? e = some o → o.resultWritten = true → s.ctl ≠ .shedding →
      let k := s.desk o.desk
      (∃ t, exec (.doneWriteDone (.entry e) .ok) s = .next t ∧ storedAt s.mem t.mem (o.addr.toNat + 4) [3]
        ∧ t.order? e = none ∧ (s.tableWait = [] → s.still → t.slot e = .free)
        ∧ (t.desk o.desk).done = k.done + 1 ∧ (t.desk o.desk).inFlight = k.inFlight - 1
        ∧ (t.desk o.desk).state = (if k.state = .halting ∧ k.inFlight ≤ 1 then .halted else k.state)
        ∧ (t.desk o.desk).cursor = k.cursor ∧ (t.desk o.desk).taken = k.taken
        ∧ (k.state = .fetching → k.look = .held .window ∨ k.look = .held .barrier ∨ k.look = .held .overlap →
            (t.desk o.desk).look = .link)
        ∧ (∀ d ds, s.tableWait = d :: ds → t.slot e = .reserved d ∧ (t.desk d).look = .link ∧ t.tableWait = ds)
        ∧ t.notice = (if o.fields.notify then s.notice ||| (1 : Word) <<< o.desk.val else s.notice))
      ∧ (∃ t, exec (.doneWriteDone (.entry e) (.busError 0)) s = .next t ∧ t.mem = s.mem
        ∧ t.order? e = none ∧ (t.desk o.desk).done = k.done ∧ (t.desk o.desk).inFlight = k.inFlight - 1
        ∧ (t.desk o.desk).state = (if 1 < k.inFlight then .halting else .halted)
        ∧ t.notice = s.notice ||| (1 : Word) <<< 20))
    ∧ (∀ (n : Nat) (x : Orphan), s.orphans[n]? = some x → x.resultWritten = true →
        (∃ t, exec (.doneWriteDone (.orphan n) .ok) s = .next t ∧ t.mem = s.mem.writeAll (x.addr.toNat + 4) [3]
          ∧ t.orphans = s.orphans.eraseIdx n
          ∧ (t.desk x.desk).done = (s.desk x.desk).done + (if x.counts = true then 1 else 0)
          ∧ t.notice = s.notice ∧ t.table = s.table)
        ∧ exec (.doneWriteDone (.orphan n) (.busError 0)) s = .next { s with orphans := s.orphans.eraseIdx n })

/-- DESK_ENTRY_WRITE_DONE (R112, R123, R128): the oldest entry write of the desk lands, or lands as far as it came. A bus
error is a desk fault in every desk state, one that stands in a fault keeping its code and one that a HALT alone stopped
taking BUS_ERROR, but for the writes that R123 has dropped: those begun while the desk stands in a fault, the fault's own
among them, and those of a restart (log 22).
DRIVE_RECORD_WRITE_DONE (R113, R114): the oldest record write of the
drive lands, whole or as far as it came. That a write with a bus error lands as far as it came is the model's choice, log 76.
DRIVE_CHANGE is set after a change of state or cause, at every one with
DRIVE_NOTICE 1, else at one that entered READY. -/
def Obligations.RecordWrites : Prop :=
  (∀ (d : DeskNo) (s : State),
      ((s.desk d).entryWrites = [] → ∀ r, exec (.deskEntryWriteDone d r) s = .next s)
      ∧ (∀ w rest, (s.desk d).entryWrites = w :: rest → s.still →
          exec (.deskEntryWriteDone d .ok) s = .next { s.withDesk d { s.desk d with entryWrites := rest } with
            mem := s.mem.writeAll w.addr w.bytes }
          ∧ ∀ n, (w.dropped = true →
              exec (.deskEntryWriteDone d (.busError n)) s = .next { s.withDesk d { s.desk d with entryWrites := rest } with
                mem := s.mem.writeAll w.addr (w.bytes.take n) })
            ∧ (w.dropped = false →
              ∃ t, exec (.deskEntryWriteDone d (.busError n)) s = .next t ∧ t.mem = s.mem.writeAll w.addr (w.bytes.take n)
                ∧ (t.desk d).state = (if 0 < (s.desk d).inFlight then .halting else .halted)
                ∧ (t.desk d).fault = (if ((s.desk d).state = .halting ∨ (s.desk d).state = .halted)
                    ∧ (s.desk d).fault ≠ .none then (s.desk d).fault else .busError)
                ∧ (s.deskInRun d = true → s.ctl = .running ∨ s.ctl = .draining ∨ s.ctl = .shedding ∨ s.ctl = .safe →
                    (t.desk d).entryWrites = rest ++ [⟨deskEntryAddr s.runBase d, (t.desk d).entryBytes, true⟩])
                ∧ (t.desk d).latch = false ∧ (t.desk d).look = .none
                ∧ t.notice = s.notice ||| (1 : Word) <<< 20)))
  ∧ ∀ (v : DriveNo) (r : DmaWrite) (s : State),
      ((s.drive v).recordWrites = [] → exec (.driveRecordWriteDone v r) s = .next s)
      ∧ (∀ w rest, (s.drive v).recordWrites = w :: rest → exec (.driveRecordWriteDone v r) s =
          .next { s.withDrive v { s.drive v with recordWrites := rest } with
            mem := s.mem.writeAll w.write.addr (match r with
              | .ok => w.write.bytes
              | .busError n => w.write.bytes.take n)
            notice := match w.change with
              | none => s.notice
              | some ready => if s.driveNotice || ready then s.notice ||| (1 : Word) <<< (16 + v.val) else s.notice })

/-- What drive records and desk entries carry (R112, R113): the fields at their offsets in the part-written bytes of the
tables of 6.2. The layout fields of a drive without an active layout are the model's choice, log 16. A field recorded with
its own check reads good (R17). -/
def Obligations.RecordedBytes : Prop :=
  (∀ (mark : Byte) (b : List Byte),
    fieldGood mark (b ++ [crcHigh (crc (mark :: b)), crcLow (crc (mark :: b))]) = true)
  ∧ (∀ (d : Drive) (n : Nat), n < 65536 → d.headCount < 256 → d.cylinder < 256 →
    let b := d.recordBytes n
    b.length = 104
    ∧ fieldAt b 0 1 = (match d.state with
        | .absent => 0 | .empty => 1 | .spinup => 2 | .recal => 3 | .discovery => 4 | .ready => 5 | .blank => 6
        | .formatting => 7 | .fault => 8)
    ∧ fieldAt b 1 1 = (match d.cause with
        | .none => 0 | .speed => 1 | .seek => 2 | .drive => 3 | .unformatted => 4 | .mixed => 5 | .gapped => 6
        | .illegal => 7 | .incomplete => 8)
    ∧ fieldAt b 2 2 = d.generation.toNat
    ∧ fieldAt b 4 1 = d.headCount ∧ fieldAt b 5 1 = (if d.writeProtect then 1 else 0) ∧ fieldAt b 6 1 = d.cylinder
    ∧ fieldAt b 7 1 = (if d.layoutKnown then 1 else 0) ∧ fieldAt b 14 2 = n
    ∧ fieldAt b 16 4 = ((workingPeriod d.timer.p16).getD 0) % 4294967296
    ∧ (∀ l, d.timer.active = some l → l.map.length ≤ 60 → (∀ x ∈ l.map, x < 256) → l.sizeCode < 256 → l.spt < 256 →
        l.first < 256 → l.g0 < 256 → l.g3 < 256 →
        fieldAt b 8 1 = (if l.density = .fm then 0 else 1) ∧ fieldAt b 9 1 = l.sizeCode ∧ fieldAt b 10 1 = l.spt
        ∧ fieldAt b 11 1 = l.first ∧ fieldAt b 12 1 = l.g0 ∧ fieldAt b 13 1 = l.g3
        ∧ ∀ i, i < 60 → fieldAt b (24 + i) 1 = l.map.getD i 0)
    ∧ (d.timer.active = none → (∀ i, 8 ≤ i → i < 14 → fieldAt b i 1 = 0)
        ∧ ∀ i, i < 60 → fieldAt b (24 + i) 1 = 0)
    ∧ (d.health.snapshot = none → fieldAt b 20 4 = 0 ∧ ∀ i, 84 ≤ i → i < 104 → fieldAt b i 1 = 0)
    ∧ (∀ x, d.health.snapshot = some x → fieldAt b 20 4 = x.stamp.toNat
        ∧ (∀ i : Fin 8, fieldAt b (84 + 2 * i.val) 2 = (x.counters[i.val]).toNat)
        ∧ fieldAt b 100 1 = x.overflow.toNat ∧ fieldAt b 101 1 = x.framesMark % 256
        ∧ fieldAt b 102 2 = x.candMark % 65536))
  ∧ ∀ k : Desk, k.inFlight < 256 →
    let b := k.entryBytes
    b.length = 11 ∧ fieldAt b 0 4 = (k.cursor.getD 0).toNat
    ∧ fieldAt b 4 1 = (match k.state with | .idle => 0 | .fetching => 1 | .halting => 2 | .halted => 3)
    ∧ fieldAt b 5 1 = (match k.fault with | .none => 0 | .badLink => 1 | .busError => 2) ∧ fieldAt b 6 2 = k.taken.toNat ∧ fieldAt b 8 2 = k.done.toNat
    ∧ fieldAt b 10 1 = k.inFlight

/-! ### The Data Channel -/

/-- ARMING_TIME and SIDE_SELECT_SET (R44, R45, R50, R51, R57, R69): a usable grant is armed with its ladder row, a read or
check takes its sector under the head, a write leaves it DIRTY; a grant that cannot be used is MISSED and the store is as it
was. A track job that is MISSED is pending again, and may be granted anew in the same command; one that a restart left is
dropped, a diskette format's leaving its drive BLANK (log 28). -/
def Obligations.ArmingTime : Prop :=
  ∀ (p : PortNo) (s : State),
    let h := s.chan p
    ((h.state ≠ .selecting ∨ reached s.g h.arming = false ∨ h.work = none) → exec (.armingTime p) s = .next s)
    ∧ (∀ r, s.still → h.state = .selecting → reached s.g h.arming = true → h.work = some r →
      let d := s.drive r.drive
      let inTime : Prop := 1 < h.burst ∨ (h.arming - r.start).toInt ≤ 0
      (∀ f x l, s.sectorAt ⟨r.drive, r.cylinder, r.head⟩ r.slot = some (f, x) → d.timer.active = some l →
        d.arm = .free → d.heads = .loaded → d.state = .ready ∨ d.state = .blank ∨ d.state = .formatting →
        (s.frame f).generation = d.generation → h.owed r.drive = false → inTime →
        (r.kind = .read ∧ x.state = .wanted) ∨ (r.kind = .write ∧ x.state = .dirty) ∨
          (r.kind = .check ∧ x.state = .checkDue) →
        ∃ t, exec (.armingTime p) s = .next t
          ∧ t.chan p = { h with
              state := .armed
              work := some { r with attempt := x.attempts + 1 }
              settings :=
                { density := l.density
                  window := if r.kind = .read ∧ x.attempts + 1 = 3 then .early
                    else if r.kind = .read ∧ x.attempts + 1 = 4 then .late else .centre
                  threshold := if r.kind = .read ∧ x.attempts + 1 = 5 then 40
                    else if r.kind = .read ∧ x.attempts + 1 = 6 then 60
                    else if r.kind = .read ∧ x.attempts + 1 = 8 then 70 else 50 } }
          ∧ (t.frame f).sectors = (s.frame f).sectors.set r.slot { x with
              state := if r.kind = .read then .reading else if r.kind = .check then .checking else .dirty }
          ∧ (∀ f', f' ≠ f → t.frame f' = s.frame f') ∧ (∀ p', p' ≠ p → t.chan p' = s.chan p')
          ∧ t.table = s.table ∧ t.view = s.view)
      ∧ (r.kind = .read ∨ r.kind = .write ∨ r.kind = .check →
          d.arm ≠ .free ∨ d.heads ≠ .loaded ∨ h.owed r.drive = true ∨ ¬ inTime
            ∨ (d.state ≠ .ready ∧ d.state ≠ .blank ∧ d.state ≠ .formatting)
            ∨ s.sectorAt ⟨r.drive, r.cylinder, r.head⟩ r.slot = none
            ∨ (∃ f x, s.sectorAt ⟨r.drive, r.cylinder, r.head⟩ r.slot = some (f, x)
              ∧ ((s.frame f).generation ≠ d.generation ∨ (r.kind = .read ∧ x.state ≠ .wanted)
                ∨ (r.kind = .write ∧ x.state ≠ .dirty) ∨ (r.kind = .check ∧ x.state ≠ .checkDue))) →
          ∃ t, exec (.armingTime p) s = .next t ∧ t.store = s.store ∧ (t.drive r.drive).view = d.view
            ∧ ((t.chan p).state = .idle ∨ (t.chan p).state = .selecting))
      ∧ (∀ j, r.kind = .formatTrack ∨ r.kind = .discover → d.sched.job = some j → j.kind = r.kind →
          d.arm ≠ .free ∨ d.heads ≠ .loaded ∨ d.cylinder ≠ r.cylinder →
          ∃ t, exec (.armingTime p) s = .next t ∧ ((t.chan p).state = .idle ∨ (t.chan p).state = .selecting)
            ∧ t.store = s.store
            ∧ ((∀ b, j.requester ≠ .gone b) → (t.drive r.drive).view = d.view
              ∧ ∃ b, (t.drive r.drive).sched.job = some { j with running := b })
            ∧ (∀ b, j.requester = .gone b → .driveControl ∉ d.sched.busy → (t.drive r.drive).sched.job = none
              ∧ (b = true → d.state = .formatting → (t.drive r.drive).state = .blank
                ∧ (t.drive r.drive).cause = .incomplete ∧ (t.drive r.drive).layoutKnown = false)
              ∧ (b = false ∨ d.state ≠ .formatting → (t.drive r.drive).view = d.view)))
      ∧ (r.kind = .formatTrack ∨ r.kind = .discover → d.arm = .free → d.heads = .loaded → d.cylinder = r.cylinder →
          exec (.armingTime p) s = .next (s.withChan p { h with state := .armed })))
    ∧ ((∀ x, h.selectDue = some x → reached s.g x = false) → exec (.sideSelectSet p) s = .next s)
    ∧ (∀ x v head, h.selectDue = some x → reached s.g x = true → h.selected = some (v, head) →
        exec (.sideSelectSet p) s = .next (s.withChan p
          { h with selectDue := none, selectLine := some v, sideLine := head == 1 }))

/-- ID_MARK_SEEN, ID_FIELD_END and DATA_MARK_SEEN (R46, R48, R49, R59): the sampling of the read signal, and the fields of a
hunt and of a listening revolution. The half cell in which a data bit is looked for is log 26, a mark time by the end of
the mark byte log 14, a mark between a write's ID and its gate log 44, a data mark later than 30 byte times log 38, and the
P that limits the hunt log 55. -/
def Obligations.FieldsAndMarks : Prop :=
  (∀ (x : Settings) (reference : Nat) (flux : List Flux) (i : Nat),
      let eighth := (if x.density = .fm then 4000 else 2000) / 8
      let shift := match x.window with | .early => 0 | .centre => 1 | .late => 2
      (x.dataBit reference flux i = true ↔ ∃ f ∈ flux, (8 * i + 1 + shift) * eighth ≤ f.time
        ∧ f.time < (8 * i + 5 + shift) * eighth ∧ x.threshold * reference ≤ 100 * f.amplitude)
      ∧ (∀ k, k < 8 → (x.byte reference flux i).getLsbD (7 - k) = x.dataBit reference flux (8 * i + k))
      ∧ ∀ mark peak, x.markOf flux = some (mark, peak) →
          mark = x.byte peak flux 8 ∧ (∀ k, k < 64 → x.dataBit peak flux k = false)
          ∧ ∀ f ∈ flux, f.time < 64 * (8 * eighth) → f.amplitude ≤ peak)
  ∧ ∀ (p : PortNo) (sync signal : List Flux) (s : State),
    let flux := sync ++ signal
    let h := s.chan p
    let bt := if h.settings.density = .fm then 32 else 16
    (h.settings.markOf flux = none →
      exec (.idMarkSeen p flux) s = .next s ∧ exec (.dataMarkSeen p sync signal) s = .next s)
    ∧ (∀ mark peak, h.settings.markOf flux = some (mark, peak) →
      (mark ≠ 0xC7 → exec (.idMarkSeen p flux) s = .next s)
      ∧ (mark = 0xC7 → exec (.dataMarkSeen p sync signal) s = exec (.idMarkSeen p flux) s)
      ∧ (∀ r, h.state = .listen → h.work = some r →
        (mark = 0xC7 → exec (.idMarkSeen p flux) s =
          .next (s.withChan p { h with field := some ((s.drive r.drive).timer.phi - bt), reference := peak }))
        ∧ (mark ≠ 0xC7 → exec (.dataMarkSeen p sync signal) s =
          .next (s.withChan p { h with field := none, reference := peak })))
      ∧ (∀ r, h.state = .armed → h.work = some r → r.kind = .read ∨ r.kind = .write ∨ r.kind = .check →
        (h.found = none →
          (mark = 0xC7 → exec (.idMarkSeen p flux) s = .next (s.withChan p { h with state := .id, reference := peak }))
          ∧ (mark ≠ 0xC7 → exec (.dataMarkSeen p sync signal) s = .next s))
        ∧ (∀ x, h.found = some x → r.kind = .write → exec (.dataMarkSeen p sync signal) s = .next s)
        ∧ (∀ x, h.found = some x → r.kind ≠ .write → mark = 0xCB → s.still →
            ((x + BitVec.ofNat 32 (30 * bt)) - s.g).toNat < 2 ^ 31 →
            exec (.dataMarkSeen p sync signal) s = .next (s.withChan p { h with state := .data, reference := peak }))))
    ∧ (∀ (record high low : List Flux) (id : IdRecord) (hi lo : Byte),
      h.settings.bytes h.reference (record ++ high ++ low) 6 = [id.cylinder, id.head, id.sector, id.size, hi, lo] →
      let crcGood : Prop := crc [0xC7, id.cylinder, id.head, id.sector, id.size, hi, lo] = 0
      (∀ r, h.state = .listen → h.work = some r →
        (∀ m, h.field = some m → crcGood → h.listen.length < 64 → exec (.idFieldEnd p record high low) s =
          .next (s.withChan p { h with listen := h.listen ++ [⟨id, m⟩], field := none }))
        ∧ (h.field = none ∨ ¬ crcGood ∨ 64 ≤ h.listen.length → exec (.idFieldEnd p record high low) s =
          .next (s.withChan p { h with field := none })))
      ∧ (∀ r, h.state = .id → h.work = some r → s.still →
        (∀ f x l, crcGood → id.cylinder.toNat = r.cylinder → id.head.toNat = r.head →
          s.sectorAt ⟨r.drive, r.cylinder, r.head⟩ r.slot = some (f, x) → id.sector.toNat = x.number →
          (s.drive r.drive).timer.active = some l → id.size.toNat = l.sizeCode →
          exec (.idFieldEnd p record high low) s = .next (s.withChan p { h with state := .armed, found := some s.g }))
        ∧ (¬ crcGood ∨ (id.cylinder.toNat = r.cylinder ∧ (id.head.toNat ≠ r.head
              ∨ ∃ f x l, s.sectorAt ⟨r.drive, r.cylinder, r.head⟩ r.slot = some (f, x)
                ∧ (s.drive r.drive).timer.active = some l
                ∧ (id.sector.toNat ≠ x.number ∨ id.size.toNat ≠ l.sizeCode))) →
          (∀ period, workingPeriod (s.drive r.drive).timer.p16 = some period →
            reached s.g (h.arming + BitVec.ofNat 32 period) = false) →
          exec (.idFieldEnd p record high low) s = .next (s.withChan p { h with state := .armed }))))

/-- DATA_FIELD_END (R46, R49, R53, R56, R70, R72, R74), where nothing waits: a good read makes its sector VALID with the bytes
read, a good check settles its write, and a bad one climbs its ladder; the third strands the sector and ends a WRITE in SETTLE
that follows it VERIFY_FAIL (R138, R143, R144). -/
def Obligations.DataFieldEnd : Prop :=
  ∀ (p : PortNo) (r : Request) (data high low : List Flux) (s : State),
    ((s.chan p).state ≠ .data → exec (.dataFieldEnd p data high low) s = .next s)
    ∧ (∀ f x b hi lo, s.noneWaiting → (s.chan p).state = .data → (s.chan p).work = some r →
      s.sectorAt ⟨r.drive, r.cylinder, r.head⟩ r.slot = some (f, x) → b.length = s.sectorLength r.drive →
      (s.chan p).settings.bytes (s.chan p).reference (data ++ high ++ low) (b.length + 2) = b ++ [hi, lo] →
      let good : Prop := crc (0xCB :: (b ++ [hi, lo])) = 0
      let old := (s.drive r.drive).health.counters
      let more (n : Half) : Half := if n = 0xFFFF then n else n + 1
      let becomes (t : State) (y : Sector) : Prop := exec (.dataFieldEnd p data high low) s = .next t
        ∧ (t.frame f).sectors = (s.frame f).sectors.set r.slot y ∧ (t.frame f).key = (s.frame f).key
        ∧ (∀ f', f' ≠ f → (t.frame f').sectors = (s.frame f').sectors ∧ (t.frame f').area = (s.frame f').area)
      (r.kind = .read → x.state = .reading → good → ∃ t,
          becomes t { x with state := .valid, settledVer := x.dataVer, attempts := 0, rush := false }
          ∧ storedAt (s.frame f).area (t.frame f).area ((s.frame f).sectorStart x.number) b
          ∧ (t.drive r.drive).health.counters[0] = (if 2 ≤ r.attempt then more old[0] else old[0]))
      ∧ (r.kind = .read → x.state = .reading → ¬ good → ∃ t,
          becomes t (if r.attempt < 8 then { x with state := .wanted, attempts := x.attempts + 1 }
            else { x with state := .bad, attempts := 8, rush := false })
          ∧ (t.frame f).area = (s.frame f).area
          ∧ (t.drive r.drive).health.counters[1] = (if r.attempt = 8 then more old[1] else old[1]))
      ∧ (r.kind = .check → x.state = .checking → good → crc (0xCB :: b) = x.writtenCrc → ∃ t,
          becomes t (if x.redirty then
              { x with settledVer := x.writtenVer, check := false, attempts := 0, redirty := false, state := .dirty
                       stamp := s.g }
            else { x with settledVer := x.writtenVer, check := false, attempts := 0, state := .valid, rush := false })
          ∧ (t.frame f).area = (s.frame f).area
          ∧ (t.drive r.drive).health.counters[4] = (if 2 ≤ r.attempt then more old[4] else old[4]))
      ∧ (r.kind = .check → x.state = .checking → ¬ good ∨ crc (0xCB :: b) ≠ x.writtenCrc → ∃ t,
          becomes t (if r.attempt < 3 then
              { x with state := .dirty, attempts := x.attempts + 1, verify := true, check := false, redirty := false }
            else { x with state := .stranded, attempts := 3, rush := false, verify := true, check := false
                          redirty := false, cause := .check })
          ∧ (t.frame f).area = (s.frame f).area
          ∧ (t.drive r.drive).health.counters[5] = (if r.attempt = 3 then more old[5] else old[5])
          ∧ (3 ≤ r.attempt → s.waiters = [] → ∀ e o, s.order? e = some o → o.settling → ∀ y ∈ o.targets,
              y.frame = f → y.sector = x.number → y.state = .awaited →
              (∀ z ∈ o.targets, z.frame = f → z.sector = x.number → z.state = .awaited → z = y) →
              ∃ o', t.order? e = some o' ∧ o'.stage = .finish ∧ o'.result = some ⟨.verifyFail, y.block, s.g⟩
                ∧ o'.highest = max o.highest r.attempt)))

/-- Attempts that fail before their data field (R47 to R49, R53, R70, R73, R74), where nothing waits: the data mark that does
not come, another mark in its place, the hunt of one revolution, a flux loss, and an ID field of another cylinder. The report
acts on a sector in the state that its kind names, and is discarded by one in another state (R76), so by the DIRTY sector of
a write whose gate has not opened (log 35). The recalibration owed mark is set by these failures and RECAL REQUEST raised
(R52), stated where no RECAL job can end in the same command: TRACK ZERO low (a free value since the last pulse, log 25) or
the arm away from cylinder 0. The window and threshold in which a transition counts are log 26, and the P that limits the
hunt is log 55. -/
def Obligations.FailedAttempts : Prop :=
  ∀ (p : PortNo) (r : Request) (f : FrameNo) (x : Sector) (s : State), s.noneWaiting → (s.chan p).work = some r →
    r.kind = .read ∨ r.kind = .check ∨ r.kind = .write →
    s.sectorAt ⟨r.drive, r.cylinder, r.head⟩ r.slot = some (f, x) →
    let h := s.chan p
    let old := (s.drive r.drive).health.counters
    let more (n : Half) : Half := if n = 0xFFFF then n else n + 1
    let d := s.drive r.drive
    let zero : Bool := match d.lines.trackZero with
      | some level => level
      | none => Config.trackZero r.drive d.lines.steps
    let fails (i : Instr) (loss seek : Bool) : Prop := ∃ t, exec i s = .next t
      ∧ (r.kind = .read → x.state = .reading → (t.frame f).sectors = (s.frame f).sectors.set r.slot
          (if r.attempt < 8 then { x with state := .wanted, attempts := x.attempts + 1 }
            else { x with state := .bad, attempts := 8, rush := false }))
      ∧ (r.kind = .check → x.state = .checking → (t.frame f).sectors = (s.frame f).sectors.set r.slot
          (if r.attempt < 3 then
              { x with state := .dirty, attempts := x.attempts + 1, verify := true, check := false, redirty := false }
            else { x with state := .stranded, attempts := 3, rush := false, verify := true, check := false
                          redirty := false, cause := .check }))
      ∧ (r.kind = .write → x.state = .writing →
          (t.frame f).sectors = (s.frame f).sectors.set r.slot (x.afterFailedWrite r.attempt))
      ∧ ((r.kind = .read ∧ x.state ≠ .reading) ∨ (r.kind = .check ∧ x.state ≠ .checking)
            ∨ (r.kind = .write ∧ x.state ≠ .writing) → (t.frame f).sectors = (s.frame f).sectors)
      ∧ (∀ f', f' ≠ f → (t.frame f').sectors = (s.frame f').sectors)
      ∧ (let owes : Prop := seek = true ∨ (r.kind = .read ∧ r.attempt = 6) ∨ (r.kind ≠ .read ∧ r.attempt = 2)
         portOf r.drive = p → d.sched.job = none → zero = false ∨ d.cylinder ≠ 0 →
           ((t.chan p).owed r.drive = true ↔ h.owed r.drive = true ∨ owes)
           ∧ (owes → d.state = .ready ∨ d.state = .blank ∨ d.state = .formatting →
               ∃ j, (t.drive r.drive).sched.job = some j ∧ j.kind = .recal ∧ j.cylinder = d.cylinder))
      ∧ (t.drive r.drive).health.counters[2] = (if loss then more old[2] else old[2])
      ∧ (t.drive r.drive).health.counters[3] = (if seek then more old[3] else old[3])
    let limit (x : Word) : Word := x + BitVec.ofNat 32 (30 * (if h.settings.density = .fm then 32 else 16))
    (∀ m, h.state = .armed → h.found = some m → r.kind ≠ .write →
      (reached s.g (limit m) = true → fails (.dataMarkTimeout p) false false)
      ∧ (reached s.g (limit m) = false → exec (.dataMarkTimeout p) s = .next s)
      ∧ (∀ flux peak, h.settings.markOf flux = some (0xC7, peak) → fails (.idMarkSeen p flux) false false)
      ∧ (∀ sync signal mark peak, h.settings.markOf (sync ++ signal) = some (mark, peak) → mark ≠ 0xCB →
          fails (.dataMarkSeen p sync signal) false false))
    ∧ (∀ period, h.state = .armed → h.found = none → workingPeriod (s.drive r.drive).timer.p16 = some period →
      (reached s.g (h.arming + BitVec.ofNat 32 period) = true → fails (.huntLimit p) false false)
      ∧ (reached s.g (h.arming + BitVec.ofNat 32 period) = false → exec (.huntLimit p) s = .next s))
    ∧ (∀ flux : List Flux, h.state = .id ∨ h.state = .data →
      let eighth := (if h.settings.density = .fm then 4000 else 2000) / 8
      let counted (x : Flux) : Prop :=
        (match h.settings.window with | .late => eighth | _ => 0) ≤ x.time
          ∧ x.time < (match h.settings.window with | .early => 511 | .centre => 512 | .late => 513) * eighth
          ∧ h.settings.threshold * h.reference ≤ 100 * x.amplitude
      ((∀ x ∈ flux, ¬ counted x) → fails (.fluxLoss p flux) true false)
      ∧ ((∃ x ∈ flux, counted x) → exec (.fluxLoss p flux) s = .next s))
    ∧ (∀ (record high low : List Flux) (id : IdRecord) (hi lo : Byte), h.state = .id →
      h.settings.bytes h.reference (record ++ high ++ low) 6 = [id.cylinder, id.head, id.sector, id.size, hi, lo] →
      let good : Prop := crc [0xC7, id.cylinder, id.head, id.sector, id.size, hi, lo] = 0
      let late : Prop := ∃ period, workingPeriod (s.drive r.drive).timer.p16 = some period
        ∧ reached s.g (h.arming + BitVec.ofNat 32 period) = true
      (good → id.cylinder.toNat ≠ r.cylinder → ¬ late → fails (.idFieldEnd p record high low) false true)
      ∧ (¬ good ∨ id.cylinder.toNat ≠ r.cylinder ∨ id.head.toNat ≠ r.head ∨ id.sector.toNat ≠ x.number
            ∨ (∀ l, d.timer.active = some l → id.size.toNat ≠ l.sizeCode) → late →
          fails (.idFieldEnd p record high low) false false))

/-- GATE_OPEN_TIME and GATE_CLOSE (R54, R62, R71, R72): the capture, the gate, what it records, its close and the
settling or the check that follows; a sector that is no longer DIRTY opens no gate. What a WRITE in SETTLE hears of a settling
(R77, R138, R143, R144): its targets, its highest attempt, and its end once every target is DURABLE. -/
def Obligations.SectorWrites : Prop :=
  ∀ (p : PortNo) (r : Request) (s : State), (s.chan p).work = some r → r.kind = .write →
    let h := s.chan p
    let bt := if h.settings.density = .fm then 32 else 16
    let here := s.sectorAt ⟨r.drive, r.cylinder, r.head⟩ r.slot
    (∀ m, h.state = .armed → h.found = some m →
      (reached s.g (m + BitVec.ofNat 32 (11 * bt)) = false → exec (.gateOpenTime p) s = .next s)
      ∧ (reached s.g (m + BitVec.ofNat 32 (11 * bt)) = true → s.still →
        (∀ f x, here = some (f, x) → (s.frame f).generation = (s.drive r.drive).generation → x.state = .dirty →
          let b := s.areaBytes f ((s.frame f).sectorStart x.number) (s.frame f).size
          ∃ t, exec (.gateOpenTime p) s = .next t
            ∧ t.chan p = { h with
                state := .gate, staging := b, captured := x.dataVer, opened := s.g
                stream := .sector h.settings.density b }
            ∧ (t.chan p).stream.recorded (b.length + 12) =
                List.replicate 8 ⟨0, false⟩ ++ [⟨0xCB, true⟩]
                  ++ (b ++ [crcHigh (crc (0xCB :: b)), crcLow (crc (0xCB :: b)), 0xB4]).map (fun x => ⟨x, false⟩)
            ∧ (portOf r.drive = p → t.writeGate r.drive = true)
            ∧ (let y : Sector :=
                { x with
                  writtenVer := x.dataVer, check := x.verify, verify := false, redirty := false, state := .writing }
               t.frame f = { s.frame f with sectors := (s.frame f).sectors.set r.slot y })
            ∧ (∀ f', f' ≠ f → t.frame f' = s.frame f') ∧ (∀ p', p' ≠ p → t.chan p' = s.chan p')
            ∧ t.table = s.table ∧ t.view = s.view)
        ∧ (here = none ∨ (∃ f x, here = some (f, x) ∧ x.state ≠ .dirty) →
          ∃ t, exec (.gateOpenTime p) s = .next t ∧ t.store = s.store)))
    ∧ (h.state = .gate →
      let due := h.opened + BitVec.ofNat 32 ((h.staging.length + 12) * bt)
      (reached s.g due = false → exec (.gateClose p) s = .next s)
      ∧ (reached s.g due = true → h.acrossRestart = true → s.still →
          ∃ t, exec (.gateClose p) s = .next t ∧ t.store = s.store)
      ∧ (∀ f x, reached s.g due = true → h.acrossRestart = false → s.noneWaiting → here = some (f, x) →
          x.state = .writing → ∃ t, exec (.gateClose p) s = .next t
            ∧ (t.chan p).closed = s.g ∧ (portOf r.drive = p → t.writeGate r.drive = false)
            ∧ (t.frame f).area = (s.frame f).area
            ∧ (∀ f', f' ≠ f → (t.frame f').sectors = (s.frame f').sectors)
            ∧ (t.frame f).sectors = (s.frame f).sectors.set r.slot
              (let y : Sector := { x with writtenCrc := crc (0xCB :: h.staging) }
               let z : Sector := { y with settledVer := x.writtenVer, check := false, attempts := 0 }
               if x.check then { y with state := .checkDue, stamp := s.g }
               else if x.redirty then { z with redirty := false, state := .dirty, stamp := s.g }
               else { z with state := .valid, rush := false })
            ∧ (x.check = false → s.waiters = [] → ∀ e o, s.order? e = some o → o.settling → o.follows f x.number →
                let after := o.targets.map fun y =>
                  if y.frame = f ∧ y.sector = x.number ∧ y.state = .awaited ∧ (x.writtenVer - y.version).toNat < 2 ^ 31 then
                    { y with state := .durable } else y
                ∃ o', t.order? e = some o' ∧ o'.highest = max o.highest r.attempt
                  ∧ ((∃ y ∈ after, y.state = .awaited) → o'.stage = .settle ∧ o'.targets = after)
                  ∧ ((∀ y ∈ after, y.state ≠ .awaited) → o'.stage = .finish ∧ o'.result = some ⟨.ok, 0, s.g⟩))))

/-! ### Formatting -/

/-- DISCARD_RETRY, FORMAT_ENTRY_STEP and FORMAT_JOB_REPOST (R88, R94, R168, R169, R171): a FORMAT whose frame became quiet
discards it, and posts its track or, at its second discard, ends; the entry step of a diskette format, made at the end of its
drain and again when a refused frame became quiet, ends IN_USE or NOT_READY, waits for the frames that refuse, or takes the
drive into FORMATTING; a freed job slot is used, and a post into a held one is answered JOB BUSY. Stated where nothing
waits for a sector or a frame. -/
def Obligations.FormatSteps : Prop :=
  ∀ (e : EntryNo) (o : Order) (v : DriveNo) (s : State), s.format? e = some (o, v) → (∀ w ∈ s.waiters, w.order ≠ e) →
    let d := s.drive v
    let posted (t : State) (track : Nat) : Prop :=
      (∃ j, (t.drive v).sched.job = some j ∧ j.kind = .formatTrack ∧ j.cylinder = track / d.headCount
        ∧ j.head = track % d.headCount ∧ j.requester = .format e ∧ j.rush = o.fields.rush ∧ j.fill = o.fields.mode)
      ∧ ∃ o', t.order? e = some o' ∧ o'.stage = .job ∧ o'.phase = .posted ∧ o'.track = some track
    let ends (i : Instr) (code : Code) (detail : Nat) : Prop := ∃ t, exec i s = .next t
      ∧ ∃ o', t.order? e = some o' ∧ o'.stage = .finish ∧ o'.result = some ⟨code, detail, s.g⟩
    let open' : Prop := d.state = .ready ∨ d.state = .blank
    (s.quietTold e = false → exec (.discardRetry e) s = .next s)
    ∧ (∀ n, s.quietTold e = true → s.noneWaiting → o.fields.trackScope = true → o.stage = .job → o.phase = .discard1 →
        o.track = some n → o.generation = d.generation → open' → d.sched.job = none → 0 < d.headCount →
        n < 77 * d.headCount →
        (∀ f, s.frameOf (s.trackKey v n) = some f → (s.frame f).isQuiet = true →
          ∃ t, exec (.discardRetry e) s = .next t ∧ (t.frame f).held = false ∧ posted t n)
        ∧ (s.frameOf (s.trackKey v n) = none → ∃ t, exec (.discardRetry e) s = .next t ∧ posted t n)
        ∧ (∀ f, s.frameOf (s.trackKey v n) = some f → (s.frame f).isQuiet = false →
          ∃ t, exec (.discardRetry e) s = .next t ∧ t.frames = s.frames
            ∧ t.quiet = s.quiet.filter (fun q => q.order ≠ e) ++ [⟨e, f, false⟩]))
    ∧ (∀ n overrun, s.quietTold e = true → s.noneWaiting → o.phase = .discard2 overrun → o.track = some n →
        let concluded (t : State) : Prop := ∃ o', t.order? e = some o' ∧ o'.stage = .finish
          ∧ o'.tracks = o.tracks ∧ o'.result = some (if overrun then ⟨.trackOverrun, n, s.g⟩ else ⟨.ok, 0, s.g⟩)
        (∀ f, s.frameOf (s.trackKey v n) = some f → (s.frame f).isQuiet = true →
          ∃ t, exec (.discardRetry e) s = .next t ∧ (t.frame f).held = false ∧ concluded t)
        ∧ (s.frameOf (s.trackKey v n) = none → ∃ t, exec (.discardRetry e) s = .next t ∧ concluded t)
        ∧ (∀ f, s.frameOf (s.trackKey v n) = some f → (s.frame f).isQuiet = false →
          ∃ t, exec (.discardRetry e) s = .next t ∧ t.frames = s.frames ∧ t.order? e = some o
            ∧ t.quiet = s.quiet.filter (fun q => q.order ≠ e) ++ [⟨e, f, false⟩]))
    ∧ (o.drainEnded = false → exec (.formatEntryStep e) s = .next s)
    ∧ (∀ i, (i = .formatEntryStep e ∧ o.drainEnded = true)
          ∨ (i = .discardRetry e ∧ s.quietTold e = true ∧ o.phase = .entry) →
        (s.formatInUse e o.fields v = true → ends i .inUse 0)
        ∧ (s.formatInUse e o.fields v = false → ¬ open' → ends i .notReady 0)
        ∧ (s.formatInUse e o.fields v = false → open' → s.noneWaiting →
            (∃ f, (s.frame f).held = true ∧ (s.frame f).key.drive = v ∧ (s.frame f).isQuiet = false) →
            (∀ f g, (s.frame f).held = true → (s.frame g).held = true → (s.frame f).key = (s.frame g).key → f = g) →
            (∀ e' x y, s.order? e' = some x → y ∈ x.targets → y.state ≠ .awaited) →
            ∃ t, exec i s = .next t ∧ (t.drive v).state = d.state ∧ (t.drive v).sched.job = d.sched.job
              ∧ (∃ o', t.order? e = some o' ∧ o'.phase = .entry ∧ o'.stage = o.stage)
              ∧ ∀ f, (s.frame f).held = true → (s.frame f).key.drive = v →
                ((s.frame f).isQuiet = true → (t.frame f).held = false)
                ∧ ((s.frame f).isQuiet = false → t.frame f = s.frame f ∧ ⟨e, f, false⟩ ∈ t.quiet))
        ∧ (s.formatInUse e o.fields v = false → open' → s.noneWaiting → o.fields.trackScope = false →
            o.generation = d.generation → d.sched.job = none → 0 < d.headCount →
            (∀ f, (s.frame f).held = true → (s.frame f).key.drive = v → (s.frame f).isQuiet = true) →
            (∀ f g, (s.frame f).held = true → (s.frame g).held = true → (s.frame f).key = (s.frame g).key → f = g) →
            ∃ t, exec i s = .next t ∧ (t.drive v).state = .formatting ∧ posted t 0
              ∧ (t.drive v).timer.staged = (if o.fields.suppliesLayout then o.layout else d.timer.staged)
              ∧ ∀ f, (t.frame f).held = true → (t.frame f).key.drive ≠ v))
    ∧ (o.phase ≠ .slotFree → exec (.formatJobRepost e) s = .next s)
    ∧ (∀ n, o.phase = .slotFree → o.stage = .job → o.track = some n →
        (o.generation ≠ d.generation → ends (.formatJobRepost e) .mediaChanged 0)
        ∧ (o.generation = d.generation → o.fields.trackScope = true → ¬ open' → ends (.formatJobRepost e) .notReady n)
        ∧ (o.generation = d.generation → (o.fields.trackScope = true → open') → d.sched.job = none → 0 < d.headCount →
            n < 77 * d.headCount → s.notQueued e → ∃ t, exec (.formatJobRepost e) s = .next t ∧ posted t n)
        ∧ (∀ j, o.generation = d.generation → (o.fields.trackScope = true → open') → d.sched.job = some j →
            0 < d.headCount → n < 77 * d.headCount → s.still → ∃ t, exec (.formatJobRepost e) s = .next t
              ∧ (t.drive v).sched.job = some j ∧ (t.drive v).sched.busy = d.sched.busy ++ [.format e]
              ∧ t.order? e = some { o with phase := .busy }))

/-- INDEX_PULSE at a track job. At a FORMAT_TRACK job (R57, R58, R169, R172, R173): the first accepted pulse after the
arming opens the gate, the write goes on with gap fill behind its last slot, and the next pulse ends it, GOOD at or after
the end of the last slot; the FORMAT goes on by that, but a diskette format under SHEDDING ends ABANDONED after its track
(R174). One that runs on across a restart (R174) ends for nobody: a diskette
format's leaves its drive BLANK, even after GOOD, and a track format's leaves the drive as it is, also where a new diskette
FORMAT has entered FORMATTING meanwhile and waits for the job slot. At a DISCOVER job (R19 to R21, R59): the accepted pulse that closes the
revolution gives its conclusion, a rejected one has it listened to again. -/
def Obligations.TrackJobsAtIndexPulses : Prop :=
  (∀ (v : DriveNo) (r : Request) (s : State), (s.chan (portOf v)).work = some r → r.drive = v → r.kind = .formatTrack →
      let d := s.drive v
      let h := s.chan (portOf v)
      let accepted : Prop := ∃ p, d.timer.prev = some p ∧ 161667 ≤ (s.g - p).toNat ∧ (s.g - p).toNat ≤ 171667
      (h.state = .armed → d.state = .ready ∨ d.state = .blank ∨ d.state = .formatting →
        (∀ l, accepted → (match d.timer.staged with | some x => some x | none => d.timer.active) = some l →
          ∃ t, exec (.indexPulse v) s = .next t ∧ (t.chan (portOf v)).state = .trackWrite
            ∧ (t.chan (portOf v)).opened = s.g ∧ (t.chan (portOf v)).work = some r
            ∧ (t.chan (portOf v)).stream = .track l r.cylinder r.head r.fill)
        ∧ (¬ accepted → d.timer.rej ≠ 3 → ∃ t, exec (.indexPulse v) s = .next t
            ∧ (t.chan (portOf v)).state = .armed ∧ (t.chan (portOf v)).work = some r))
      ∧ (∀ e o j l c hd fl n, h.state = .trackWrite → h.stream = .track l c hd fl → d.sched.job = some j →
          j.kind = .formatTrack → j.running = true → j.requester = .format e → s.format? e = some (o, v) →
          o.phase = .posted → o.track = some n → (accepted ∨ d.timer.rej ≠ 3) → d.state ≠ .absent → d.state ≠ .empty →
          let complete : Prop := (l.g0 + l.spt * (37 + l.size + l.g3)) * l.bt ≤ (s.g - h.opened).toNat
          let ends (t : State) (code : Code) (detail tracks : Nat) : Prop :=
            ∃ o', t.order? e = some o' ∧ o'.stage = .finish ∧ o'.result = some ⟨code, detail, s.g⟩ ∧ o'.tracks = tracks
          ∃ t, exec (.indexPulse v) s = .next t ∧ (t.chan (portOf v)).state ≠ .trackWrite
            ∧ (o.fields.trackScope = true → d.state = .ready ∨ d.state = .blank → s.frameOf (s.trackKey v n) = none →
                (complete → ends t .ok 0 (o.tracks + 1)) ∧ (¬ complete → ends t .trackOverrun n o.tracks))
            ∧ (o.fields.trackScope = false → d.state = .formatting →
                (¬ complete → ends t .trackOverrun n o.tracks ∧ (t.drive v).state = .blank
                  ∧ (t.drive v).cause = .incomplete ∧ (t.drive v).layoutKnown = false)
                ∧ (complete → s.ctl ≠ .shedding → 77 * d.headCount ≤ n + 1 → ends t .ok 0 (o.tracks + 1)
                  ∧ (t.drive v).state = .ready ∧ (t.drive v).cause = .none ∧ (t.drive v).layoutKnown = true)
                ∧ (complete → s.ctl = .shedding → ends t .abandoned 0 (o.tracks + 1) ∧ (t.drive v).state = .blank
                  ∧ (t.drive v).cause = .incomplete ∧ (t.drive v).layoutKnown = false)
                ∧ (complete → s.ctl ≠ .shedding → n + 1 < 77 * d.headCount → 0 < d.headCount →
                  o.generation = d.generation → s.notQueued e → (t.drive v).state = .formatting
                  ∧ (∃ j', (t.drive v).sched.job = some j' ∧ j'.kind = .formatTrack ∧ j'.requester = .format e
                    ∧ j'.cylinder = (n + 1) / d.headCount ∧ j'.head = (n + 1) % d.headCount)
                  ∧ ∃ o', t.order? e = some o' ∧ o'.track = some (n + 1) ∧ o'.tracks = o.tracks + 1
                    ∧ o'.phase = .posted)))
      ∧ (∀ j b, h.state = .trackWrite → d.sched.job = some j → j.kind = .formatTrack → j.running = true →
          j.requester = .gone b → (accepted ∨ d.timer.rej ≠ 3) → .driveControl ∉ d.sched.busy →
          d.state = .ready ∨ d.state = .blank ∨ d.state = .formatting → s.noneWaiting →
          ∃ t, exec (.indexPulse v) s = .next t ∧ (t.chan (portOf v)).state ≠ .trackWrite
            ∧ (t.drive v).sched.job = none
            ∧ (b = true → d.state = .formatting → (t.drive v).state = .blank ∧ (t.drive v).cause = .incomplete
                ∧ (t.drive v).layoutKnown = false)
            ∧ (b = false ∨ d.state ≠ .formatting → (t.drive v).state = d.state ∧ (t.drive v).cause = d.cause
                ∧ (t.drive v).layoutKnown = d.layoutKnown)
            ∧ ∀ e o, .format e ∈ d.sched.busy → s.order? e = some o → o.phase = .busy →
                ∃ o', t.order? e = some o' ∧ o'.phase = .slotFree))
  ∧ (∀ (l : Layout) (c hd : Nat) (fl : Byte) (n : Nat), l.map.length = l.spt →
      ((Stream.track l c hd fl).recorded n).length = n
      ∧ ∀ i, l.g0 + l.spt * (37 + l.size + l.g3) ≤ i → i < n →
          ((Stream.track l c hd fl).recorded n)[i]? = some ⟨0xB4, false⟩)
  ∧ ∀ (v : DriveNo) (r : Request) (p : Word) (s : State), (s.chan (portOf v)).work = some r → r.drive = v →
      r.kind = .discover → (s.chan (portOf v)).state = .listen → (s.drive v).state = .discovery →
      Requester.driveControl ∉ (s.drive v).sched.busy → (s.drive v).timer.prev = some p →
      let d := s.drive v
      let period := (s.g - p).toNat
      let own := (s.chan (portOf v)).listen.filter fun x => x.id.cylinder == 0 && x.id.head == 0
      let again (t : State) (n : Nat) : Prop := (t.drive v).state = .discovery ∧ (t.drive v).revolution = n
        ∧ ∃ j, (t.drive v).sched.job = some j ∧ j.kind = .discover ∧ j.requester = .driveControl
          ∧ j.density = (if n % 2 = 1 then .mfm else .fm)
      let blank (t : State) (cause : Cause) : Prop := (t.drive v).state = .blank ∧ (t.drive v).cause = cause
        ∧ (t.drive v).layoutKnown = d.layoutKnown
      ∃ t, exec (.indexPulse v) s = .next t
        ∧ (period < 161667 ∨ 171667 < period → d.timer.rej ≠ 3 → again t d.revolution)
        ∧ (161667 ≤ period → period ≤ 171667 →
            (own = [] → d.revolution < 4 → again t (d.revolution + 1))
            ∧ (own = [] → 4 ≤ d.revolution → blank t .unformatted)
            ∧ ∀ x rest, own = x :: rest →
                let bt := r.density.byteTime
                let numbers := own.map fun y => y.id.sector.toNat
                let spt := numbers.length
                let size := 128 * 2 ^ x.id.size.toNat
                let round (a b : Nat) : Nat := (2 * a + b) / (2 * b)
                let last := (own.getLastD x).mark
                ((∃ y ∈ own, y.id.size ≠ x.id.size) → blank t .mixed)
                ∧ ((∀ y ∈ own, y.id.size = x.id.size) → ¬ numbers.Nodup → blank t .illegal)
                ∧ ∀ first, first ∈ numbers → (∀ n ∈ numbers, first ≤ n) →
                    (∀ y ∈ own, y.id.size = x.id.size) → numbers.Nodup →
                    ((∃ i, i < spt ∧ first + i ∉ numbers) → blank t .gapped)
                    ∧ ((∀ i, i < spt → first + i ∈ numbers) →
                        let l : Layout :=
                          { density := r.density, sizeCode := x.id.size.toNat, spt := spt, first := first
                            g0 := max 16 (min 80 (round x.mark bt - 8))
                            g3 := if 2 ≤ spt then
                                max 8 (min 80 (round (last - x.mark) ((spt - 1) * bt) - 37 - size)) else 8
                            map := numbers }
                        let legal := l.legal (workingPeriod (some (estimate d.timer.p16 period)))
                        (legal = false → blank t .illegal)
                        ∧ (legal = true → (t.drive v).state = .ready ∧ (t.drive v).cause = .none
                            ∧ (t.drive v).layoutKnown = true ∧ (t.drive v).timer.active = some l)))

/-! ### Choices -/

/-- The pick of R98 to R101: nothing servable, a RECAL job first, and otherwise the best of the candidates that compete, by
class, within it the arm target first, then in class 2 by age and cost and in the others by cost and age, and last by cylinder,
head and slot, a track job before slot 0. A release round (R41, R42): each drive of the
port answers with a fresh pick or NONE, and the better answer is granted. The burst (R43): the channel takes the next slot of
the track under the conditions of the rule, in SELECTING until that slot's arming time (log 30), else it returns to IDLE. -/
def Obligations.PicksRoundsAndBursts : Prop :=
  (∀ (s : State) (v : DriveNo) (target : Option Place),
      let d := s.drive v
      let on (x : Cand) : Prop := x.place.cylinder = d.cylinder
      let armPick : Prop := (∀ x ∈ s.served v, ¬ on x) ∨ ∃ x ∈ s.served v, ¬ on x ∧ s.overdue x = true
      let competes (x : Cand) : Prop := x ∈ s.served v ∧ (armPick ∨ on x)
      let cls (x : Cand) (n : Nat) : Prop :=
        n = if x.kind = .recal then 1 else if s.overdue x = true then 2
          else if x.place.slot = none ∧ ¬ armPick then 3 else if x.rush = true then 4 else 5
      let before (x y : Place) : Prop := x.cylinder < y.cylinder ∨ (x.cylinder = y.cylinder
        ∧ (x.head < y.head ∨ (x.head = y.head
          ∧ (x.slot = none ∨ ∃ j k, x.slot = some j ∧ y.slot = some k ∧ j ≤ k))))
      let older (x y : Cand) (rest : Prop) : Prop :=
        s.candAge y < s.candAge x ∨ (s.candAge y = s.candAge x ∧ rest)
      let cheaper (x y : Cand) (rest : Prop) : Prop :=
        s.cost v x < s.cost v y ∨ (s.cost v x = s.cost v y ∧ rest)
      let best (x : Cand) : Prop := competes x ∧ ∀ y m n, competes y → cls x m → cls y n →
        m ≤ n ∧ (m = n → (target = some y.place → target = some x.place)
          ∧ ((target = some x.place ↔ target = some y.place) →
            (m = 2 → older x y (cheaper x y (before x.place y.place)))
            ∧ (m ≠ 2 → cheaper x y (older x y (before x.place y.place)))))
      (s.served v = [] → s.pick v target = .nothing)
      ∧ ((∃ x ∈ s.served v, x.kind = .recal) → s.pick v target = .recal)
      ∧ (s.served v ≠ [] → (∀ x ∈ s.served v, x.kind ≠ .recal) → ∃ x, best x
          ∧ (on x → ∃ b, (b = true ↔ armPick) ∧ s.pick v target = .file x (s.cost v x) (s.overdue x) b)
          ∧ (¬ on x → s.pick v target = .move x)))
  ∧ (∀ (s : State) (p : PortNo), (s.chan p).acrossRestart = false →
      let u := (Ctx.of s).toIdle p
      let c := (u.answerRound (lowDrive p)).answerRound (highDrive p)
      let t := u.releaseRound p
      let granted (a : Request) : Prop := (t.chan p).work = some a ∧ (t.chan p).state = .selecting ∧ (t.chan p).burst = 1
        ∧ (t.drive a.drive).sched.state = .served
      (u.chan p).state = .idle ∧ (u.chan p).work = none ∧ (u.chan p).roundOpen = true
      ∧ (u.chan p).pendLow = none ∧ (u.chan p).pendHigh = none
      ∧ (t.chan p).roundOpen = false ∧ (t.chan p).pendLow = none ∧ (t.chan p).pendHigh = none
      ∧ ((c.chan p).pendLow = none → (c.chan p).pendHigh = none → (t.chan p).state = .idle ∧ (t.chan p).work = none)
      ∧ (∀ a, (c.chan p).pendLow = some a → (c.chan p).pendHigh = none → granted a)
      ∧ (∀ b, (c.chan p).pendLow = none → (c.chan p).pendHigh = some b → granted b)
      ∧ (∀ a b, (c.chan p).pendLow = some a → (c.chan p).pendHigh = some b →
          let x := (a.start - s.g).toInt
          let y := (b.start - s.g).toInt
          (x < y → granted a) ∧ (y < x → granted b)
          ∧ (x = y → a.overdue = true → b.overdue = false → granted a)
          ∧ (x = y → a.overdue = false → b.overdue = true → granted b)
          ∧ (x = y → a.overdue = b.overdue → a.rush = true → b.rush = false → granted a)
          ∧ (x = y → a.overdue = b.overdue → a.rush = false → b.rush = true → granted b)
          ∧ (x = y → a.overdue = b.overdue → a.rush = b.rush →
              (a.drive ≤ b.drive → granted a) ∧ (b.drive < a.drive → granted b)))
      ∧ ∀ v, portOf v = p →
          let x := (s.drive v).sched
          let none' : Prop := x.state = .moving ∨ x.state = .recalibrating ∨ x.hold = true
          (none' ∨ (s.drive v).state = .absent ∨ (s.drive v).state = .empty ∨ (s.drive v).state = .fault →
            ((u.answerRound v).chan p).pend v = none)
          ∧ (∀ y cost overdue b, ¬ none' → s.pick v none = .file y cost overdue b →
              ∃ a, ((u.answerRound v).chan p).pend v = some a ∧ a.drive = v ∧ a.kind = y.kind
                ∧ a.cylinder = y.place.cylinder ∧ a.head = y.place.head ∧ a.slot = y.place.slot.getD 0
                ∧ a.start = s.g + BitVec.ofNat 32 cost ∧ a.overdue = overdue ∧ a.rush = y.rush))
  ∧ ∀ (s : State) (p : PortNo) (r : Request),
      let d := s.drive r.drive
      let h := s.chan p
      let k := r.slot + 1
      let t := (Ctx.of s).burstQuery p r
      let goesOn (y : Cand) (l : Layout) : Prop := (∃ cost overdue b, s.pick r.drive none = .file y cost overdue b)
        ∧ d.timer.active = some l ∧ y.place = ⟨r.cylinder, r.head, some k⟩ ∧ k + 1 ≤ l.spt ∧ h.burst < 8
        ∧ d.timer.phi + 100 ≤ (l.g0 + k * (37 + l.size + l.g3)) * l.bt
      (∀ outcome : Outcome, outcome.keepsBurst = true ↔
        outcome = .good ∨ outcome = .crcError ∨ outcome = .checkMismatch)
      ∧ (∀ y l, goesOn y l → (t.chan p).state = .selecting ∧ (t.chan p).burst = h.burst + 1
          ∧ (t.chan p).selected = h.selected ∧ (t.chan p).roundOpen = h.roundOpen
          ∧ (t.chan p).arming =
              s.g + BitVec.ofNat 32 ((l.g0 + k * (37 + l.size + l.g3)) * l.bt - 100 - d.timer.phi)
          ∧ ∃ r', (t.chan p).work = some r' ∧ r'.drive = r.drive ∧ r'.kind = y.kind ∧ r'.cylinder = r.cylinder
            ∧ r'.head = r.head ∧ r'.slot = k ∧ r'.start = (t.chan p).arming)
      ∧ ((∀ y l, ¬ goesOn y l) → t = (Ctx.of s).toIdle p)

/-- The victim of an eviction (R65): an evictable frame with the oldest LRU stamp, ages bounded at 2^30, the lower-numbered
among equal ages; none only where no frame is evictable. The service of the Frame Wait Queue (R63, R64, R67, R85): the walk
from the oldest entry, and at each entry the refusals, the grant of the key's own frame, of a FREE frame or of the victim,
and the entries left behind one that no frame could be given. That an entry is refused also where none could be granted is
log 47. -/
def Obligations.FramesForWaiters : Prop :=
  (∀ s : State,
      let age (f : FrameNo) : Nat := min 1073741824 ((s.g - (s.frame f).lru).toNat)
      let evictable (f : FrameNo) : Prop := (s.frame f).held = true ∧ (s.frame f).uses = 0
        ∧ ∀ x ∈ (s.frame f).sectors, x.state = .absent ∨ x.state = .valid ∨ x.state = .bad
      (∀ f, s.victim? = some f → evictable f ∧ ∀ g, evictable g → age g < age f ∨ (age g = age f ∧ f ≤ g))
      ∧ (s.victim? = none → ∀ f, ¬ evictable f))
  ∧ (∀ (s : State) (w : Waiting) (ws : List Waiting), s.fwq = w :: ws → (Ctx.of s).serveQueue =
      (ws.foldl serveOne (serveOne ({ Ctx.of s with serve := false }, false) w)).1)
  ∧ (∀ s : State, (∀ f, (s.frame f).held = true) → s.victim? = none →
      (∀ w ∈ s.fwq, s.frameOf w.key = none ∧ (s.drive w.key.drive).layoutKnown = true
        ∧ (s.drive w.key.drive).state = .ready ∧ w.generation = (s.drive w.key.drive).generation) →
      (Ctx.of s).serveQueue = Ctx.of s)
  ∧ ∀ (s : State) (w : Waiting) (blocked : Bool) (o : Order), s.order? w.order = some o → o.stage = .frame →
      let d := s.drive w.key.drive
      let t := serveOne (Ctx.of s, blocked) w
      let refused (code : Code) : Prop := t.2 = blocked ∧ (∀ x ∈ t.1.fwq, x.order ≠ w.order)
        ∧ ∃ o', t.1.order? w.order = some o' ∧ o'.stage = .finish ∧ o'.result = some ⟨code, o.partBlock, s.g⟩
      let granted (f : FrameNo) : Prop := t.1.fwq = s.fwq.filter (fun x => x.order ≠ w.order)
        ∧ (∀ f', f' ≠ f → t.1.frame f' = s.frame f')
        ∧ ∃ o', t.1.order? w.order = some o' ∧ o'.frame = some f
          ∧ o'.stage = (if o.fields.kind? = some .read then .fill else .fetch)
      let allocated (f : FrameNo) (l : Layout) : Prop := t.2 = false ∧ granted f ∧ t.1.frame f =
        { held := true, key := w.key, generation := d.generation, density := l.density, sizeCode := l.sizeCode
          spt := l.spt, first := l.first, slotMap := l.map, area := (s.frame f).area, uses := 1, lru := s.g
          sectors := l.map.map fun n =>
            { state := .absent, number := n, dataVer := 0, writtenVer := 0, settledVer := 0, writtenCrc := 0
              stamp := s.g, rush := false, attempts := 0, redirty := false, verify := false, check := false
              cause := .write } }
      (d.layoutKnown = false ∨ d.state ≠ .ready → refused .notReady)
      ∧ (d.layoutKnown = true → d.state = .ready → w.generation ≠ d.generation → refused .mediaChanged)
      ∧ (d.layoutKnown = true → d.state = .ready → w.generation = d.generation →
          (∀ f, s.frameOf w.key = some f → t.2 = blocked ∧ granted f
            ∧ t.1.frame f = { s.frame f with uses := (s.frame f).uses + 1, lru := s.g })
          ∧ (s.frameOf w.key = none → blocked = true → t = (Ctx.of s, true))
          ∧ (∀ l, s.frameOf w.key = none → blocked = false → d.timer.active = some l →
              (∀ f, (s.frame f).held = false → (∀ f', f' < f → (s.frame f').held = true) → allocated f l)
              ∧ (∀ f, (∀ f', (s.frame f').held = true) → s.victim? = some f → allocated f l)
              ∧ ((∀ f', (s.frame f').held = true) → s.victim? = none → t = (Ctx.of s, true))))

/-! ### What every step keeps -/

/-- The Lock Table keeps its bounds, every lock a holder and an EDIT lock one, and two locks that overlap are both SHARE
(R155, R156, R160). -/
def Obligations.LocksKept : Prop :=
  ∀ s t : State, s.lockBounds → s.locksHeld → s.locksExclusive → step s = .next t →
    t.lockBounds ∧ t.locksHeld ∧ t.locksExclusive

/-- The memories keep their canonical form, and the timers and estimates their ranges (R26, R28, R30). -/
def Obligations.MemoriesAndTimersKept : Prop :=
  ∀ s t : State, step s = .next t → (s.memoriesWf → t.memoriesWf) ∧ (s.timersInRange → t.timersInRange)

/-- No two HELD frames come to carry the same key (R63). -/
def Obligations.FrameKeysKept : Prop :=
  ∀ s t : State, s.keysDistinct → step s = .next t → t.keysDistinct

/-- A desk never has more than four orders in flight (R121), and RUN is clear in STOPPED and DRAINING and set in RUNNING
(R181 to R186). -/
def Obligations.WindowsAndRunKept : Prop :=
  ∀ s t : State, step s = .next t → (s.windowsKept → t.windowsKept) ∧ (s.runMatches → t.runMatches)

/-- The generation of a drive moves only at a media load, by one, or falls to 0 at power-on (R4, R11). -/
def Obligations.GenerationMovesAtMediaLoads : Prop :=
  ∀ (i : Instr) (s t : State) (v : DriveNo), exec i s = .next t → (t.drive v).generation ≠ (s.drive v).generation →
    (i = .powerOn ∧ (t.drive v).generation = 0)
    ∨ (((∃ wp ts, i = .mediaLoad v wp ts) ∨ ∃ wp ts, i = .probeSettled v wp ts)
      ∧ (t.drive v).generation = (s.drive v).generation + 1)

/-- The state after power-on meets every invariant above (R181). -/
def Obligations.ResetMeetsTheInvariants : Prop :=
  State.reset.lockBounds ∧ State.reset.locksHeld ∧ State.reset.locksExclusive ∧ State.reset.memoriesWf
  ∧ State.reset.timersInRange ∧ State.reset.keysDistinct ∧ State.reset.windowsKept ∧ State.reset.runMatches
end

