-- ==== Sys2Proof/Laws/State.lean ====
section
/-! SUPPORT. What each update of the state leaves and sets, field by field (all by rfl), and reading back what an update
wrote. -/

namespace Sys2Proof.Machine

open Sys2Proof

/-! ### setDrive -/

@[simp] theorem Ctx.setDrive_g (c : Ctx) (v : DriveNo) (d : Drive) : (c.setDrive v d).g = c.g := rfl
@[simp] theorem Ctx.setDrive_ctl (c : Ctx) (v : DriveNo) (d : Drive) : (c.setDrive v d).ctl = c.ctl := rfl
@[simp] theorem Ctx.setDrive_run (c : Ctx) (v : DriveNo) (d : Drive) : (c.setDrive v d).run = c.run := rfl
@[simp] theorem Ctx.setDrive_driveNotice (c : Ctx) (v : DriveNo) (d : Drive) : (c.setDrive v d).driveNotice = c.driveNotice := rfl
@[simp] theorem Ctx.setDrive_startCode (c : Ctx) (v : DriveNo) (d : Drive) : (c.setDrive v d).startCode = c.startCode := rfl
@[simp] theorem Ctx.setDrive_tableBase (c : Ctx) (v : DriveNo) (d : Drive) : (c.setDrive v d).tableBase = c.tableBase := rfl
@[simp] theorem Ctx.setDrive_runBase (c : Ctx) (v : DriveNo) (d : Drive) : (c.setDrive v d).runBase = c.runBase := rfl
@[simp] theorem Ctx.setDrive_notice (c : Ctx) (v : DriveNo) (d : Drive) : (c.setDrive v d).notice = c.notice := rfl
@[simp] theorem Ctx.setDrive_noticeEnable (c : Ctx) (v : DriveNo) (d : Drive) : (c.setDrive v d).noticeEnable = c.noticeEnable := rfl
@[simp] theorem Ctx.setDrive_warning (c : Ctx) (v : DriveNo) (d : Drive) : (c.setDrive v d).warning = c.warning := rfl
@[simp] theorem Ctx.setDrive_start (c : Ctx) (v : DriveNo) (d : Drive) : (c.setDrive v d).start = c.start := rfl
@[simp] theorem Ctx.setDrive_header (c : Ctx) (v : DriveNo) (d : Drive) : (c.setDrive v d).header = c.header := rfl
@[simp] theorem Ctx.setDrive_snapTimer (c : Ctx) (v : DriveNo) (d : Drive) : (c.setDrive v d).snapTimer = c.snapTimer := rfl
@[simp] theorem Ctx.setDrive_channels (c : Ctx) (v : DriveNo) (d : Drive) : (c.setDrive v d).channels = c.channels := rfl
@[simp] theorem Ctx.setDrive_frames (c : Ctx) (v : DriveNo) (d : Drive) : (c.setDrive v d).frames = c.frames := rfl
@[simp] theorem Ctx.setDrive_fwq (c : Ctx) (v : DriveNo) (d : Drive) : (c.setDrive v d).fwq = c.fwq := rfl
@[simp] theorem Ctx.setDrive_quiet (c : Ctx) (v : DriveNo) (d : Drive) : (c.setDrive v d).quiet = c.quiet := rfl
@[simp] theorem Ctx.setDrive_table (c : Ctx) (v : DriveNo) (d : Drive) : (c.setDrive v d).table = c.table := rfl
@[simp] theorem Ctx.setDrive_tableWait (c : Ctx) (v : DriveNo) (d : Drive) : (c.setDrive v d).tableWait = c.tableWait := rfl
@[simp] theorem Ctx.setDrive_desks (c : Ctx) (v : DriveNo) (d : Drive) : (c.setDrive v d).desks = c.desks := rfl
@[simp] theorem Ctx.setDrive_locks (c : Ctx) (v : DriveNo) (d : Drive) : (c.setDrive v d).locks = c.locks := rfl
@[simp] theorem Ctx.setDrive_waiters (c : Ctx) (v : DriveNo) (d : Drive) : (c.setDrive v d).waiters = c.waiters := rfl
@[simp] theorem Ctx.setDrive_orphans (c : Ctx) (v : DriveNo) (d : Drive) : (c.setDrive v d).orphans = c.orphans := rfl
@[simp] theorem Ctx.setDrive_mem (c : Ctx) (v : DriveNo) (d : Drive) : (c.setDrive v d).mem = c.mem := rfl
@[simp] theorem Ctx.setDrive_pending (c : Ctx) (v : DriveNo) (d : Drive) : (c.setDrive v d).pending = c.pending := rfl
@[simp] theorem Ctx.setDrive_serve (c : Ctx) (v : DriveNo) (d : Drive) : (c.setDrive v d).serve = c.serve := rfl
@[simp] theorem Ctx.setDrive_picks (c : Ctx) (v : DriveNo) (d : Drive) : (c.setDrive v d).picks = c.picks := rfl
@[simp] theorem Ctx.setDrive_rounds (c : Ctx) (v : DriveNo) (d : Drive) : (c.setDrive v d).rounds = c.rounds := rfl

/-! ### setChan -/

@[simp] theorem Ctx.setChan_g (c : Ctx) (p : PortNo) (h : Channel) : (c.setChan p h).g = c.g := rfl
@[simp] theorem Ctx.setChan_ctl (c : Ctx) (p : PortNo) (h : Channel) : (c.setChan p h).ctl = c.ctl := rfl
@[simp] theorem Ctx.setChan_run (c : Ctx) (p : PortNo) (h : Channel) : (c.setChan p h).run = c.run := rfl
@[simp] theorem Ctx.setChan_driveNotice (c : Ctx) (p : PortNo) (h : Channel) : (c.setChan p h).driveNotice = c.driveNotice := rfl
@[simp] theorem Ctx.setChan_startCode (c : Ctx) (p : PortNo) (h : Channel) : (c.setChan p h).startCode = c.startCode := rfl
@[simp] theorem Ctx.setChan_tableBase (c : Ctx) (p : PortNo) (h : Channel) : (c.setChan p h).tableBase = c.tableBase := rfl
@[simp] theorem Ctx.setChan_runBase (c : Ctx) (p : PortNo) (h : Channel) : (c.setChan p h).runBase = c.runBase := rfl
@[simp] theorem Ctx.setChan_notice (c : Ctx) (p : PortNo) (h : Channel) : (c.setChan p h).notice = c.notice := rfl
@[simp] theorem Ctx.setChan_noticeEnable (c : Ctx) (p : PortNo) (h : Channel) : (c.setChan p h).noticeEnable = c.noticeEnable := rfl
@[simp] theorem Ctx.setChan_warning (c : Ctx) (p : PortNo) (h : Channel) : (c.setChan p h).warning = c.warning := rfl
@[simp] theorem Ctx.setChan_start (c : Ctx) (p : PortNo) (h : Channel) : (c.setChan p h).start = c.start := rfl
@[simp] theorem Ctx.setChan_header (c : Ctx) (p : PortNo) (h : Channel) : (c.setChan p h).header = c.header := rfl
@[simp] theorem Ctx.setChan_snapTimer (c : Ctx) (p : PortNo) (h : Channel) : (c.setChan p h).snapTimer = c.snapTimer := rfl
@[simp] theorem Ctx.setChan_drives (c : Ctx) (p : PortNo) (h : Channel) : (c.setChan p h).drives = c.drives := rfl
@[simp] theorem Ctx.setChan_frames (c : Ctx) (p : PortNo) (h : Channel) : (c.setChan p h).frames = c.frames := rfl
@[simp] theorem Ctx.setChan_fwq (c : Ctx) (p : PortNo) (h : Channel) : (c.setChan p h).fwq = c.fwq := rfl
@[simp] theorem Ctx.setChan_quiet (c : Ctx) (p : PortNo) (h : Channel) : (c.setChan p h).quiet = c.quiet := rfl
@[simp] theorem Ctx.setChan_table (c : Ctx) (p : PortNo) (h : Channel) : (c.setChan p h).table = c.table := rfl
@[simp] theorem Ctx.setChan_tableWait (c : Ctx) (p : PortNo) (h : Channel) : (c.setChan p h).tableWait = c.tableWait := rfl
@[simp] theorem Ctx.setChan_desks (c : Ctx) (p : PortNo) (h : Channel) : (c.setChan p h).desks = c.desks := rfl
@[simp] theorem Ctx.setChan_locks (c : Ctx) (p : PortNo) (h : Channel) : (c.setChan p h).locks = c.locks := rfl
@[simp] theorem Ctx.setChan_waiters (c : Ctx) (p : PortNo) (h : Channel) : (c.setChan p h).waiters = c.waiters := rfl
@[simp] theorem Ctx.setChan_orphans (c : Ctx) (p : PortNo) (h : Channel) : (c.setChan p h).orphans = c.orphans := rfl
@[simp] theorem Ctx.setChan_mem (c : Ctx) (p : PortNo) (h : Channel) : (c.setChan p h).mem = c.mem := rfl
@[simp] theorem Ctx.setChan_pending (c : Ctx) (p : PortNo) (h : Channel) : (c.setChan p h).pending = c.pending := rfl
@[simp] theorem Ctx.setChan_serve (c : Ctx) (p : PortNo) (h : Channel) : (c.setChan p h).serve = c.serve := rfl
@[simp] theorem Ctx.setChan_picks (c : Ctx) (p : PortNo) (h : Channel) : (c.setChan p h).picks = c.picks := rfl
@[simp] theorem Ctx.setChan_rounds (c : Ctx) (p : PortNo) (h : Channel) : (c.setChan p h).rounds = c.rounds := rfl

/-! ### setDesk -/

@[simp] theorem Ctx.setDesk_g (c : Ctx) (d : DeskNo) (k : Desk) : (c.setDesk d k).g = c.g := rfl
@[simp] theorem Ctx.setDesk_ctl (c : Ctx) (d : DeskNo) (k : Desk) : (c.setDesk d k).ctl = c.ctl := rfl
@[simp] theorem Ctx.setDesk_run (c : Ctx) (d : DeskNo) (k : Desk) : (c.setDesk d k).run = c.run := rfl
@[simp] theorem Ctx.setDesk_driveNotice (c : Ctx) (d : DeskNo) (k : Desk) : (c.setDesk d k).driveNotice = c.driveNotice := rfl
@[simp] theorem Ctx.setDesk_startCode (c : Ctx) (d : DeskNo) (k : Desk) : (c.setDesk d k).startCode = c.startCode := rfl
@[simp] theorem Ctx.setDesk_tableBase (c : Ctx) (d : DeskNo) (k : Desk) : (c.setDesk d k).tableBase = c.tableBase := rfl
@[simp] theorem Ctx.setDesk_runBase (c : Ctx) (d : DeskNo) (k : Desk) : (c.setDesk d k).runBase = c.runBase := rfl
@[simp] theorem Ctx.setDesk_notice (c : Ctx) (d : DeskNo) (k : Desk) : (c.setDesk d k).notice = c.notice := rfl
@[simp] theorem Ctx.setDesk_noticeEnable (c : Ctx) (d : DeskNo) (k : Desk) : (c.setDesk d k).noticeEnable = c.noticeEnable := rfl
@[simp] theorem Ctx.setDesk_warning (c : Ctx) (d : DeskNo) (k : Desk) : (c.setDesk d k).warning = c.warning := rfl
@[simp] theorem Ctx.setDesk_start (c : Ctx) (d : DeskNo) (k : Desk) : (c.setDesk d k).start = c.start := rfl
@[simp] theorem Ctx.setDesk_header (c : Ctx) (d : DeskNo) (k : Desk) : (c.setDesk d k).header = c.header := rfl
@[simp] theorem Ctx.setDesk_snapTimer (c : Ctx) (d : DeskNo) (k : Desk) : (c.setDesk d k).snapTimer = c.snapTimer := rfl
@[simp] theorem Ctx.setDesk_drives (c : Ctx) (d : DeskNo) (k : Desk) : (c.setDesk d k).drives = c.drives := rfl
@[simp] theorem Ctx.setDesk_channels (c : Ctx) (d : DeskNo) (k : Desk) : (c.setDesk d k).channels = c.channels := rfl
@[simp] theorem Ctx.setDesk_frames (c : Ctx) (d : DeskNo) (k : Desk) : (c.setDesk d k).frames = c.frames := rfl
@[simp] theorem Ctx.setDesk_fwq (c : Ctx) (d : DeskNo) (k : Desk) : (c.setDesk d k).fwq = c.fwq := rfl
@[simp] theorem Ctx.setDesk_quiet (c : Ctx) (d : DeskNo) (k : Desk) : (c.setDesk d k).quiet = c.quiet := rfl
@[simp] theorem Ctx.setDesk_table (c : Ctx) (d : DeskNo) (k : Desk) : (c.setDesk d k).table = c.table := rfl
@[simp] theorem Ctx.setDesk_tableWait (c : Ctx) (d : DeskNo) (k : Desk) : (c.setDesk d k).tableWait = c.tableWait := rfl
@[simp] theorem Ctx.setDesk_locks (c : Ctx) (d : DeskNo) (k : Desk) : (c.setDesk d k).locks = c.locks := rfl
@[simp] theorem Ctx.setDesk_waiters (c : Ctx) (d : DeskNo) (k : Desk) : (c.setDesk d k).waiters = c.waiters := rfl
@[simp] theorem Ctx.setDesk_orphans (c : Ctx) (d : DeskNo) (k : Desk) : (c.setDesk d k).orphans = c.orphans := rfl
@[simp] theorem Ctx.setDesk_mem (c : Ctx) (d : DeskNo) (k : Desk) : (c.setDesk d k).mem = c.mem := rfl
@[simp] theorem Ctx.setDesk_pending (c : Ctx) (d : DeskNo) (k : Desk) : (c.setDesk d k).pending = c.pending := rfl
@[simp] theorem Ctx.setDesk_serve (c : Ctx) (d : DeskNo) (k : Desk) : (c.setDesk d k).serve = c.serve := rfl
@[simp] theorem Ctx.setDesk_picks (c : Ctx) (d : DeskNo) (k : Desk) : (c.setDesk d k).picks = c.picks := rfl
@[simp] theorem Ctx.setDesk_rounds (c : Ctx) (d : DeskNo) (k : Desk) : (c.setDesk d k).rounds = c.rounds := rfl

/-! ### setSlot -/

@[simp] theorem Ctx.setSlot_g (c : Ctx) (e : EntryNo) (x : Slot) : (c.setSlot e x).g = c.g := rfl
@[simp] theorem Ctx.setSlot_ctl (c : Ctx) (e : EntryNo) (x : Slot) : (c.setSlot e x).ctl = c.ctl := rfl
@[simp] theorem Ctx.setSlot_run (c : Ctx) (e : EntryNo) (x : Slot) : (c.setSlot e x).run = c.run := rfl
@[simp] theorem Ctx.setSlot_driveNotice (c : Ctx) (e : EntryNo) (x : Slot) : (c.setSlot e x).driveNotice = c.driveNotice := rfl
@[simp] theorem Ctx.setSlot_startCode (c : Ctx) (e : EntryNo) (x : Slot) : (c.setSlot e x).startCode = c.startCode := rfl
@[simp] theorem Ctx.setSlot_tableBase (c : Ctx) (e : EntryNo) (x : Slot) : (c.setSlot e x).tableBase = c.tableBase := rfl
@[simp] theorem Ctx.setSlot_runBase (c : Ctx) (e : EntryNo) (x : Slot) : (c.setSlot e x).runBase = c.runBase := rfl
@[simp] theorem Ctx.setSlot_notice (c : Ctx) (e : EntryNo) (x : Slot) : (c.setSlot e x).notice = c.notice := rfl
@[simp] theorem Ctx.setSlot_noticeEnable (c : Ctx) (e : EntryNo) (x : Slot) : (c.setSlot e x).noticeEnable = c.noticeEnable := rfl
@[simp] theorem Ctx.setSlot_warning (c : Ctx) (e : EntryNo) (x : Slot) : (c.setSlot e x).warning = c.warning := rfl
@[simp] theorem Ctx.setSlot_start (c : Ctx) (e : EntryNo) (x : Slot) : (c.setSlot e x).start = c.start := rfl
@[simp] theorem Ctx.setSlot_header (c : Ctx) (e : EntryNo) (x : Slot) : (c.setSlot e x).header = c.header := rfl
@[simp] theorem Ctx.setSlot_snapTimer (c : Ctx) (e : EntryNo) (x : Slot) : (c.setSlot e x).snapTimer = c.snapTimer := rfl
@[simp] theorem Ctx.setSlot_drives (c : Ctx) (e : EntryNo) (x : Slot) : (c.setSlot e x).drives = c.drives := rfl
@[simp] theorem Ctx.setSlot_channels (c : Ctx) (e : EntryNo) (x : Slot) : (c.setSlot e x).channels = c.channels := rfl
@[simp] theorem Ctx.setSlot_frames (c : Ctx) (e : EntryNo) (x : Slot) : (c.setSlot e x).frames = c.frames := rfl
@[simp] theorem Ctx.setSlot_fwq (c : Ctx) (e : EntryNo) (x : Slot) : (c.setSlot e x).fwq = c.fwq := rfl
@[simp] theorem Ctx.setSlot_quiet (c : Ctx) (e : EntryNo) (x : Slot) : (c.setSlot e x).quiet = c.quiet := rfl
@[simp] theorem Ctx.setSlot_tableWait (c : Ctx) (e : EntryNo) (x : Slot) : (c.setSlot e x).tableWait = c.tableWait := rfl
@[simp] theorem Ctx.setSlot_desks (c : Ctx) (e : EntryNo) (x : Slot) : (c.setSlot e x).desks = c.desks := rfl
@[simp] theorem Ctx.setSlot_locks (c : Ctx) (e : EntryNo) (x : Slot) : (c.setSlot e x).locks = c.locks := rfl
@[simp] theorem Ctx.setSlot_waiters (c : Ctx) (e : EntryNo) (x : Slot) : (c.setSlot e x).waiters = c.waiters := rfl
@[simp] theorem Ctx.setSlot_orphans (c : Ctx) (e : EntryNo) (x : Slot) : (c.setSlot e x).orphans = c.orphans := rfl
@[simp] theorem Ctx.setSlot_mem (c : Ctx) (e : EntryNo) (x : Slot) : (c.setSlot e x).mem = c.mem := rfl
@[simp] theorem Ctx.setSlot_pending (c : Ctx) (e : EntryNo) (x : Slot) : (c.setSlot e x).pending = c.pending := rfl
@[simp] theorem Ctx.setSlot_serve (c : Ctx) (e : EntryNo) (x : Slot) : (c.setSlot e x).serve = c.serve := rfl
@[simp] theorem Ctx.setSlot_picks (c : Ctx) (e : EntryNo) (x : Slot) : (c.setSlot e x).picks = c.picks := rfl
@[simp] theorem Ctx.setSlot_rounds (c : Ctx) (e : EntryNo) (x : Slot) : (c.setSlot e x).rounds = c.rounds := rfl

/-! ### setNotice -/

@[simp] theorem Ctx.setNotice_g (c : Ctx) (bit : Nat) : (c.setNotice bit).g = c.g := rfl
@[simp] theorem Ctx.setNotice_ctl (c : Ctx) (bit : Nat) : (c.setNotice bit).ctl = c.ctl := rfl
@[simp] theorem Ctx.setNotice_run (c : Ctx) (bit : Nat) : (c.setNotice bit).run = c.run := rfl
@[simp] theorem Ctx.setNotice_driveNotice (c : Ctx) (bit : Nat) : (c.setNotice bit).driveNotice = c.driveNotice := rfl
@[simp] theorem Ctx.setNotice_startCode (c : Ctx) (bit : Nat) : (c.setNotice bit).startCode = c.startCode := rfl
@[simp] theorem Ctx.setNotice_tableBase (c : Ctx) (bit : Nat) : (c.setNotice bit).tableBase = c.tableBase := rfl
@[simp] theorem Ctx.setNotice_runBase (c : Ctx) (bit : Nat) : (c.setNotice bit).runBase = c.runBase := rfl
@[simp] theorem Ctx.setNotice_noticeEnable (c : Ctx) (bit : Nat) : (c.setNotice bit).noticeEnable = c.noticeEnable := rfl
@[simp] theorem Ctx.setNotice_warning (c : Ctx) (bit : Nat) : (c.setNotice bit).warning = c.warning := rfl
@[simp] theorem Ctx.setNotice_start (c : Ctx) (bit : Nat) : (c.setNotice bit).start = c.start := rfl
@[simp] theorem Ctx.setNotice_header (c : Ctx) (bit : Nat) : (c.setNotice bit).header = c.header := rfl
@[simp] theorem Ctx.setNotice_snapTimer (c : Ctx) (bit : Nat) : (c.setNotice bit).snapTimer = c.snapTimer := rfl
@[simp] theorem Ctx.setNotice_drives (c : Ctx) (bit : Nat) : (c.setNotice bit).drives = c.drives := rfl
@[simp] theorem Ctx.setNotice_channels (c : Ctx) (bit : Nat) : (c.setNotice bit).channels = c.channels := rfl
@[simp] theorem Ctx.setNotice_frames (c : Ctx) (bit : Nat) : (c.setNotice bit).frames = c.frames := rfl
@[simp] theorem Ctx.setNotice_fwq (c : Ctx) (bit : Nat) : (c.setNotice bit).fwq = c.fwq := rfl
@[simp] theorem Ctx.setNotice_quiet (c : Ctx) (bit : Nat) : (c.setNotice bit).quiet = c.quiet := rfl
@[simp] theorem Ctx.setNotice_table (c : Ctx) (bit : Nat) : (c.setNotice bit).table = c.table := rfl
@[simp] theorem Ctx.setNotice_tableWait (c : Ctx) (bit : Nat) : (c.setNotice bit).tableWait = c.tableWait := rfl
@[simp] theorem Ctx.setNotice_desks (c : Ctx) (bit : Nat) : (c.setNotice bit).desks = c.desks := rfl
@[simp] theorem Ctx.setNotice_locks (c : Ctx) (bit : Nat) : (c.setNotice bit).locks = c.locks := rfl
@[simp] theorem Ctx.setNotice_waiters (c : Ctx) (bit : Nat) : (c.setNotice bit).waiters = c.waiters := rfl
@[simp] theorem Ctx.setNotice_orphans (c : Ctx) (bit : Nat) : (c.setNotice bit).orphans = c.orphans := rfl
@[simp] theorem Ctx.setNotice_mem (c : Ctx) (bit : Nat) : (c.setNotice bit).mem = c.mem := rfl
@[simp] theorem Ctx.setNotice_pending (c : Ctx) (bit : Nat) : (c.setNotice bit).pending = c.pending := rfl
@[simp] theorem Ctx.setNotice_serve (c : Ctx) (bit : Nat) : (c.setNotice bit).serve = c.serve := rfl
@[simp] theorem Ctx.setNotice_picks (c : Ctx) (bit : Nat) : (c.setNotice bit).picks = c.picks := rfl
@[simp] theorem Ctx.setNotice_rounds (c : Ctx) (bit : Nat) : (c.setNotice bit).rounds = c.rounds := rfl

/-! ### writeMem -/

@[simp] theorem Ctx.writeMem_g (c : Ctx) (a : Nat) (bs : List Byte) : (c.writeMem a bs).g = c.g := rfl
@[simp] theorem Ctx.writeMem_ctl (c : Ctx) (a : Nat) (bs : List Byte) : (c.writeMem a bs).ctl = c.ctl := rfl
@[simp] theorem Ctx.writeMem_run (c : Ctx) (a : Nat) (bs : List Byte) : (c.writeMem a bs).run = c.run := rfl
@[simp] theorem Ctx.writeMem_driveNotice (c : Ctx) (a : Nat) (bs : List Byte) : (c.writeMem a bs).driveNotice = c.driveNotice := rfl
@[simp] theorem Ctx.writeMem_startCode (c : Ctx) (a : Nat) (bs : List Byte) : (c.writeMem a bs).startCode = c.startCode := rfl
@[simp] theorem Ctx.writeMem_tableBase (c : Ctx) (a : Nat) (bs : List Byte) : (c.writeMem a bs).tableBase = c.tableBase := rfl
@[simp] theorem Ctx.writeMem_runBase (c : Ctx) (a : Nat) (bs : List Byte) : (c.writeMem a bs).runBase = c.runBase := rfl
@[simp] theorem Ctx.writeMem_notice (c : Ctx) (a : Nat) (bs : List Byte) : (c.writeMem a bs).notice = c.notice := rfl
@[simp] theorem Ctx.writeMem_noticeEnable (c : Ctx) (a : Nat) (bs : List Byte) : (c.writeMem a bs).noticeEnable = c.noticeEnable := rfl
@[simp] theorem Ctx.writeMem_warning (c : Ctx) (a : Nat) (bs : List Byte) : (c.writeMem a bs).warning = c.warning := rfl
@[simp] theorem Ctx.writeMem_start (c : Ctx) (a : Nat) (bs : List Byte) : (c.writeMem a bs).start = c.start := rfl
@[simp] theorem Ctx.writeMem_header (c : Ctx) (a : Nat) (bs : List Byte) : (c.writeMem a bs).header = c.header := rfl
@[simp] theorem Ctx.writeMem_snapTimer (c : Ctx) (a : Nat) (bs : List Byte) : (c.writeMem a bs).snapTimer = c.snapTimer := rfl
@[simp] theorem Ctx.writeMem_drives (c : Ctx) (a : Nat) (bs : List Byte) : (c.writeMem a bs).drives = c.drives := rfl
@[simp] theorem Ctx.writeMem_channels (c : Ctx) (a : Nat) (bs : List Byte) : (c.writeMem a bs).channels = c.channels := rfl
@[simp] theorem Ctx.writeMem_frames (c : Ctx) (a : Nat) (bs : List Byte) : (c.writeMem a bs).frames = c.frames := rfl
@[simp] theorem Ctx.writeMem_fwq (c : Ctx) (a : Nat) (bs : List Byte) : (c.writeMem a bs).fwq = c.fwq := rfl
@[simp] theorem Ctx.writeMem_quiet (c : Ctx) (a : Nat) (bs : List Byte) : (c.writeMem a bs).quiet = c.quiet := rfl
@[simp] theorem Ctx.writeMem_table (c : Ctx) (a : Nat) (bs : List Byte) : (c.writeMem a bs).table = c.table := rfl
@[simp] theorem Ctx.writeMem_tableWait (c : Ctx) (a : Nat) (bs : List Byte) : (c.writeMem a bs).tableWait = c.tableWait := rfl
@[simp] theorem Ctx.writeMem_desks (c : Ctx) (a : Nat) (bs : List Byte) : (c.writeMem a bs).desks = c.desks := rfl
@[simp] theorem Ctx.writeMem_locks (c : Ctx) (a : Nat) (bs : List Byte) : (c.writeMem a bs).locks = c.locks := rfl
@[simp] theorem Ctx.writeMem_waiters (c : Ctx) (a : Nat) (bs : List Byte) : (c.writeMem a bs).waiters = c.waiters := rfl
@[simp] theorem Ctx.writeMem_orphans (c : Ctx) (a : Nat) (bs : List Byte) : (c.writeMem a bs).orphans = c.orphans := rfl
@[simp] theorem Ctx.writeMem_pending (c : Ctx) (a : Nat) (bs : List Byte) : (c.writeMem a bs).pending = c.pending := rfl
@[simp] theorem Ctx.writeMem_serve (c : Ctx) (a : Nat) (bs : List Byte) : (c.writeMem a bs).serve = c.serve := rfl
@[simp] theorem Ctx.writeMem_picks (c : Ctx) (a : Nat) (bs : List Byte) : (c.writeMem a bs).picks = c.picks := rfl
@[simp] theorem Ctx.writeMem_rounds (c : Ctx) (a : Nat) (bs : List Byte) : (c.writeMem a bs).rounds = c.rounds := rfl

/-! ### Reading back -/

@[simp] theorem Ctx.setDrive_drive_self (c : Ctx) (v : DriveNo) (d : Drive) : (c.setDrive v d).drive v = d := by
  simp [Ctx.setDrive, State.drive]

theorem Ctx.setDrive_drive_ne (c : Ctx) (v v' : DriveNo) (d : Drive) (hne : v' ≠ v) :
    (c.setDrive v d).drive v' = c.drive v' := by
  have h1 : v.val ≠ v'.val := fun he => hne (Fin.ext he.symm)
  simp [Ctx.setDrive, State.drive, Vector.getElem_set_ne, h1]

theorem Ctx.setDrive_drive (c : Ctx) (v v' : DriveNo) (d : Drive) :
    (c.setDrive v d).drive v' = if v' = v then d else c.drive v' := by
  split
  · next hs => subst hs; simp
  · next hs => exact c.setDrive_drive_ne v v' d hs

@[simp] theorem Ctx.setChan_drive (c : Ctx) (p : PortNo) (h : Channel) (i : DriveNo) : (c.setChan p h).drive i = c.drive i := rfl
@[simp] theorem Ctx.setDesk_drive (c : Ctx) (d : DeskNo) (k : Desk) (i : DriveNo) : (c.setDesk d k).drive i = c.drive i := rfl
@[simp] theorem Ctx.setSlot_drive (c : Ctx) (e : EntryNo) (x : Slot) (i : DriveNo) : (c.setSlot e x).drive i = c.drive i := rfl
@[simp] theorem Ctx.setNotice_drive (c : Ctx) (bit : Nat) (i : DriveNo) : (c.setNotice bit).drive i = c.drive i := rfl
@[simp] theorem Ctx.writeMem_drive (c : Ctx) (a : Nat) (bs : List Byte) (i : DriveNo) : (c.writeMem a bs).drive i = c.drive i := rfl

@[simp] theorem Ctx.setChan_chan_self (c : Ctx) (p : PortNo) (h : Channel) : (c.setChan p h).chan p = h := by
  simp [Ctx.setChan, State.chan]

theorem Ctx.setChan_chan_ne (c : Ctx) (p p' : PortNo) (h : Channel) (hne : p' ≠ p) :
    (c.setChan p h).chan p' = c.chan p' := by
  have h1 : p.val ≠ p'.val := fun he => hne (Fin.ext he.symm)
  simp [Ctx.setChan, State.chan, Vector.getElem_set_ne, h1]

theorem Ctx.setChan_chan (c : Ctx) (p p' : PortNo) (h : Channel) :
    (c.setChan p h).chan p' = if p' = p then h else c.chan p' := by
  split
  · next hs => subst hs; simp
  · next hs => exact c.setChan_chan_ne p p' h hs

@[simp] theorem Ctx.setDrive_chan (c : Ctx) (v : DriveNo) (d : Drive) (i : PortNo) : (c.setDrive v d).chan i = c.chan i := rfl
@[simp] theorem Ctx.setDesk_chan (c : Ctx) (d : DeskNo) (k : Desk) (i : PortNo) : (c.setDesk d k).chan i = c.chan i := rfl
@[simp] theorem Ctx.setSlot_chan (c : Ctx) (e : EntryNo) (x : Slot) (i : PortNo) : (c.setSlot e x).chan i = c.chan i := rfl
@[simp] theorem Ctx.setNotice_chan (c : Ctx) (bit : Nat) (i : PortNo) : (c.setNotice bit).chan i = c.chan i := rfl
@[simp] theorem Ctx.writeMem_chan (c : Ctx) (a : Nat) (bs : List Byte) (i : PortNo) : (c.writeMem a bs).chan i = c.chan i := rfl

@[simp] theorem Ctx.setDesk_desk_self (c : Ctx) (d : DeskNo) (k : Desk) : (c.setDesk d k).desk d = k := by
  simp [Ctx.setDesk, State.desk]

theorem Ctx.setDesk_desk_ne (c : Ctx) (d d' : DeskNo) (k : Desk) (hne : d' ≠ d) :
    (c.setDesk d k).desk d' = c.desk d' := by
  have h1 : d.val ≠ d'.val := fun he => hne (Fin.ext he.symm)
  simp [Ctx.setDesk, State.desk, Vector.getElem_set_ne, h1]

theorem Ctx.setDesk_desk (c : Ctx) (d d' : DeskNo) (k : Desk) :
    (c.setDesk d k).desk d' = if d' = d then k else c.desk d' := by
  split
  · next hs => subst hs; simp
  · next hs => exact c.setDesk_desk_ne d d' k hs

@[simp] theorem Ctx.setDrive_desk (c : Ctx) (v : DriveNo) (d : Drive) (i : DeskNo) : (c.setDrive v d).desk i = c.desk i := rfl
@[simp] theorem Ctx.setChan_desk (c : Ctx) (p : PortNo) (h : Channel) (i : DeskNo) : (c.setChan p h).desk i = c.desk i := rfl
@[simp] theorem Ctx.setSlot_desk (c : Ctx) (e : EntryNo) (x : Slot) (i : DeskNo) : (c.setSlot e x).desk i = c.desk i := rfl
@[simp] theorem Ctx.setNotice_desk (c : Ctx) (bit : Nat) (i : DeskNo) : (c.setNotice bit).desk i = c.desk i := rfl
@[simp] theorem Ctx.writeMem_desk (c : Ctx) (a : Nat) (bs : List Byte) (i : DeskNo) : (c.writeMem a bs).desk i = c.desk i := rfl

@[simp] theorem Ctx.setSlot_slot_self (c : Ctx) (e : EntryNo) (x : Slot) : (c.setSlot e x).slot e = x := by
  simp [Ctx.setSlot, State.slot]

theorem Ctx.setSlot_slot_ne (c : Ctx) (e e' : EntryNo) (x : Slot) (hne : e' ≠ e) :
    (c.setSlot e x).slot e' = c.slot e' := by
  have h1 : e.val ≠ e'.val := fun he => hne (Fin.ext he.symm)
  simp [Ctx.setSlot, State.slot, Vector.getElem_set_ne, h1]

theorem Ctx.setSlot_slot (c : Ctx) (e e' : EntryNo) (x : Slot) :
    (c.setSlot e x).slot e' = if e' = e then x else c.slot e' := by
  split
  · next hs => subst hs; simp
  · next hs => exact c.setSlot_slot_ne e e' x hs

@[simp] theorem Ctx.setDrive_slot (c : Ctx) (v : DriveNo) (d : Drive) (i : EntryNo) : (c.setDrive v d).slot i = c.slot i := rfl
@[simp] theorem Ctx.setChan_slot (c : Ctx) (p : PortNo) (h : Channel) (i : EntryNo) : (c.setChan p h).slot i = c.slot i := rfl
@[simp] theorem Ctx.setDesk_slot (c : Ctx) (d : DeskNo) (k : Desk) (i : EntryNo) : (c.setDesk d k).slot i = c.slot i := rfl
@[simp] theorem Ctx.setNotice_slot (c : Ctx) (bit : Nat) (i : EntryNo) : (c.setNotice bit).slot i = c.slot i := rfl
@[simp] theorem Ctx.writeMem_slot (c : Ctx) (a : Nat) (bs : List Byte) (i : EntryNo) : (c.writeMem a bs).slot i = c.slot i := rfl

@[simp] theorem Ctx.of_toState (s : State) : (Ctx.of s).toState = s := rfl
@[simp] theorem Ctx.of_drive (s : State) (i : DriveNo) : (Ctx.of s).drive i = s.drive i := rfl
@[simp] theorem Ctx.of_chan (s : State) (i : PortNo) : (Ctx.of s).chan i = s.chan i := rfl
@[simp] theorem Ctx.of_desk (s : State) (i : DeskNo) : (Ctx.of s).desk i = s.desk i := rfl
@[simp] theorem Ctx.of_slot (s : State) (i : EntryNo) : (Ctx.of s).slot i = s.slot i := rfl
@[simp] theorem Ctx.of_frame (s : State) (i : FrameNo) : (Ctx.of s).frame i = s.frame i := rfl
@[simp] theorem Ctx.of_g (s : State) : (Ctx.of s).g = s.g := rfl
@[simp] theorem Ctx.of_ctl (s : State) : (Ctx.of s).ctl = s.ctl := rfl
@[simp] theorem Ctx.of_run (s : State) : (Ctx.of s).run = s.run := rfl
@[simp] theorem Ctx.of_driveNotice (s : State) : (Ctx.of s).driveNotice = s.driveNotice := rfl
@[simp] theorem Ctx.of_startCode (s : State) : (Ctx.of s).startCode = s.startCode := rfl
@[simp] theorem Ctx.of_tableBase (s : State) : (Ctx.of s).tableBase = s.tableBase := rfl
@[simp] theorem Ctx.of_runBase (s : State) : (Ctx.of s).runBase = s.runBase := rfl
@[simp] theorem Ctx.of_notice (s : State) : (Ctx.of s).notice = s.notice := rfl
@[simp] theorem Ctx.of_noticeEnable (s : State) : (Ctx.of s).noticeEnable = s.noticeEnable := rfl
@[simp] theorem Ctx.of_warning (s : State) : (Ctx.of s).warning = s.warning := rfl
@[simp] theorem Ctx.of_start (s : State) : (Ctx.of s).start = s.start := rfl
@[simp] theorem Ctx.of_header (s : State) : (Ctx.of s).header = s.header := rfl
@[simp] theorem Ctx.of_snapTimer (s : State) : (Ctx.of s).snapTimer = s.snapTimer := rfl
@[simp] theorem Ctx.of_drives (s : State) : (Ctx.of s).drives = s.drives := rfl
@[simp] theorem Ctx.of_channels (s : State) : (Ctx.of s).channels = s.channels := rfl
@[simp] theorem Ctx.of_frames (s : State) : (Ctx.of s).frames = s.frames := rfl
@[simp] theorem Ctx.of_fwq (s : State) : (Ctx.of s).fwq = s.fwq := rfl
@[simp] theorem Ctx.of_quiet (s : State) : (Ctx.of s).quiet = s.quiet := rfl
@[simp] theorem Ctx.of_table (s : State) : (Ctx.of s).table = s.table := rfl
@[simp] theorem Ctx.of_tableWait (s : State) : (Ctx.of s).tableWait = s.tableWait := rfl
@[simp] theorem Ctx.of_desks (s : State) : (Ctx.of s).desks = s.desks := rfl
@[simp] theorem Ctx.of_locks (s : State) : (Ctx.of s).locks = s.locks := rfl
@[simp] theorem Ctx.of_waiters (s : State) : (Ctx.of s).waiters = s.waiters := rfl
@[simp] theorem Ctx.of_orphans (s : State) : (Ctx.of s).orphans = s.orphans := rfl
@[simp] theorem Ctx.of_mem (s : State) : (Ctx.of s).mem = s.mem := rfl
@[simp] theorem Ctx.of_pending (s : State) : (Ctx.of s).pending = s.pending := rfl

/-! ### Desk entry writes (R112, R123) -/

/-- A desk stands in a fault exactly when it is HALTING or HALTED with a code. -/
theorem Desk.faultStands_iff (k : Desk) :
    k.faultStands = true ↔ (k.state = .halting ∨ k.state = .halted) ∧ k.fault ≠ .none := by
  simp [Desk.faultStands]

/-- A FETCHING desk stands in no fault. -/
theorem Desk.faultStands_fetching {k : Desk} (h : k.state = .fetching) : k.faultStands = false := by
  simp [Desk.faultStands, h]

/-- An IDLE desk stands in no fault. -/
theorem Desk.faultStands_idle {k : Desk} (h : k.state = .idle) : k.faultStands = false := by
  simp [Desk.faultStands, h]

/-- All that the beginning of an entry write does: a desk of the run gets one more write, of its present values, with the
mark that drops a bus error on it. -/
theorem Ctx.beginEntryWrite_eq (c : Ctx) (d : DeskNo) (restart : Bool) :
    c.beginEntryWrite d restart = if c.deskInRun d then
      c.setDesk d { c.desk d with entryWrites := (c.desk d).entryWrites ++
        [⟨deskEntryAddr c.runBase d, (c.desk d).entryBytes, restart || (c.desk d).faultStands⟩] } else c := rfl

/-- An entry write leaves the desk but for its list of writes. -/
theorem Ctx.beginEntryWrite_desk (c : Ctx) (d : DeskNo) (restart : Bool) :
    (c.beginEntryWrite d restart).desk d = { c.desk d with
      entryWrites := (c.desk d).entryWrites ++ if c.deskInRun d then
        [⟨deskEntryAddr c.runBase d, (c.desk d).entryBytes, restart || (c.desk d).faultStands⟩] else [] } := by
  rw [Ctx.beginEntryWrite_eq]
  cases c.deskInRun d <;> simp

end Sys2Proof.Machine
end

