-- ==== Sys2Proof/Laws/View.lean ====
section
/-! SUPPORT. The view of a state (Safety.lean): the store's, the engine's, the scheduler's and the arbiter's operations, and so
the end of a command, leave the view as it is. -/

namespace Sys2Proof.Machine

open Sys2Proof

/-- What a fold keeps step by step it keeps. -/
theorem foldl_keeps {α β γ : Type} (π : β → γ) (k : β → α → β) (h : ∀ b a, π (k b a) = π b) :
    ∀ (l : List α) (b : β), π (l.foldl k b) = π b
  | [], _ => rfl
  | a :: l, b => by rw [List.foldl_cons, foldl_keeps π k h l, h]

/-! ### Reading fields off equal views -/

theorem State.view_drive {s t : State} (h : s.view = t.view) (v : DriveNo) :
    (s.drive v).view = (t.drive v).view := by
  have h1 : s.drives.map Drive.view = t.drives.map Drive.view := congrArg View.drives h
  have h2 := congrArg (fun x => x[v.val]) h1
  simpa [State.drive] using h2

theorem State.view_ctl {s t : State} (h : s.view = t.view) : s.ctl = t.ctl := congrArg View.ctl h
theorem State.view_g {s t : State} (h : s.view = t.view) : s.g = t.g := congrArg View.g h
theorem State.view_notice {s t : State} (h : s.view = t.view) : s.notice = t.notice := congrArg View.notice h
theorem State.view_desks {s t : State} (h : s.view = t.view) : s.desks = t.desks := congrArg View.desks h
theorem State.view_mem {s t : State} (h : s.view = t.view) : s.mem = t.mem := congrArg View.mem h
theorem State.view_header {s t : State} (h : s.view = t.view) : s.header = t.header := congrArg View.header h
theorem State.view_pending {s t : State} (h : s.view = t.view) : s.pending = t.pending := congrArg View.pending h

/-! ### The updates -/

@[simp] theorem Ctx.setDrive_view (c : Ctx) (v : DriveNo) (d : Drive) (h : d.view = (c.drive v).view) :
    (c.setDrive v d).view = c.view := by
  have h1 : (c.drives.set v.val d).map Drive.view = c.drives.map Drive.view := by
    ext i hi
    simp only [Vector.getElem_map, Vector.getElem_set]
    split
    · next e => subst e; simpa [State.drive] using h
    · rfl
  simp [State.view, Ctx.setDrive, h1]

theorem Ctx.modDrive_view (c : Ctx) (v : DriveNo) (k : Drive → Drive) (h : (k (c.drive v)).view = (c.drive v).view) :
    (c.modDrive v k).view = c.view := c.setDrive_view v _ h

@[simp] theorem Ctx.setChan_view (c : Ctx) (p : PortNo) (h : Channel) : (c.setChan p h).view = c.view := rfl
@[simp] theorem Ctx.modChan_view (c : Ctx) (p : PortNo) (k : Channel → Channel) : (c.modChan p k).view = c.view := rfl
@[simp] theorem Ctx.setSlot_view (c : Ctx) (e : EntryNo) (x : Slot) : (c.setSlot e x).view = c.view := rfl
@[simp] theorem Ctx.setOrder_view (c : Ctx) (e : EntryNo) (o : Order) : (c.setOrder e o).view = c.view := rfl

@[simp] theorem Ctx.modOrder_view (c : Ctx) (e : EntryNo) (k : Order → Order) : (c.modOrder e k).view = c.view := by
  unfold Ctx.modOrder; split <;> simp

@[simp] theorem Ctx.modSched_view (c : Ctx) (v : DriveNo) (k : Sched → Sched) : (c.modSched v k).view = c.view :=
  c.modDrive_view v _ rfl

@[simp] theorem Ctx.count_view (c : Ctx) (v : DriveNo) (k : Counter) : (c.count v k).view = c.view :=
  c.modDrive_view v _ rfl

@[simp] theorem Ctx.flagPick_view (c : Ctx) (v : DriveNo) : (c.flagPick v).view = c.view := by
  unfold Ctx.flagPick; split <;> rfl

@[simp] theorem Ctx.recordWrite_view (c : Ctx) (v : DriveNo) (x : Option Bool) : (c.recordWrite v x).view = c.view := by
  unfold Ctx.recordWrite
  split
  · exact c.modDrive_view v _ rfl
  · rfl

@[simp] theorem Ctx.raiseMarks_view (c : Ctx) (v : DriveNo) : (c.raiseMarks v).view = c.view := c.modDrive_view v _ rfl

@[simp] theorem Ctx.frameReports_view (c : Ctx) (n : Nat) (v : DriveNo) : (c.frameReports n v).view = c.view := by
  unfold Ctx.frameReports; dsimp only; split <;> simp

theorem State.view_frames (c : Ctx) (fs : Vector Frame 16) (b : Bool) (q : List QuietWait) :
    ({ c with frames := fs, serve := b, quiet := q } : Ctx).view = c.view := rfl

@[simp] theorem Ctx.putFrame_view (c : Ctx) (f : FrameNo) (new : Frame) : (c.putFrame f new).view = c.view := by
  unfold Ctx.putFrame
  dsimp only
  split <;> split <;> split <;> simp <;> rfl

@[simp] theorem Ctx.modFrame_view (c : Ctx) (f : FrameNo) (k : Frame → Frame) : (c.modFrame f k).view = c.view :=
  c.putFrame_view f _

@[simp] theorem Ctx.modSector_view (c : Ctx) (f : FrameNo) (n : Nat) (k : Sector → Sector) :
    (c.modSector f n k).view = c.view := c.modFrame_view f _

@[simp] theorem Ctx.dropUse_view (c : Ctx) (f : FrameNo) : (c.dropUse f).view = c.view := c.modFrame_view f _

/-! ### The end of an order -/

@[simp] theorem Ctx.finishOrder_view (c : Ctx) (e : EntryNo) (code : Code) (n : Nat) :
    (c.finishOrder e code n).view = c.view := by
  unfold Ctx.finishOrder
  split
  · rfl
  · split
    · rfl
    · dsimp only
      split
      · next f _ => exact c.dropUse_view f
      · rfl

theorem reexamineOne_view (acc : Ctx × List Waiter) (w : Waiter) : (reexamineOne acc w).1.view = acc.1.view := by
  unfold reexamineOne
  dsimp only
  split
  · simp
  · split
    · split
      · simp; rfl
      · rfl
    · rfl

@[simp] theorem Ctx.reexamine_view (c : Ctx) : c.reexamine.view = c.view :=
  foldl_keeps (fun acc : Ctx × List Waiter => acc.1.view) reexamineOne reexamineOne_view c.waiters (c, [])

@[simp] theorem Ctx.endOrder_view (c : Ctx) (e : EntryNo) (code : Code) (n : Nat) :
    (c.endOrder e code n).view = c.view := by
  unfold Ctx.endOrder
  split
  · rfl
  · split
    · rfl
    · dsimp only
      split
      · split <;> simp
      · simp

/-! ### Reports -/

@[simp] theorem Ctx.settleCheck_view (c : Ctx) (e : EntryNo) : (c.settleCheck e).view = c.view := by
  unfold Ctx.settleCheck
  (repeat' split) <;> simp

@[simp] theorem Ctx.forEntries_view (c : Ctx) (k : EntryNo → Ctx → Ctx) (h : ∀ e c, (k e c).view = c.view) :
    (c.forEntries k).view = c.view := foldl_keeps (fun c : Ctx => c.view) _ (fun b a => h a b) _ c

@[simp] theorem Ctx.forFrames_view (c : Ctx) (k : FrameNo → Ctx → Ctx) (h : ∀ f c, (k f c).view = c.view) :
    (c.forFrames k).view = c.view := foldl_keeps (fun c : Ctx => c.view) _ (fun b a => h a b) _ c

@[simp] theorem Ctx.forDrives_view (c : Ctx) (k : DriveNo → Ctx → Ctx) (h : ∀ f c, (k f c).view = c.view) :
    (c.forDrives k).view = c.view := foldl_keeps (fun c : Ctx => c.view) _ (fun b a => h a b) _ c

@[simp] theorem Ctx.reportTargets_view (c : Ctx) (f : FrameNo) (n a : Nat) (k : Target → TargetState) :
    (c.reportTargets f n a k).view = c.view := by
  unfold Ctx.reportTargets
  refine c.forEntries_view _ fun e c => ?_
  split
  · rfl
  · dsimp only; split <;> simp

@[simp] theorem Ctx.sectorSettled_view (c : Ctx) (f : FrameNo) (n : Nat) (w : Word) (a : Nat) :
    (c.sectorSettled f n w a).view = c.view := c.reportTargets_view ..

@[simp] theorem Ctx.sectorStranded_view (c : Ctx) (f : FrameNo) (n : Nat) (k : StrandCause) (a : Nat) :
    (c.sectorStranded f n k a).view = c.view := c.reportTargets_view ..

@[simp] theorem Ctx.sectorFilled_view (c : Ctx) (f : FrameNo) (n a : Nat) : (c.sectorFilled f n a).view = c.view := by
  unfold Ctx.sectorFilled
  refine c.forEntries_view _ fun e c => ?_
  split
  · rfl
  · split <;> simp

@[simp] theorem Ctx.readFailed_view (c : Ctx) (f : FrameNo) (n a : Nat) (o : Outcome) :
    (c.readFailed f n a o).view = c.view := by
  unfold Ctx.readFailed
  refine c.forEntries_view _ fun e c => ?_
  split
  · rfl
  · split <;> simp

@[simp] theorem Ctx.unreadable_view (c : Ctx) (e : EntryNo) (b : Nat) (x : Bool) : (c.unreadable e b x).view = c.view := by
  unfold Ctx.unreadable
  (repeat' split) <;> simp

@[simp] theorem Ctx.sectorBad_view (c : Ctx) (f : FrameNo) (n a : Nat) : (c.sectorBad f n a).view = c.view := by
  unfold Ctx.sectorBad
  refine c.forEntries_view _ fun e c => ?_
  (repeat' split) <;> simp

@[simp] theorem Ctx.frameDiscarded_view (c : Ctx) (f : FrameNo) : (c.frameDiscarded f).view = c.view := by
  unfold Ctx.frameDiscarded
  refine c.forEntries_view _ fun e c => ?_
  (repeat' split) <;> simp

/-! ### The store -/

@[simp] theorem Ctx.want_view (c : Ctx) (f : FrameNo) (n : Nat) (x y : Bool) : (c.want f n x y).2.view = c.view := by
  unfold Ctx.want
  dsimp only
  split <;> simp

theorem Ctx.copyOut_view (c : Ctx) (f : FrameNo) (a n : Nat) (b : Option Byte) {bs : List Byte} {ns : List Nat}
    {c' : Ctx} (h : c.copyOut f a n b = .ok (bs, ns, c')) : c'.view = c.view := by
  unfold Ctx.copyOut at h
  dsimp only at h
  split at h
  · cases h; simp
  · cases h

@[simp] theorem Ctx.mergeBytes_view (c : Ctx) (f : FrameNo) (a : Nat) (bs : List Byte) (x y : Bool) :
    (c.mergeBytes f a bs x y).2.view = c.view := by
  unfold Ctx.mergeBytes
  dsimp only
  rw [foldl_keeps (fun c : Ctx => c.view) _ (fun c n => c.sectorFilled_view f n 0)]
  simp

theorem Ctx.merge_view (c : Ctx) (f : FrameNo) (a : Nat) (bs : List Byte) (x y : Bool) {ts : List Touched} {c' : Ctx}
    (h : c.merge f a bs x y = .ok (ts, c')) : c'.view = c.view := by
  unfold Ctx.merge at h
  dsimp only at h
  split at h
  · have h1 : c.mergeBytes f a bs x y = (ts, c') := by simpa using h
    have := c.mergeBytes_view f a bs x y
    rw [h1] at this
    exact this
  · cases h

theorem Ctx.exchange_view (c : Ctx) (f : FrameNo) (a : Nat) (bs : List Byte) (b : Option Byte) (x y : Bool)
    {old : List Byte} {ns : List Nat} {ts : List Touched} {c' : Ctx}
    (h : c.exchange f a bs b x y = .ok (old, ns, ts, c')) : c'.view = c.view := by
  unfold Ctx.exchange at h
  dsimp only at h
  split at h
  · cases h; simp
  · cases h

@[simp] theorem Ctx.attemptBegun_view (c : Ctx) (k : Key) (n : Nat) (w : WorkKind) :
    (c.attemptBegun k n w).view = c.view := by
  unfold Ctx.attemptBegun
  (repeat' split) <;> simp

@[simp] theorem Ctx.readOutcome_view (c : Ctx) (k : Key) (n a : Nat) (o : Outcome) (bs : List Byte) :
    (c.readOutcome k n a o bs).view = c.view := by
  unfold Ctx.readOutcome
  (repeat' split) <;> simp

@[simp] theorem Ctx.settleWrite_view (c : Ctx) (f : FrameNo) (n a : Nat) : (c.settleWrite f n a).view = c.view := by
  unfold Ctx.settleWrite
  (repeat' split) <;> simp

@[simp] theorem Ctx.strandSector_view (c : Ctx) (f : FrameNo) (n : Nat) (k : StrandCause) (b : Bool) (a : Nat) :
    (c.strandSector f n k b a).view = c.view := by
  unfold Ctx.strandSector
  (repeat' split) <;> simp

@[simp] theorem Ctx.redoWrite_view (c : Ctx) (f : FrameNo) (n : Nat) (b : Bool) : (c.redoWrite f n b).view = c.view :=
  c.modSector_view ..

@[simp] theorem Ctx.writeOutcome_view (c : Ctx) (k : Key) (n a : Nat) (o : Outcome) (w : Half) :
    (c.writeOutcome k n a o w).view = c.view := by
  unfold Ctx.writeOutcome
  (repeat' split) <;> simp

@[simp] theorem Ctx.checkOutcome_view (c : Ctx) (k : Key) (n a : Nat) (o : Outcome) :
    (c.checkOutcome k n a o).view = c.view := by
  unfold Ctx.checkOutcome
  (repeat' split) <;> simp

@[simp] theorem Ctx.gateOpened_view (c : Ctx) (f : FrameNo) (n : Nat) : (c.gateOpened f n).view = c.view :=
  c.modSector_view ..

@[simp] theorem Ctx.freeFrame_view (c : Ctx) (f : FrameNo) : (c.freeFrame f).view = c.view := c.modFrame_view ..

@[simp] theorem Ctx.discard_view (c : Ctx) (k : Key) : (c.discard k).2.view = c.view := by
  unfold Ctx.discard
  (repeat' split) <;> simp

@[simp] theorem Ctx.unstrandFrame_view (c : Ctx) (f : FrameNo) : (c.unstrandFrame f).view = c.view := by
  refine foldl_keeps (fun c : Ctx => c.view) _ (fun c i => ?_) _ c
  (repeat' split) <;> simp

@[simp] theorem Ctx.gather_view (c : Ctx) (p : DriveNo → Bool) (b : Bool) : (c.gather p b).2.view = c.view := by
  unfold Ctx.gather
  refine foldl_keeps (fun acc : List Target × Ctx => acc.2.view) _ (fun acc f => ?_) _ ([], c)
  dsimp only
  split
  · dsimp only; split <;> simp
  · rfl

/-! ### The engine -/

@[simp] theorem Ctx.grantHeld_view (c : Ctx) (e : EntryNo) (f : FrameNo) : (c.grantHeld e f).view = c.view := by
  simp [Ctx.grantHeld]

@[simp] theorem Ctx.grantNew_view (c : Ctx) (e : EntryNo) (f : FrameNo) (k : Key) : (c.grantNew e f k).view = c.view := by
  unfold Ctx.grantNew
  dsimp only
  split <;> simp

@[simp] theorem Ctx.requestFrame_view (c : Ctx) (e : EntryNo) : (c.requestFrame e).view = c.view := by
  unfold Ctx.requestFrame
  dsimp only
  (repeat' split) <;> first | rfl | simp

@[simp] theorem Ctx.startTrack_view (c : Ctx) (e : EntryNo) (t : Nat) : (c.startTrack e t).view = c.view := by
  simp [Ctx.startTrack]

theorem serveOne_view (acc : Ctx × Bool) (w : Waiting) : (serveOne acc w).1.view = acc.1.view := by
  unfold serveOne
  dsimp only
  (repeat' split) <;> simp <;> rfl

@[simp] theorem Ctx.serveQueue_view (c : Ctx) : c.serveQueue.view = c.view :=
  foldl_keeps (fun acc : Ctx × Bool => acc.1.view) serveOne serveOne_view c.fwq _

@[simp] theorem Ctx.wantBlock_view (c : Ctx) (e : EntryNo) (b : Nat) : (c.wantBlock e b).view = c.view := by
  unfold Ctx.wantBlock
  split
  · rfl
  · split
    · dsimp only; split <;> simp
    · rfl

@[simp] theorem Ctx.wantBlocks_view (c : Ctx) (e : EntryNo) (bs : List Nat) : (c.wantBlocks e bs).view = c.view :=
  foldl_keeps (fun c : Ctx => c.view) _ (fun c b => c.wantBlock_view e b) bs c

@[simp] theorem Ctx.concludeWrite_view (c : Ctx) (e : EntryNo) : (c.concludeWrite e).view = c.view := by
  unfold Ctx.concludeWrite
  (repeat' split) <;> simp

@[simp] theorem Ctx.orderStep_view (c : Ctx) (e : EntryNo) : (c.orderStep e).view = c.view := by
  unfold Ctx.orderStep
  split
  · rfl
  · split
    · split
      · simp
      · dsimp only
        split
        · split
          · simp
          · next h => simpa using c.copyOut_view _ _ _ _ h
        · split
          · simp
          · next h => split <;> simpa using c.merge_view _ _ _ _ _ h
        · split
          · simp
          · next h => simpa using c.exchange_view _ _ _ _ _ _ h
        · rfl
    · rfl

@[simp] theorem Ctx.advance_view (c : Ctx) (e : EntryNo) : (c.advance e).view = c.view := by
  unfold Ctx.advance
  (repeat' split) <;> simp

theorem Ctx.cascadeN_view : ∀ (n : Nat) (c : Ctx), (c.cascadeN n).view = c.view
  | 0, _ => rfl
  | n + 1, c => by
    unfold Ctx.cascadeN
    split
    · rw [Ctx.cascadeN_view n]; simp
    · split
      · rw [Ctx.cascadeN_view n]; simp
      · rfl

@[simp] theorem Ctx.cascade_view (c : Ctx) : c.cascade.view = c.view := Ctx.cascadeN_view _ c

/-! ### Jobs, the arm, the scheduler and the arbiter -/

@[simp] theorem Ctx.postJob_view (c : Ctx) (v : DriveNo) (j : Job) : (c.postJob v j).2.view = c.view := by
  unfold Ctx.postJob
  dsimp only
  (repeat' split) <;> first | rfl | simp

@[simp] theorem Ctx.postDiscover_view (c : Ctx) (v : DriveNo) : (c.postDiscover v).view = c.view := c.postJob_view v _

@[simp] theorem Ctx.recalRequest_view (c : Ctx) (v : DriveNo) : (c.recalRequest v).view = c.view := c.postJob_view v _

@[simp] theorem Ctx.slotFreeTo_view (c : Ctx) (v : DriveNo) (r : Requester) : (c.slotFreeTo v r).view = c.view := by
  unfold Ctx.slotFreeTo
  (repeat' split) <;> simp

@[simp] theorem Ctx.jobEnded_view (c : Ctx) (v : DriveNo) : (c.jobEnded v).view = c.view := by
  unfold Ctx.jobEnded
  dsimp only
  rw [foldl_keeps (fun c : Ctx => c.view) _ (fun c r => c.slotFreeTo_view v r)]
  simp

@[simp] theorem Ctx.startSeek_view (c : Ctx) (v : DriveNo) (n : Nat) (b : Bool) : (c.startSeek v n b).view = c.view := by
  unfold Ctx.startSeek
  dsimp only
  split
  · exact c.modDrive_view v _ rfl
  · exact c.setDrive_view v _ rfl

@[simp] theorem Ctx.recalJobDone_view (c : Ctx) (v : DriveNo) : (c.recalJobDone v).view = c.view := by
  unfold Ctx.recalJobDone
  dsimp only
  (repeat' split) <;> simp

theorem Ctx.recalSucceeded_view (c : Ctx) (v : DriveNo) (n : Nat) :
    (c.recalSucceeded v (some n)).view = c.view := by
  have h : ((c.count v .recal).modDrive v fun d => { d with cylinder := 0, arm := .free }).view = c.view := by
    rw [Ctx.modDrive_view _ _ _ rfl, Ctx.count_view]
  unfold Ctx.recalSucceeded
  dsimp only
  split
  · rw [Ctx.recalJobDone_view, h]
  · rw [Ctx.startSeek_view, h]

theorem Ctx.startRecal_view (c : Ctx) (v : DriveNo) (n : Nat) : (c.startRecal v (some n)).view = c.view := by
  unfold Ctx.startRecal
  dsimp only
  split
  · exact c.recalSucceeded_view v n
  · exact c.setDrive_view v _ rfl

@[simp] theorem Ctx.loadRequest_view (c : Ctx) (v : DriveNo) : (c.loadRequest v).view = c.view := by
  refine c.modDrive_view v _ ?_
  split <;> rfl

@[simp] theorem Ctx.unloadRequest_view (c : Ctx) (v : DriveNo) : (c.unloadRequest v).view = c.view :=
  c.modDrive_view v _ rfl

@[simp] theorem Ctx.grant_view (c : Ctx) (p : PortNo) (r : Request) : (c.grant p r).view = c.view := by
  simp [Ctx.grant]

@[simp] theorem Ctx.fileRequest_view (c : Ctx) (r : Request) : (c.fileRequest r).view = c.view := by
  unfold Ctx.fileRequest
  dsimp only
  split <;> simp

@[simp] theorem Ctx.withdraw_view (c : Ctx) (v : DriveNo) : (c.withdraw v).view = c.view := rfl

@[simp] theorem Ctx.leaveQuiet_view (c : Ctx) (v : DriveNo) : (c.leaveQuiet v).view = c.view := c.modSched_view v _

theorem Ctx.pickN_view : ∀ (n : Nat) (c : Ctx) (v : DriveNo) (t : Option Place), (c.pickN n v t).view = c.view
  | 0, _, _, _ => rfl
  | n + 1, c, v, t => by
    unfold Ctx.pickN
    dsimp only
    split
    · simp
    · split
      · split
        · rw [Ctx.pickN_view n, Ctx.startRecal_view]; simp
        · rw [Ctx.startRecal_view]; simp
      · simp
    · split
      · split <;> simp
      · simp
    · generalize hc : (c.leaveQuiet v).modSched v _ = c1
      have h1 : c1.view = c.view := by rw [← hc]; simp
      split <;> simp [h1]

@[simp] theorem Ctx.pickNow_view (c : Ctx) (v : DriveNo) (t : Option Place) : (c.pickNow v t).view = c.view :=
  c.pickN_view 3 v t

@[simp] theorem Ctx.answerRound_view (c : Ctx) (v : DriveNo) : (c.answerRound v).view = c.view := by
  unfold Ctx.answerRound
  dsimp only
  (repeat' split) <;> simp

@[simp] theorem Ctx.releaseRound_view (c : Ctx) (p : PortNo) : (c.releaseRound p).view = c.view := by
  unfold Ctx.releaseRound
  dsimp only
  split <;> simp

@[simp] theorem Ctx.pickPoint_view (c : Ctx) (v : DriveNo) : (c.pickPoint v).view = c.view := by
  unfold Ctx.pickPoint
  dsimp only
  split <;> simp

@[simp] theorem Ctx.picksAndRounds_view (c : Ctx) : c.picksAndRounds.view = c.view := by
  unfold Ctx.picksAndRounds
  dsimp only
  rw [foldl_keeps (fun c : Ctx => c.view) _ (fun c v => c.pickPoint_view v)]
  exact foldl_keeps (fun c : Ctx => c.view) _ (fun c p => c.releaseRound_view p) c.rounds { c with rounds := [] }

/-! ### The end of a command -/

/-- Outside DRAINING and SHEDDING the drain and shed tests do nothing. -/
theorem Ctx.testDone_id (c : Ctx) (h1 : c.ctl ≠ .draining) (h2 : c.ctl ≠ .shedding) : c.testDone = c := by
  simp [Ctx.testDone, h1, h2]

/-- Outside DRAINING and SHEDDING the end of a command leaves the view as it is. -/
theorem Ctx.finish_view (c : Ctx) (h1 : c.ctl ≠ .draining) (h2 : c.ctl ≠ .shedding) : c.finish.view = c.view := by
  have hc : c.cascade.ctl = c.ctl := State.view_ctl c.cascade_view
  unfold Ctx.finish
  rw [Ctx.testDone_id _ (hc ▸ h1) (hc ▸ h2)]
  simp

end Sys2Proof.Machine
end

