-- ==== Sys2Proof/Laws/Finish.lean ====
section
/-! SUPPORT. The end of a command: where no report is left it changes nothing, and where no order waits the release
rounds and picks leave the store's view as it is. -/

namespace Sys2Proof.Machine

open Sys2Proof

/-! ### No report is left -/

theorem Ctx.cascadeN_none (c : Ctx) (h : c.readyOrder? = none) (hs : c.serve = false) :
    ∀ n, c.cascadeN n = c
  | 0 => rfl
  | n + 1 => by simp [Ctx.cascadeN, h, hs]

theorem Ctx.cascade_none (c : Ctx) (h : c.readyOrder? = none) (hs : c.serve = false) : c.cascade = c :=
  c.cascadeN_none h hs _

/-- With an empty Frame Wait Queue the cascade at most lowers the flag that asks for its service. -/
theorem Ctx.cascade_noQueue (c : Ctx) (h : c.readyOrder? = none) (hq : c.fwq = []) :
    c.cascade = { c with serve := false } := by
  cases hs : c.serve with
  | false => rw [c.cascade_none h hs]; cases c; simp_all
  | true =>
    have h1 : ({ c with serve := false } : Ctx).readyOrder? = none := h
    have h2 : c.serveQueue = { c with serve := false } := by simp [Ctx.serveQueue, hq]
    show c.cascadeN (255 + 1) = _
    rw [Ctx.cascadeN, h, hs]
    simp only [if_true]
    rw [h2]
    exact Ctx.cascadeN_none _ h1 rfl _

/-- A command that leaves no report ends with the state it made. -/
theorem Ctx.finish_none (c : Ctx) (hc : c.calm) (h : c.readyOrder? = none) (hs : c.serve = false)
    (hp : c.picks = []) (hr : c.rounds = []) : c.finish = c.toState := by
  unfold Ctx.finish
  rw [c.cascade_none h hs, Ctx.testDone_id _ hc.1 hc.2]
  simp [Ctx.picksAndRounds, hp, hr]

/-! ### The store's view through the picks -/

@[simp] theorem Ctx.setDrive_store (c : Ctx) (v : DriveNo) (d : Drive) : (c.setDrive v d).store = c.store := rfl
@[simp] theorem Ctx.modDrive_store (c : Ctx) (v : DriveNo) (k : Drive → Drive) : (c.modDrive v k).store = c.store := rfl
@[simp] theorem Ctx.modSched_store (c : Ctx) (v : DriveNo) (k : Sched → Sched) : (c.modSched v k).store = c.store := rfl
@[simp] theorem Ctx.setChan_store (c : Ctx) (p : PortNo) (h : Channel) : (c.setChan p h).store = c.store := rfl
@[simp] theorem Ctx.modChan_store (c : Ctx) (p : PortNo) (k : Channel → Channel) : (c.modChan p k).store = c.store := rfl
@[simp] theorem Ctx.count_store (c : Ctx) (v : DriveNo) (k : Counter) : (c.count v k).store = c.store := rfl
@[simp] theorem Ctx.flagPick_store (c : Ctx) (v : DriveNo) : (c.flagPick v).store = c.store := by
  unfold Ctx.flagPick; split <;> rfl
@[simp] theorem Ctx.raiseMarks_store (c : Ctx) (v : DriveNo) : (c.raiseMarks v).store = c.store := rfl
@[simp] theorem Ctx.loadRequest_store (c : Ctx) (v : DriveNo) : (c.loadRequest v).store = c.store := rfl
@[simp] theorem Ctx.withdraw_store (c : Ctx) (v : DriveNo) : (c.withdraw v).store = c.store := rfl
@[simp] theorem Ctx.leaveQuiet_store (c : Ctx) (v : DriveNo) : (c.leaveQuiet v).store = c.store := rfl

/-- A change of a FORMAT's place alone leaves the store's view. -/
theorem Ctx.modOrder_store (c : Ctx) (e : EntryNo) (k : Order → Order)
    (hk : ∀ o, Slot.view (.order (k o)) = Slot.view (.order o)) : (c.modOrder e k).store = c.store := by
  unfold Ctx.modOrder
  split
  · next o h =>
    have h1 : c.slot e = .order o := by
      unfold State.order? at h; split at h <;> simp_all
    have h2 : (c.table.set e.val (.order (k o))).map Slot.view = c.table.map Slot.view := by
      ext i hi
      simp only [Vector.getElem_map, Vector.getElem_set]
      split
      · next e' => subst e'; rw [hk]; exact congrArg Slot.view h1.symm
      · rfl
    simp [State.store, Ctx.setOrder, Ctx.setSlot, h2]
  · rfl

@[simp] theorem Ctx.postJob_store (c : Ctx) (v : DriveNo) (j : Job) : (c.postJob v j).2.store = c.store := by
  unfold Ctx.postJob
  dsimp only
  (repeat' split) <;> first | rfl | simp

@[simp] theorem Ctx.slotFreeTo_store (c : Ctx) (v : DriveNo) (r : Requester) : (c.slotFreeTo v r).store = c.store := by
  unfold Ctx.slotFreeTo
  split
  · split
    · exact c.postJob_store v _
    · rfl
  · exact c.modOrder_store _ _ (fun o => by split <;> rfl)
  all_goals rfl

@[simp] theorem Ctx.jobEnded_store (c : Ctx) (v : DriveNo) : (c.jobEnded v).store = c.store := by
  unfold Ctx.jobEnded
  dsimp only
  rw [foldl_keeps (fun c : Ctx => c.store) _ (fun c r => c.slotFreeTo_store v r)]
  rfl

@[simp] theorem Ctx.startSeek_store (c : Ctx) (v : DriveNo) (n : Nat) (b : Bool) : (c.startSeek v n b).store = c.store := by
  unfold Ctx.startSeek
  dsimp only
  split <;> rfl

@[simp] theorem Ctx.recalJobDone_store (c : Ctx) (v : DriveNo) : (c.recalJobDone v).store = c.store := by
  unfold Ctx.recalJobDone
  dsimp only
  (repeat' split) <;> simp

theorem Ctx.startRecal_store (c : Ctx) (v : DriveNo) (n : Nat) : (c.startRecal v (some n)).store = c.store := by
  unfold Ctx.startRecal Ctx.recalSucceeded
  dsimp only
  (repeat' split) <;> simp

@[simp] theorem Ctx.grant_store (c : Ctx) (p : PortNo) (r : Request) : (c.grant p r).store = c.store := by
  unfold Ctx.grant
  dsimp only
  split <;> rfl

@[simp] theorem Ctx.fileRequest_store (c : Ctx) (r : Request) : (c.fileRequest r).store = c.store := by
  unfold Ctx.fileRequest
  dsimp only
  (repeat' split) <;> simp

theorem Ctx.pickN_store : ∀ (n : Nat) (c : Ctx) (v : DriveNo) (t : Option Place), (c.pickN n v t).store = c.store
  | 0, _, _, _ => rfl
  | n + 1, c, v, t => by
    unfold Ctx.pickN
    dsimp only
    split
    · simp
    · split
      · split
        · rw [Ctx.pickN_store n, Ctx.startRecal_store]; simp
        · rw [Ctx.startRecal_store]; simp
      · simp
    · split
      · split <;> simp
      · simp
    · generalize hc : (c.leaveQuiet v).modSched v _ = c1
      have h1 : c1.store = c.store := by rw [← hc]; simp
      split <;> simp [h1]

@[simp] theorem Ctx.pickNow_store (c : Ctx) (v : DriveNo) (t : Option Place) : (c.pickNow v t).store = c.store :=
  c.pickN_store 3 v t

@[simp] theorem Ctx.answerRound_store (c : Ctx) (v : DriveNo) : (c.answerRound v).store = c.store := by
  unfold Ctx.answerRound
  dsimp only
  (repeat' split) <;> simp

@[simp] theorem Ctx.releaseRound_store (c : Ctx) (p : PortNo) : (c.releaseRound p).store = c.store := by
  unfold Ctx.releaseRound
  dsimp only
  split <;> simp

@[simp] theorem Ctx.pickPoint_store (c : Ctx) (v : DriveNo) : (c.pickPoint v).store = c.store := by
  unfold Ctx.pickPoint
  dsimp only
  split <;> simp

@[simp] theorem Ctx.picksAndRounds_store (c : Ctx) : c.picksAndRounds.store = c.store := by
  unfold Ctx.picksAndRounds
  dsimp only
  rw [foldl_keeps (fun c : Ctx => c.store) _ (fun c v => c.pickPoint_store v)]
  exact foldl_keeps (fun c : Ctx => c.store) _ (fun c p => c.releaseRound_store p) c.rounds { c with rounds := [] }

/-- Where no order can go on and the queue is empty, the end of a command leaves the store's view. -/
theorem Ctx.finish_store (c : Ctx) (hc : c.calm) (h : c.readyOrder? = none) (hq : c.fwq = []) :
    c.finish.store = c.store := by
  unfold Ctx.finish
  rw [c.cascade_noQueue h hq, Ctx.testDone_id { c with serve := false } hc.1 hc.2, Ctx.picksAndRounds_store]

/-! ### Where no order can go on -/

/-- No order can go on exactly where every order in FILL still waits for a sector, its wants made. -/
theorem State.readyOrder_none_iff (s : State) :
    s.readyOrder? = none ↔
      ∀ e o, s.order? e = some o → o.stage = .fill → o.wantsDue = false ∧ o.waitsMore = true := by
  unfold State.readyOrder?
  rw [List.find?_eq_none]
  constructor
  · intro h e o he hf
    have := h e (List.mem_finRange e)
    rw [he] at this
    simp [hf] at this
    exact this
  · intro h e _
    split
    · next o he =>
      intro hx
      simp only [Bool.and_eq_true, beq_iff_eq, Bool.or_eq_true] at hx
      have := h e o he hx.1
      simp_all
    · simp

/-- Where no order is in FILL, none can go on. -/
theorem State.readyOrder_none (s : State) (h : ∀ e o, s.order? e = some o → o.stage ≠ .fill) :
    s.readyOrder? = none := s.readyOrder_none_iff.mpr fun e o he hf => absurd hf (h e o he)

end Sys2Proof.Machine
end

