-- ==== Sys2Proof/Laws/Memory.lean ====
section
/-! SUPPORT. The laws of addressed memory: read after write, the canonical form, and what a write of several bytes
stores. -/

namespace Sys2Proof.Machine

open Sys2Proof

/-- A read after a write of one byte: that byte at its address, every other address as before. -/
theorem Mem.read_write (m : Mem) (a b : Nat) (x : Byte) :
    (m.write a x).read b = if b = a then some x else m.read b := by
  induction m with
  | nil => simp [Mem.write, Mem.read]
  | cons c m ih =>
    obtain ⟨k, y⟩ := c
    by_cases h1 : a < k
    · simp [Mem.write, Mem.read, h1]
    · by_cases h2 : a = k
      · subst h2
        by_cases h3 : b = a <;> simp [Mem.write, Mem.read, h3]
      · by_cases h3 : b = k
        · subst h3
          simp [Mem.write, Mem.read, h1, h2, Ne.symm h2]
        · simp [Mem.write, Mem.read, h1, h2, h3, ih]

/-- A write of several bytes leaves every address outside them as it was. -/
theorem Mem.read_writeAll_outside (bs : List Byte) : ∀ (m : Mem) (a b : Nat), b < a ∨ a + bs.length ≤ b →
    (m.writeAll a bs).read b = m.read b := by
  induction bs with
  | nil => intro m a b _; rfl
  | cons x bs ih =>
    intro m a b h
    simp only [List.length_cons] at h
    rw [Mem.writeAll, ih _ _ _ (by omega), Mem.read_write, if_neg (by omega)]

/-- A write of several bytes stores them, the first at the lowest address. -/
theorem Mem.read_writeAll_inside (bs : List Byte) : ∀ (m : Mem) (a i : Nat) (x : Byte), bs[i]? = some x →
    (m.writeAll a bs).read (a + i) = some x := by
  induction bs with
  | nil => intro m a i x h; simp at h
  | cons y bs ih =>
    intro m a i x h
    cases i with
    | zero =>
      simp only [List.getElem?_cons_zero, Option.some.injEq] at h
      rw [Mem.writeAll, Mem.read_writeAll_outside _ _ _ _ (by omega), Mem.read_write, if_pos (Nat.add_zero a), h]
    | succ i =>
      rw [Mem.writeAll, show a + (i + 1) = a + 1 + i by omega]
      exact ih _ _ _ _ (by simpa using h)

/-- What a write of several bytes stores. -/
theorem Mem.storedAt_writeAll (m : Mem) (a : Nat) (bs : List Byte) : storedAt m (m.writeAll a bs) a bs :=
  ⟨fun i x h => Mem.read_writeAll_inside bs m a i x h, fun b h => Mem.read_writeAll_outside bs m a b h⟩

/-- A write below every bound of a memory keeps the bound. -/
theorem Mem.above_write {k a : Nat} {x : Byte} (hk : k < a) : ∀ m : Mem, m.above k = true → (m.write a x).above k = true
  | [], _ => by simp [Mem.write, Mem.above, hk]
  | (b, y) :: m, h => by
    simp only [Mem.above, Bool.and_eq_true, decide_eq_true_eq] at h
    unfold Mem.write
    split
    · simp [Mem.above, hk, h]
    · split
      · simp [Mem.above, hk, h]
      · simp [Mem.above, h.1, Mem.above_write hk m h.2]

theorem Mem.above_mono {j k : Nat} (h : j ≤ k) : ∀ m : Mem, m.above k = true → m.above j = true
  | [], _ => rfl
  | (a, _) :: m, hm => by
    simp only [Mem.above, Bool.and_eq_true, decide_eq_true_eq] at hm ⊢
    exact ⟨by omega, Mem.above_mono h m hm.2⟩

/-- A write of one byte keeps the canonical form. -/
theorem Mem.wf_write (a : Nat) (x : Byte) : ∀ m : Mem, m.wf = true → (m.write a x).wf = true
  | [], _ => rfl
  | (b, y) :: m, h => by
    simp only [Mem.wf, Bool.and_eq_true] at h
    unfold Mem.write
    split
    · next hab => simp [Mem.wf, Mem.above, hab, h, Mem.above_mono (Nat.le_of_lt hab) m h.1]
    · split
      · next hab => subst hab; simp [Mem.wf, h]
      · next h1 h2 => simp [Mem.wf, Mem.above_write (by omega : b < a) m h.1, Mem.wf_write a x m h.2]

/-- A write of several bytes keeps the canonical form. -/
theorem Mem.wf_writeAll (bs : List Byte) : ∀ (m : Mem) (a : Nat), m.wf = true → (m.writeAll a bs).wf = true := by
  induction bs with
  | nil => intro m a h; exact h
  | cons x bs ih => intro m a h; exact ih _ _ (Mem.wf_write a x m h)

/-- Cluster memory after power-on, with nothing listed, is in its canonical form. -/
theorem State.reset_mem_wf : State.reset.mem.wf = true := rfl

end Sys2Proof.Machine
end

