-- ==== Sys2Proof/Laws/Orders.lean ====
section
/-! SUPPORT. What the end of an order does to the Active Order Table, and what it leaves as it is. -/

namespace Sys2Proof.Machine

open Sys2Proof

/-- The reports on a drive's counts and its record leave every table entry as it was. -/
@[simp] theorem Ctx.recordWrite_table (c : Ctx) (v : DriveNo) (x : Option Bool) : (c.recordWrite v x).table = c.table := by
  unfold Ctx.recordWrite; split <;> rfl

@[simp] theorem Ctx.raiseMarks_table (c : Ctx) (v : DriveNo) : (c.raiseMarks v).table = c.table := rfl

@[simp] theorem Ctx.flagPick_table (c : Ctx) (v : DriveNo) : (c.flagPick v).table = c.table := by
  unfold Ctx.flagPick; split <;> rfl

@[simp] theorem Ctx.frameReports_table (c : Ctx) (n : Nat) (v : DriveNo) : (c.frameReports n v).table = c.table := by
  unfold Ctx.frameReports; dsimp only; split <;> simp

/-- A change of a frame leaves every table entry as it was. -/
@[simp] theorem Ctx.putFrame_table (c : Ctx) (f : FrameNo) (x : Frame) : (c.putFrame f x).table = c.table := by
  unfold Ctx.putFrame
  dsimp only
  have h2 : ∀ c1 : Ctx, (if (c.frame f).newCandidate x then c1.flagPick x.key.drive else c1).table = c1.table := by
    intro c1; split <;> simp
  have h3 : ∀ c2 : Ctx, ∀ n v, (if (c.frame f).held then c2.frameReports n v else c2).table = c2.table := by
    intro c2 n v; split <;> simp
  split
  · rw [Ctx.frameReports_table, h3, h2]
  · rw [h3, h2]

/-- A dropped use leaves every table entry as it was. -/
@[simp] theorem Ctx.dropUse_table (c : Ctx) (f : FrameNo) : (c.dropUse f).table = c.table := c.putFrame_table f _

theorem State.order?_of_table {s t : State} (h : s.table = t.table) (e : EntryNo) : s.order? e = t.order? e := by
  simp [State.order?, State.slot, h]

/-- The order in an entry after a table entry is set. -/
theorem Ctx.setOrder_order? (c : Ctx) (e e' : EntryNo) (o : Order) :
    (c.setOrder e o).order? e' = if e' = e then some o else c.order? e' := by
  unfold State.order? Ctx.setOrder
  by_cases h : e' = e
  · subst h; simp
  · simp only [if_neg h]; rw [Ctx.setSlot_slot_ne _ _ _ _ h]

/-- The record of an order that has ended with a code and a detail (R154). -/
def Order.finished (o : Order) (g : Word) (code : Code) (detail : Nat) : Order :=
  { o with
    stage := .finish, frame := none, staging := [], wait := [], targets := [], wantsDue := false
    phase := .none, result := some ⟨code, detail, g⟩ }

/-- What the end of an order does, but for its re-examination: nothing to an order that has ended, and otherwise the
order's record is finished and every other entry stays. -/
theorem Ctx.finishOrder_order? (c : Ctx) (e e' : EntryNo) (code : Code) (detail : Nat) :
    (c.finishOrder e code detail).order? e' =
      match c.order? e with
      | none => c.order? e'
      | some o => if o.stage = .finish then c.order? e' else if e' = e then some (o.finished c.g code detail)
          else c.order? e' := by
  unfold Ctx.finishOrder
  cases h : c.order? e with
  | none => rfl
  | some o =>
    dsimp only
    split
    · rfl
    · rw [Ctx.setOrder_order?]
      split
      · rfl
      · refine State.order?_of_table ?_ e'
        cases o.frame <;> simp

/-- An order that is ended has ended, with the result it was given. -/
theorem Ctx.finishOrder_self (c : Ctx) (e : EntryNo) (o : Order) (code : Code) (detail : Nat) (h : c.order? e = some o)
    (hs : o.stage ≠ .finish) : (c.finishOrder e code detail).order? e = some (o.finished c.g code detail) := by
  rw [Ctx.finishOrder_order?, h]; simp [hs]

/-- An order that has ended stays as it is. -/
theorem Ctx.finishOrder_ended (c : Ctx) (e e' : EntryNo) (o : Order) (code : Code) (detail : Nat)
    (h : c.order? e' = some o) (hs : o.stage = .finish) : (c.finishOrder e code detail).order? e' = some o := by
  rw [Ctx.finishOrder_order?]
  split
  · exact h
  · next x hx =>
    split
    · exact h
    · split
      · next hn he => subst he; rw [h] at hx; cases hx; exact absurd hs hn
      · exact h

/-- One entry of a re-examination leaves an order that has ended as it is. -/
theorem reexamineOne_ended (acc : Ctx × List Waiter) (w : Waiter) (e : EntryNo) (o : Order)
    (h : acc.1.order? e = some o) (hs : o.stage = .finish) : (reexamineOne acc w).1.order? e = some o := by
  obtain ⟨c, kept⟩ := acc
  unfold reexamineOne
  dsimp only at h ⊢
  split
  · exact c.finishOrder_ended _ _ _ _ _ h hs
  · split
    · split
      · next locks _ => exact Ctx.finishOrder_ended { c with locks := locks } _ _ _ _ _ h hs
      · exact h
    · exact h

/-- A re-examination leaves an order that has ended as it is (R161). -/
theorem Ctx.reexamine_ended (c : Ctx) (e : EntryNo) (o : Order) (h : c.order? e = some o) (hs : o.stage = .finish) :
    c.reexamine.order? e = some o := by
  unfold Ctx.reexamine
  have key : ∀ (l : List Waiter) (acc : Ctx × List Waiter), acc.1.order? e = some o →
      (l.foldl reexamineOne acc).1.order? e = some o := by
    intro l
    induction l with
    | nil => intro acc ha; exact ha
    | cons w l ih => intro acc ha; exact ih _ (reexamineOne_ended acc w e o ha hs)
  exact key c.waiters (c, []) h

/-- The end of an order (R154): it has ended with its result, whatever the re-examination grants. -/
theorem Ctx.endOrder_self (c : Ctx) (e : EntryNo) (o : Order) (code : Code) (detail : Nat) (h : c.order? e = some o)
    (hs : o.stage ≠ .finish) : (c.endOrder e code detail).order? e = some (o.finished c.g code detail) := by
  unfold Ctx.endOrder
  rw [h]
  dsimp only
  rw [if_neg hs]
  have h1 := c.finishOrder_self e o code detail h hs
  split
  · split
    · exact Ctx.reexamine_ended _ _ _ h1 rfl
    · exact h1
  · exact h1

/-- An order that has ended stays as it is at the end of another. -/
theorem Ctx.endOrder_ended (c : Ctx) (e e' : EntryNo) (o : Order) (code : Code) (detail : Nat)
    (h : c.order? e' = some o) (hs : o.stage = .finish) : (c.endOrder e code detail).order? e' = some o := by
  unfold Ctx.endOrder
  have h1 := c.finishOrder_ended e e' o code detail h hs
  repeat' split
  all_goals first | exact h | exact h1 | exact Ctx.reexamine_ended _ _ _ h1 hs

end Sys2Proof.Machine
end

