-- ==== Sys2Proof/Laws/Updates.lean ====
section
/-! SUPPORT. What the small updates of the lines, the channels and the order records set and leave, and what the
report of a write does to its sector. -/

namespace Sys2Proof.Machine

open Sys2Proof

/-! ### Lines -/

@[simp] theorem Lines.pulse_steps (l : Lines) (b : Bool) : (l.pulse b).steps = l.steps + 1 := rfl
@[simp] theorem Lines.pulse_inward (l : Lines) (b : Bool) : (l.pulse b).inward = b := rfl
@[simp] theorem Lines.pulse_trackZero (l : Lines) (b : Bool) : (l.pulse b).trackZero = none := rfl
@[simp] theorem Lines.pulse_ready (l : Lines) (b : Bool) : (l.pulse b).ready = l.ready := rfl
@[simp] theorem Lines.pulse_driveFault (l : Lines) (b : Bool) : (l.pulse b).driveFault = l.driveFault := rfl
@[simp] theorem Lines.pulse_writeProtect (l : Lines) (b : Bool) : (l.pulse b).writeProtect = l.writeProtect := rfl
@[simp] theorem Lines.pulse_twoSided (l : Lines) (b : Bool) : (l.pulse b).twoSided = l.twoSided := rfl

/-- A level that a command has brought since the last pulse is the level Drive Control sees. -/
theorem State.trackZero_known {s : State} {v : DriveNo} {b : Bool} (h : (s.drive v).lines.trackZero = some b) :
    s.trackZero v = b := by
  simp [State.trackZero, h]

/-! ### Channels -/

@[simp] theorem Channel.idled_state (h : Channel) (b : Bool) : (h.idled b).state = .idle := rfl
@[simp] theorem Channel.idled_work (h : Channel) (b : Bool) : (h.idled b).work = none := rfl
@[simp] theorem Channel.idled_burst (h : Channel) (b : Bool) : (h.idled b).burst = 0 := rfl
@[simp] theorem Channel.idled_staging (h : Channel) (b : Bool) : (h.idled b).staging = [] := rfl
@[simp] theorem Channel.idled_listen (h : Channel) (b : Bool) : (h.idled b).listen = [] := rfl
@[simp] theorem Channel.idled_pendLow (h : Channel) (b : Bool) : (h.idled b).pendLow = none := rfl
@[simp] theorem Channel.idled_pendHigh (h : Channel) (b : Bool) : (h.idled b).pendHigh = none := rfl
@[simp] theorem Channel.idled_roundOpen (h : Channel) (b : Bool) : (h.idled b).roundOpen = b := rfl
@[simp] theorem Channel.idled_selectDue (h : Channel) (b : Bool) : (h.idled b).selectDue = h.selectDue := rfl
@[simp] theorem Channel.idled_stream (h : Channel) (b : Bool) : (h.idled b).stream = h.stream := rfl
@[simp] theorem Channel.idled_opened (h : Channel) (b : Bool) : (h.idled b).opened = h.opened := rfl
@[simp] theorem Channel.idled_closed (h : Channel) (b : Bool) : (h.idled b).closed = h.closed := rfl
@[simp] theorem Channel.idled_owed (h : Channel) (b : Bool) (v : DriveNo) : (h.idled b).owed v = h.owed v := rfl

/-- The close of a gate changes the time of the last close alone, and that only where a gate is open. -/
theorem Channel.closeGate_eq (h : Channel) (g : Word) :
    h.closeGate g = { h with closed := if h.gateOpen then g else h.closed } := by
  unfold Channel.closeGate
  split <;> simp_all

@[simp] theorem Channel.listenMark_listen (h : Channel) (phi : Nat) (m : Byte) (peak : Nat) :
    (h.listenMark phi m peak).listen = h.listen := rfl

/-! ### Wait lists -/

@[simp] theorem Order.unwait_stage (o : Order) (f : FrameNo) (n : Nat) : (o.unwait f n).stage = o.stage := rfl
@[simp] theorem Order.markFill_stage (o : Order) (f : FrameNo) (n : Nat) : (o.markFill f n).stage = o.stage := rfl
@[simp] theorem Order.unwait_highest (o : Order) (f : FrameNo) (n : Nat) : (o.unwait f n).highest = o.highest := rfl
@[simp] theorem Order.markFill_highest (o : Order) (f : FrameNo) (n : Nat) : (o.markFill f n).highest = o.highest := rfl
@[simp] theorem Order.unwait_fields (o : Order) (f : FrameNo) (n : Nat) : (o.unwait f n).fields = o.fields := rfl
@[simp] theorem Order.markFill_fields (o : Order) (f : FrameNo) (n : Nat) : (o.markFill f n).fields = o.fields := rfl
@[simp] theorem Order.observeRead_stage (o : Order) (n : Nat) : (o.observeRead n).stage = o.stage := rfl
@[simp] theorem Order.observeRead_fields (o : Order) (n : Nat) : (o.observeRead n).fields = o.fields := rfl
@[simp] theorem Order.observeRead_wait (o : Order) (n : Nat) : (o.observeRead n).wait = o.wait := rfl
@[simp] theorem Order.observeRead_frame (o : Order) (n : Nat) : (o.observeRead n).frame = o.frame := rfl
@[simp] theorem Order.observeRead_result (o : Order) (n : Nat) : (o.observeRead n).result = o.result := rfl
@[simp] theorem Order.observeRead_highest (o : Order) (n : Nat) :
    (o.observeRead n).highest = if o.fields.kind? = some .write then o.highest else max o.highest n := rfl

/-- A sector taken off the list is waited for no more. -/
theorem Order.unwait_waitsOn (o : Order) (f : FrameNo) (n : Nat) : (o.unwait f n).waitsOn f n = false := by
  simp only [Order.waitsOn, Order.unwait, List.any_filter, Bool.and_eq_false_iff]
  exact .inr (by simp)

/-- A sector marked as fill is waited for no more. -/
theorem Order.markFill_waitsOn (o : Order) (f : FrameNo) (n : Nat) : (o.markFill f n).waitsOn f n = false := by
  simp only [Order.waitsOn, Order.markFill, Bool.and_eq_false_iff, List.any_map, List.any_eq_false]
  refine .inr fun w _ => ?_
  change ¬ (if w.isFor f n then { w with fill := true } else w).isFor f n = true
  split
  · simp [Wanted.isFor]
  · assumption

/-! ### The outcome of a write -/

/-- The report of a write that finds no sector in WRITING is discarded (R76). -/
theorem Ctx.writeOutcome_discarded (c : Ctx) (k : Key) (n a : Nat) (o : Outcome) (w : Half)
    (h : ∀ f x, c.sectorAt k n = some (f, x) → x.state ≠ .writing) : c.writeOutcome k n a o w = c := by
  unfold Ctx.writeOutcome
  split
  · rfl
  · next f x hx => rw [if_pos (h f x hx)]

/-- A failed write returns a sector in WRITING to DIRTY, or strands it after the third attempt (R73). -/
theorem Ctx.writeOutcome_failed (c : Ctx) (k : Key) (n a : Nat) (o : Outcome) (w : Half) (f : FrameNo) (x : Sector)
    (hx : c.sectorAt k n = some (f, x)) (hw : x.state = .writing) (ho : o.failed = true) :
    c.writeOutcome k n a o w =
      if a < writeLadder then c.redoWrite f n (x.verify || x.check)
      else c.strandSector f n .write (x.verify || x.check) a := by
  have hg : o ≠ .good := by rintro rfl; cases ho
  simp [Ctx.writeOutcome, hx, hw, hg, ho]

end Sys2Proof.Machine
end

