-- ==== Sys2Proof/WellFormed.lean ====
section
/-! DEFINITION. Which commands are well formed: the byte counts and ranges that the spec fixes for each event,
whatever the state. -/

namespace Sys2Proof

/-- A DMA read that ended well brings exactly `n` bytes. -/
def DmaRead.hasLength (n : Nat) : DmaRead → Bool
  | .data bytes => bytes.length == n
  | .busError => true

/-- A DMA write of `n` bytes that met an error had written fewer than `n`. -/
def DmaWrite.within (n : Nat) : DmaWrite → Bool
  | .ok => true
  | .busError written => written < n

/-- A register access lies in the window and on its own size (R107). -/
def registerAccessOk (offset : BitVec 5) (size : Nat) : Bool :=
  (size == 1 || size == 2 || size == 4) && offset.toNat % size == 0

/-- Transitions of one read line come one after another. -/
def fluxInOrder : List Flux → Bool
  | x :: y :: rest => x.time < y.time && fluxInOrder (y :: rest)
  | _ => true

/-- The spec's own byte counts hold: header 64 (R111), profile 5 (06, 6.2), link 4 and block 64 (R118), layout 68
(9.1), a track's part at most 8,192 (R129), results 24 (R116), desk entry 11 (R112), drive record 104 (R113); transitions of
a read signal come in rising time. -/
def WellFormed : Instr → Bool
  | .registerWrite offset size _ => registerAccessOk offset size
  | .headerReadDone r => r.hasLength 64
  | .profileReadDone _ r _ => r.hasLength 5
  | .linkReadDone _ r => r.hasLength 4
  | .blockReadDone _ r => r.hasLength 64
  | .take _ r => r.within 1
  | .fetchDone _ (.data bytes) => bytes.length ≤ 8192
  | .fetchDone _ .busError => true
  | .deliveryDone _ r => r.within 8192
  | .layoutReadDone _ r => r.hasLength 68
  | .resultWriteDone _ r => r.within 24
  | .doneWriteDone _ r => r.within 1
  | .deskEntryWriteDone _ r => r.within 11
  | .idMarkSeen _ flux | .fluxLoss _ flux => fluxInOrder flux
  | .dataMarkSeen _ sync mark => fluxInOrder (sync ++ mark)
  | .idFieldEnd _ x crcHigh crcLow | .dataFieldEnd _ x crcHigh crcLow => fluxInOrder (x ++ crcHigh ++ crcLow)
  | .driveRecordWriteDone _ r => r.within 104
  | .powerOn | .runSet _ | .runClear _ | .restart | .tableBaseWrite _ | .noticeClear _
  | .attend _ | .halt _ | .deskRestart _ | .releaseLocks _
  | .mediaLoad _ _ _ | .mediaChange _ | .driveFaultRise _ | .driveFaultFall _
  | .powerWarningRise | .powerWarningFall | .indexPulse _ | .noIndexTimeout _ | .spinupLimit _
  | .faultExpiry _ | .headLoadDone _ | .probeStepDone _ _ | .probeSettled _ _ _ | .seekStepDone _ _
  | .armSettled _ | .recalStepDone _ _ | .recalSettled _ | .stampBound | .snapshotExpiry | .fwqStall _
  | .armingTime _ | .sideSelectSet _ | .dataMarkTimeout _ | .huntLimit _ | .gateOpenTime _ | .gateClose _ | .discardRetry _
  | .formatEntryStep _ | .formatJobRepost _ => true

end Sys2Proof
end

