-- ==== Sys2Proof/Tests/Slice0.lean ====
section
/-! SUPPORT. Tests: the ill-formed commands, the decoder, the worked figures of the spec, and for every statement with
hypotheses a concrete state and operands that meet them. -/

namespace Sys2Proof.Tests

set_option Elab.async false

open Sys2Proof Sys2Proof.Machine

/-! ### Well-formedness: one ill-formed command for each check -/

theorem test_registerWrite_offset_unaligned : WellFormed (.registerWrite 0x02 4 0) = false := by decide +kernel
theorem test_registerWrite_three_bytes : WellFormed (.registerWrite 0x00 3 0) = false := by decide +kernel
theorem test_headerReadDone_short : WellFormed (.headerReadDone (.data (List.replicate 63 0))) = false := by decide +kernel
theorem test_profileReadDone_long : WellFormed (.profileReadDone 0 (.data (List.replicate 6 0)) false) = false := by decide +kernel
theorem test_linkReadDone_short : WellFormed (.linkReadDone 0 (.data [0, 0, 0])) = false := by decide +kernel
theorem test_blockReadDone_short : WellFormed (.blockReadDone 0 (.data (List.replicate 63 0))) = false := by decide +kernel
theorem test_take_error_past_end : WellFormed (.take 0 (.busError 1)) = false := by decide +kernel
theorem test_fetchDone_longer_than_a_frame :
    WellFormed (.fetchDone 0 (.data (List.replicate 8193 0))) = false := by decide +kernel
theorem test_deliveryDone_error_past_end : WellFormed (.deliveryDone 0 (.busError 8192)) = false := by decide +kernel
theorem test_layoutReadDone_short : WellFormed (.layoutReadDone 0 (.data (List.replicate 67 0))) = false := by decide +kernel
theorem test_resultWriteDone_error_past_end : WellFormed (.resultWriteDone (.entry 0) (.busError 24)) = false := by decide +kernel
theorem test_doneWriteDone_error_past_end : WellFormed (.doneWriteDone (.orphan 0) (.busError 1)) = false := by decide +kernel
theorem test_deskEntryWriteDone_error_past_end : WellFormed (.deskEntryWriteDone 0 (.busError 11)) = false := by decide +kernel
theorem test_idMarkSeen_out_of_order : WellFormed (.idMarkSeen 0 [⟨5, 1⟩, ⟨4, 1⟩]) = false := by decide +kernel
theorem test_idFieldEnd_out_of_order : WellFormed (.idFieldEnd 0 [⟨5, 1⟩] [⟨5, 1⟩] []) = false := by decide +kernel
theorem test_dataMarkSeen_out_of_order : WellFormed (.dataMarkSeen 0 [⟨5, 1⟩] [⟨4, 1⟩]) = false := by decide +kernel
theorem test_dataFieldEnd_out_of_order : WellFormed (.dataFieldEnd 0 [⟨5, 1⟩] [] [⟨5, 1⟩]) = false := by decide +kernel
theorem test_fluxLoss_out_of_order : WellFormed (.fluxLoss 0 [⟨1, 1⟩, ⟨5, 1⟩, ⟨5, 1⟩]) = false := by decide +kernel
theorem test_driveRecordWriteDone_error_past_end : WellFormed (.driveRecordWriteDone 0 (.busError 104)) = false := by decide +kernel

/-- The table gives no row any bits, so no word spells a command. -/
theorem test_no_word_decodes : decodeTableWord 32 0x48280003 = none := by decide +kernel

/-! ### Worked figures of the spec -/

/-- Estimator figures (02, 2.4): a rise and two falls, the second not a multiple of 8. -/
theorem test_estimator_figures :
    estimate (some 2666800) 166700 = 2666850 ∧ estimate (some 2666850) 166700 = 2666893
      ∧ estimate (some 2666850) 166600 = 2666693 ∧ workingPeriod (some 2666693) = some 166668 := by decide +kernel

/-- The MFM layout of 01, 1.6: 26 sectors of 256 bytes in two-to-one interleave. -/
def mfm26 : Layout :=
  { density := .mfm, sizeCode := 1, spt := 26, first := 1, g0 := 32, g3 := 54
    map := (List.range 26).map fun i => i / 2 + if i % 2 = 0 then 1 else 14 }

/-- Slot table figures (02, 2.6): slot 20 and the end of the last slot. -/
theorem test_slot_figures :
    mfm26.slotStart 20 = 111552 ∧ mfm26.armTime 20 = 111352 ∧ mfm26.idMarkTime 20 = 111680
      ∧ mfm26.dataMarkTime 20 = 112096 ∧ mfm26.slotEnd 20 = 117104 ∧ mfm26.lastSlotEnd = 144864 := by decide +kernel

/-- Capacity figures (02, 2.6): 29 sectors fit at 166,675 and not at 161,667. -/
theorem test_capacity_figures :
    ({ mfm26 with spt := 29 } : Layout).fitsTrack (some 166675) = true
      ∧ ({ mfm26 with spt := 30 } : Layout).fitsTrack (some 166675) = false
      ∧ ({ mfm26 with spt := 29 } : Layout).fitsTrack (some 161667) = false := by decide +kernel

/-! ### Read signals: what a plain MFM recording of bytes gives, cells of 2,000 ns, every transition of amplitude 100 -/

/-- A byte's bits, the most significant first. -/
def bitsOf (b : Byte) : List Bool := (List.range 8).map fun k => b.getLsbD (7 - k)

/-- The data transitions of bytes: one in the middle of the cell of each 1. -/
def fluxOf (bytes : List Byte) : List Flux :=
  (bytes.flatMap bitsOf).zipIdx.filterMap fun x => if x.1 then some ⟨2000 * x.2 + 1000, 100⟩ else none

/-- A sync run with all its clocks, and a mark with the clocks as given. -/
def markFlux (mark : Byte) (clocks : List Nat) : List Flux :=
  (List.range 64).map (fun i => ⟨2000 * i, 100⟩)
    ++ (List.range 8).flatMap fun k =>
      (if k ∈ clocks then [⟨2000 * (64 + k), 100⟩] else [])
        ++ if mark.getLsbD (7 - k) then [⟨2000 * (64 + k) + 1000, 100⟩] else []

/-- An ID mark: of its two plain clocks, in cells 3 and 4, the second is suppressed. -/
def idMarkFlux : List Flux := markFlux 0xC7 [3]

/-- A data mark: its one plain clock, in cell 3, is suppressed. -/
def dataMarkFlux : List Flux := markFlux 0xCB []

/-- Marks are read with their clock exception, and a plain byte of the same value is none (R46). -/
theorem test_marks_by_clock :
    ({} : Settings).markOf idMarkFlux = some (0xC7, 100) ∧ ({} : Settings).markOf dataMarkFlux = some (0xCB, 100)
      ∧ ({} : Settings).markOf (markFlux 0xC7 [3, 4]) = none := by decide +kernel

/-- The windows of R46: a transition 300 ns into its cell counts in the early window and not in the late one; one below the
threshold does not count. -/
theorem test_windows :
    ({ window := .early } : Settings).bytes 100 [⟨300, 60⟩] 1 = [0x80]
      ∧ ({ window := .late } : Settings).bytes 100 [⟨300, 60⟩] 1 = [0]
      ∧ ({ threshold := 70 } : Settings).bytes 100 [⟨1000, 60⟩] 1 = [0] := by decide +kernel

/-! ### States for the tests below -/

/-- A layout of four sectors of 128 bytes. -/
def lay : Layout := { density := .mfm, sizeCode := 0, spt := 4, first := 1, g0 := 32, g3 := 32, map := [1, 3, 2, 4] }

/-- A drive in READY with that layout, its heads loaded and its arm free at cylinder 10. -/
def rd : Drive :=
  { state := .ready, layoutKnown := true, generation := 1, cylinder := 10, heads := .loaded, headCount := 2
    profile := some ⟨3, 15, 35, 20, true⟩, lines := { ready := true }
    timer := { prev := some 0, p16 := some 2666800, active := some lay } }

/-- A sector in a state. -/
def sec (st : SectorState) (number : Nat) : Sector :=
  { state := st, number := number, dataVer := 5, writtenVer := 4, settledVer := 3, writtenCrc := 0, stamp := 0
    rush := false, attempts := 1, redirty := false, verify := false, check := false, cause := .write }

/-- A HELD frame of drive 0, cylinder 10, head 0, with one sector state in every slot. -/
def fr (st : SectorState) : Frame :=
  { held := true, key := ⟨0, 10, 0⟩, generation := 1, density := .mfm, sizeCode := 0, spt := 4, first := 1
    slotMap := [1, 3, 2, 4], sectors := [sec st 1, sec st 3, sec st 2, sec st 4] }

/-- RUNNING with two desks in the run and every drive in READY. -/
def run : State :=
  { g := 1000, ctl := .running, run := true, header := some ⟨2, 10, 60, 0xE5⟩, drives := Vector.replicate 4 rd }

/-- That state with another record for drive 0. -/
def withD (k : Drive → Drive) : State := run.withDrive 0 (k rd)

/-- A desk with its latch set and one order in flight. -/
def dk (st : DeskState) (look : Look) : Desk := { state := st, latch := true, inFlight := 1, look := look }

/-- The running state with another record for desk 1. -/
def withK (k : Desk) : State := run.withDesk 1 k

/-- The fields of an order on drive 0. -/
def fields (kind : Byte) (options : Byte) (block count scope : Nat) : OrderFields :=
  { kind := kind, options := options, drive := 0, block := block, count := count, mode := 0, scope := scope
    offset := 0, length := 0, buffer := 0x2000, buffer2 := 0x3000 }

/-- An order of desk 1 at a stage. -/
def ord (f : OrderFields) (st : Stage) : Order :=
  { addr := 0x1000, desk := 1, fields := f, generation := 1, takeStamp := 0, seq := 1, stage := st
    geometry := ⟨4, 1, 128, 2⟩, extent := some ⟨0, f.block, some f.count⟩ }

/-- A state with an order in entry 0. -/
def withO (s : State) (o : Order) : State := { s with table := s.table.set 0 (.order o) }

/-- What a test says of every order holds of the order in each entry. -/
theorem all_orders {s : State} {test : Order → Bool}
    (h : (List.finRange 32).all (fun e => match s.order? e with | some o => test o | none => true) = true) :
    ∀ e o, s.order? e = some o → test o = true := by
  intro e o ho
  have := List.all_eq_true.1 h e (List.mem_finRange e)
  rwa [ho] at this

/-- No order is in FILL, the Frame Wait Queue is empty and no drain or shed is in progress: checked by evaluation. -/
def quietNow (s : State) : Bool :=
  s.ctl != .draining && s.ctl != .shedding && s.fwq == []
    && (List.finRange 32).all (fun e => match s.order? e with | some o => o.stage != .fill | none => true)

theorem noneWaiting_of {s : State} (h : quietNow s = true) : s.noneWaiting := by
  simp only [quietNow, Bool.and_eq_true, bne_iff_ne, ne_eq, beq_iff_eq] at h
  obtain ⟨⟨⟨h1, h2⟩, h3⟩, h4⟩ := h
  exact ⟨⟨h1, h2⟩, h3, fun e o ho => by simpa using all_orders h4 e o ho⟩

theorem still_of {s : State} (h : quietNow s = true) : s.still := by
  have h' := noneWaiting_of h
  refine ⟨h'.1, ?_⟩
  rw [State.readyOrder?, List.find?_eq_none]
  intro e _
  cases ho : s.order? e with
  | none => simp
  | some o => simpa using fun h => absurd h (h'.2.2 e o ho)

theorem of_none {α : Type} {o : Option α} {p : α → Prop} (h : o = none) : ∀ x, o = some x → p x := by
  intro x hx
  rw [h] at hx
  cases hx

theorem of_some {α : Type} {o : Option α} {a : α} {p : α → Prop} (h : o = some a) (hp : p a) :
    ∀ x, o = some x → p x := by
  intro x hx
  rw [h] at hx
  cases hx
  exact hp

/-! ### Witnesses: states and operands that meet the hypotheses of each statement -/

/-- The running state in another controller state, with RUN as given. -/
def inCtl (c : CtlState) (r : Bool) : State := { run with ctl := c, run := r }

/-- A start that has read its header and waits for its probes, or for the warning. -/
def probing (warning : Bool) : State := { inCtl .starting true with start := .probing ⟨2, 10, 60, 0⟩, warning := warning }

/-- The running state with a CHECKOUT of desk 1 waiting in entry 0. -/
def waiting : State :=
  { withO run (ord (fields 6 0x80 0 2 0) .lock) with waiters := [⟨0, 1, 0, 0, 2, .edit⟩] }

/-- The running state with one HELD frame. -/
def withF (f : Frame) : State := { run with frames := run.frames.set 3 f }

theorem waiters_stand :
    ∀ w ∈ waiting.waiters, ∃ o, waiting.order? w.order = some o ∧ o.stage ≠ .finish := by
  intro w hw
  have hw : w ∈ [(⟨0, 1, 0, 0, 2, .edit⟩ : Waiter)] := hw
  obtain rfl := List.mem_singleton.1 hw
  exact ⟨_, rfl, by decide⟩

theorem witness_StepRunsTheFrontCommand :
    ({ run with pending := [.stampBound, .restart] } : State).pending = .stampBound :: [.restart] := rfl

theorem witness_EmptyQueueStepIsOneMicrosecond :
    run.pending = [] ∧ ((run.drive 0).state ≠ .absent ∧ (run.drive 0).state ≠ .empty)
      ∧ (State.reset.drive 0).state = .absent := by decide +kernel

theorem witness_OnlyAWrongLengthStops :
    ({ inCtl .starting true with start := .readingHeader } : State).badLength
        (.headerReadDone (.data (List.replicate 63 0)))
      ∧ ¬ ({ inCtl .starting true with start := .readingHeader } : State).badLength
        (.headerReadDone (.data (List.replicate 64 0)))
      ∧ ¬ run.badLength .restart := by
  unfold State.badLength
  decide +kernel

theorem witness_RegisterWindow :
    (3 ≠ 4 ∨ (0x00 : BitVec 5).toNat % 4 ≠ 0) ∧ (4 ≠ 4 ∨ (0x1D : BitVec 5).toNat % 4 ≠ 0)
      ∧ (2 : Word).getLsbD 1 = true
      ∧ ((1 : Word).getLsbD 1 = false ∧ (1 : Word).getLsbD 0 = true)
      ∧ ((4 : Word).getLsbD 1 = false ∧ (4 : Word).getLsbD 0 = false)
      ∧ (0x30F : Word).toNat % 16 = (15 : DeskNo).val := by decide +kernel

theorem witness_NoticesFallOnlyByCommand :
    (∃ t, exec (.runSet true) { run with notice := 0x100000 } = .next t)
      ∧ ({ run with notice := 0x100000 } : State).notice.getLsbD 20 = true :=
  ⟨⟨_, rfl⟩, by decide +kernel⟩

theorem witness_RunSet :
    ((inCtl .stopped false).ctl = .stopped ∧ (inCtl .stopped false).run = false)
      ∧ run.ctl = .running ∧ (inCtl .safe true).ctl = .safe ∧ (inCtl .failed true).ctl = .failed
      ∧ ((probing true).ctl = .starting ∧ (probing true).warning = true)
      ∧ ((withO (inCtl .shedding true) (ord (fields 2 0 0 1 0) .settle)).ctl = .shedding
        ∧ (withO (inCtl .shedding true) (ord (fields 2 0 0 1 0) .settle)).tableEmpty = false)
      ∧ (inCtl .draining false).ctl = .draining ∧ (inCtl .draining false).run = false
      ∧ ((withK (dk .idle .none)).desk 1).state = .idle ∧ (withK (dk .idle .none)).deskInRun 1 = true
      ∧ (run.desk 1).state ≠ .idle ∧ run.deskInRun 2 = false := by decide +kernel

theorem witness_RunClear :
    run.ctl = .running ∧ run.run = true ∧ run.tableEmpty = true ∧ run.anySector SectorState.unsettled = false
      ∧ (run.drive 0).sched.job = none
      ∧ (withF (fr .dirty)).anySector SectorState.unsettled = true ∧ waiting.tableEmpty = false
      ∧ waiting.waiters.length = 1 ∧ ((withK (dk .fetching .link)).desk 1).state = .fetching
      ∧ (run.desk 1).state ≠ .fetching
      ∧ (∀ w ∈ waiting.waiters, ∃ o, waiting.order? w.order = some o ∧ o.stage ≠ .finish)
      ∧ (inCtl .stopped false).ctl = .stopped ∧ (inCtl .safe true).ctl = .safe ∧ (inCtl .failed true).ctl = .failed
      ∧ ((probing true).start = .probing ⟨2, 10, 60, 0⟩ ∧ ∀ v, ((probing true).drive v).probing = false)
      ∧ ((probing true).withDrive 2 { profileReads := [.start] }).drive 2 = { profileReads := [.start] }
      ∧ (({ profileReads := [.start] } : Drive).probing = true)
      ∧ ((withO (inCtl .draining false) (ord (fields 2 0 0 1 0) .settle)).tableEmpty = false) := by
  refine ⟨rfl, rfl, ?_, ?_, rfl, ?_, ?_, rfl, rfl, ?_, waiters_stand, rfl, rfl, rfl, ⟨rfl, ?_⟩, rfl, ?_, ?_⟩ <;>
    decide +kernel

/-- A drive whose FORMAT_TRACK job is pending. -/
def jobD (d : Drive) (r : Bool) : Drive :=
  { d with sched := { job := some ⟨.formatTrack, 0, 0, 0, false, .format 0, r, .mfm, 0xE5⟩ } }

/-- Work of the channel of port 0 on drive 0. -/
def req (k : WorkKind) : Request := ⟨0, k, 10, 0, 1, 1000, false, false, 2, .mfm, 0xE5⟩

/-- A state with the channel of port 0 at work. -/
def withC (s : State) (h : Channel) : State := s.withChan 0 h

theorem witness_Restart :
    ((withF (fr .reading)).frame 3).held = true ∧ (run.frame 3).held = false
      ∧ ((withD id).drive 0).state ≠ .formatting
      ∧ (((withD fun d => { d with state := .formatting }).drive 0).state = .formatting
        ∧ ((withD fun d => { d with state := .formatting }).drive 0).sched.job = none)
      ∧ ((run.drive 0).sched.job = none ∧ (run.drive 0).state ≠ .discovery)
      ∧ ((withC run { state := .gate, work := some (req .write) }).chan 0).work = some (req .write)
      ∧ ((withC run { state := .gate, work := some (req .write) }).chan 0).state = .gate
      ∧ (let h : Channel := { state := .data, work := some (req .read) }
         ((withC run h).chan 0).work = some (req .read) ∧ (req .read).kind ≠ .formatTrack
           ∧ ∀ v, portOf v = 0 → ((withC run h).drive v).sched.job = none ∧ ((withC run h).drive v).state ≠ .discovery)
      ∧ (let s := withC (withD fun d => { d with state := .discovery }) { state := .listen, work := some (req .discover) }
         (s.chan 0).work = some (req .discover) ∧ portOf (req .discover).drive = 0 ∧ (s.drive 0).state = .discovery)
      ∧ (let s := run.withDrive 0 { jobD rd true with state := .formatting }
         (s.drive 0).state = .formatting
           ∧ (s.drive 0).sched.job = some ⟨.formatTrack, 0, 0, 0, false, .format 0, true, .mfm, 0xE5⟩
           ∧ ∀ p, (s.chan p).work = none)
      ∧ (let s := run.withDrive 0 (jobD rd true)
         (s.drive 0).state ≠ .formatting ∧ (s.drive 0).sched.job.map Job.running = some true)
      ∧ run.deskInRun 1 = true ∧ run.deskInRun 2 = false := by decide +kernel

theorem witness_PowerWarningRise :
    (inCtl .safe true).ctl ≠ .running ∧ (inCtl .safe true).ctl ≠ .draining ∧ (inCtl .safe true).ctl ≠ .shedding
      ∧ ((withO (inCtl .shedding true) (ord (fields 2 0 0 1 0) .settle)).ctl = .shedding
        ∧ (withO (inCtl .shedding true) (ord (fields 2 0 0 1 0) .settle)).tableEmpty = false)
      ∧ run.tableEmpty = true ∧ (∀ f, (run.frame f).held = false)
      ∧ (inCtl .draining false).ctl = .draining ∧ waiting.tableEmpty = false ∧ waiting.ctl = .running
      ∧ (∀ w ∈ waiting.waiters, ∃ o, waiting.order? w.order = some o ∧ o.stage ≠ .finish)
      ∧ (let s := withO run (ord (fields 1 0 0 1 0) .fill)
         s.waiters = [] ∧ s.order? 0 = some (ord (fields 1 0 0 1 0) .fill)
           ∧ (fields 1 0 0 1 0).kind? = some .read ∧ (fields 2 0 0 1 0).kind? = some .write
           ∧ (fields 3 0 0 1 0).kind? = some .exchange) := by
  refine ⟨?_, ?_, ?_, ?_, ?_, ?_, rfl, ?_, rfl, waiters_stand, ?_⟩ <;> decide +kernel

theorem witness_PowerWarningFall :
    (inCtl .stopped false).ctl = .stopped ∧ (inCtl .safe false).ctl = .safe ∧ (inCtl .safe false).run = false
      ∧ ((inCtl .safe true).ctl = .safe ∧ (inCtl .safe true).run = true)
      ∧ (({ withK (dk .idle .none) with ctl := .safe } : State).desk 1).state = .idle
      ∧ ((inCtl .safe true).deskInRun 1 = true ∧ (inCtl .safe true).deskInRun 2 = false)
      ∧ (probing true).ctl = .starting ∧ (probing true).start = .probing ⟨2, 10, 60, 0⟩
      ∧ (∀ v, ((probing true).drive v).probing = false) ∧ (probing true).run = true
      ∧ ((⟨2, 10, 60, 0⟩ : Header).deskCount ≤ (2 : DeskNo).val ∧ (1 : DeskNo).val < (⟨2, 10, 60, 0⟩ : Header).deskCount)
      ∧ ((withO (inCtl .draining false) (ord (fields 2 0 0 1 0) .settle)).tableEmpty = false) := by decide +kernel

theorem witness_Attend :
    ((withK (dk .idle .none)).still ∧ (withK (dk .idle .none)).ctl = .running
      ∧ (withK (dk .idle .none)).deskInRun 1 = true ∧ ((withK (dk .idle .none)).desk 1).state = .idle)
    ∧ ((withK (dk .fetching .link)).still ∧ ((withK (dk .fetching .link)).desk 1).state = .fetching)
    ∧ ((withK (dk .halting .none)).still ∧ ((withK (dk .halting .none)).desk 1).state = .halting) :=
  ⟨⟨still_of (by decide +kernel), by decide +kernel⟩, ⟨still_of (by decide +kernel), by decide +kernel⟩,
    still_of (by decide +kernel), by decide +kernel⟩

theorem witness_HaltAndWhatIsIgnored :
    (run.ctl = .running ∧ run.deskInRun 1 = true ∧ (run.desk 1).state = .halted
      ∧ ((withK (dk .fetching .link)).desk 1).state = .fetching ∧ 0 < ((withK (dk .fetching .link)).desk 1).inFlight
      ∧ ((withK (dk .idle .none)).desk 1).state = .idle ∧ (withK (dk .idle .none)).reservedFor? 1 = none
      ∧ (∀ w ∈ waiting.waiters, w.desk = 1) ∧ waiting.waiters.length = 1)
    ∧ run.deskInRun 2 = false ∧ (inCtl .draining false).ctl ≠ .running
    ∧ ((inCtl .safe true).ctl ≠ .running ∧ (inCtl .safe true).ctl ≠ .draining ∧ (inCtl .safe true).ctl ≠ .shedding)
    ∧ run.still := ⟨by decide +kernel, by decide +kernel, by decide +kernel, by decide +kernel, still_of (by decide +kernel)⟩

theorem witness_DeskRestart :
    (run.still ∧ run.ctl = .running ∧ run.deskInRun 1 = true ∧ (run.desk 1).state = .halted)
      ∧ (withK (dk .halting .none)).still ∧ ((withK (dk .halting .none)).desk 1).state ≠ .halted :=
  ⟨⟨still_of (by decide +kernel), by decide +kernel⟩, still_of (by decide +kernel), by decide +kernel⟩

/-- A SHARE lock of desks 1 and 2, and an EDIT lock of desk 3. -/
def locked : State :=
  { run with locks := [⟨0, 0, 4, .share, [1, 2]⟩, ⟨0, 8, 4, .edit, [3]⟩] }

theorem witness_Releases :
    (∀ w ∈ locked.waiters, w.desk ≠ 1) ∧ locked.still ∧ locked.waiters = []
      ∧ (let s := withO locked (ord (fields 7 0 0 4 0) .check)
         s.order? 0 = some (ord (fields 7 0 0 4 0) .check) ∧ (fields 7 0 0 4 0).kind? = some .release
           ∧ s.waiters = [] ∧ s.locks = [] ++ ⟨0, 0, 4, .share, [1, 2]⟩ :: [⟨0, 8, 4, .edit, [3]⟩])
      ∧ (let s := withO locked (ord (fields 7 0 8 4 0) .check)
         ∀ l ∈ s.locks, ¬ (l.drive = 0 ∧ l.first = 8 ∧ l.count = 4 ∧ (1 : DeskNo) ∈ l.holders))
      ∧ (ord (fields 7 0 8 4 0) .check).stage ≠ .finish :=
  ⟨by decide +kernel, still_of (by decide +kernel), rfl, by decide +kernel, by decide +kernel, by decide +kernel⟩

/-- A CHECKOUT of desk 1 on drive 0. -/
def checkout (options : Byte) (block : Nat) (mode : Byte) : Order :=
  ord { fields 6 options block 4 0 with mode := mode } .check

/-- The locked state with 24 locks on another drive. -/
def fullLocks : State := { run with locks := List.replicate 24 ⟨1, 0, 4, .share, [2]⟩ }

/-- A WRITE of desk 2 in flight over blocks 4 to 7, and a waiting CHECKOUT of desk 2 over blocks 16 to 19. -/
def writingOver : State :=
  { run with
    table := run.table.set 1 (.order { ord (fields 2 0 4 4 0) .settle with desk := 2, passed := true })
    waiters := [⟨2, 2, 0, 16, 4, .share⟩] }

theorem witness_CheckoutDecision :
    (let s := withO locked (checkout 0 0 0)
     s.order? 0 = some (checkout 0 0 0) ∧ (checkout 0 0 0).stage ≠ .finish
       ∧ (checkout 0 0 0).fields.kind? = some .checkout
       ∧ s.locks = [] ++ ⟨0, 0, 4, .share, [1, 2]⟩ :: [⟨0, 8, 4, .edit, [3]⟩])
    ∧ (let o := { checkout 0 0 1 with desk := 5 }
       let s := withO locked o
       s.order? 0 = some o ∧ (∀ l ∈ s.locks, o.desk ∉ l.holders) ∧ s.writingInFlight = [] ∧ s.waiters = []
        ∧ s.locks = [] ++ ⟨0, 0, 4, .share, [1, 2]⟩ :: [⟨0, 8, 4, .edit, [3]⟩] ∧ (o.claim 0).mode = .share
        ∧ ¬ (⟨0, 8, 4, .edit, [3]⟩ : Lock).extent.overlaps (o.claim 0).extent = true)
    ∧ ((∀ l ∈ locked.locks, l.extent.overlaps ((checkout 0 4 0).claim 0).extent = false) ∧ locked.locks.length < 24
      ∧ (checkout 0 4 0).fields.mode = 0)
    ∧ ((∀ l ∈ fullLocks.locks, l.extent.overlaps ((checkout 0 4 0).claim 0).extent = false)
      ∧ 24 ≤ fullLocks.locks.length)
    ∧ (let w := (checkout 0 11 0).claim 0
       (∀ l ∈ locked.locks, ¬ ((1 : DeskNo) ∈ l.holders ∧ l.extent.overlaps w.extent = true))
        ∧ ∃ l ∈ locked.locks, (1 : DeskNo) ∉ l.holders ∧ l.extent.overlaps w.extent = true ∧ l.mode = .edit)
    ∧ (let w := (checkout 0 7 0).claim 0
       writingOver.locks = [] ∧ ∃ x ∈ writingOver.writingInFlight, x.desk ≠ 1 ∧ ∃ a, x.extent = some a
          ∧ a.overlaps w.extent = true)
    ∧ (let w := (checkout 0 19 0).claim 0
       writingOver.locks = [] ∧ (∀ x ∈ writingOver.writingInFlight, x.extent = some ⟨0, 4, some 4⟩)
        ∧ (⟨0, 4, some 4⟩ : Extent).overlaps w.extent = false ∧ ∃ x ∈ writingOver.waiters, x.extent.overlaps w.extent = true)
    ∧ ((checkout 0x80 11 0).fields.waits = true ∧ (checkout 0 11 0).fields.waits = false ∧ locked.waiters.length < 16
      ∧ ({ locked with waiters := List.replicate 16 ⟨1, 2, 0, 0, 1, .edit⟩ } : State).waiters.length = 16) := by
  refine ⟨?_, ?_, ?_, ?_, ?_, ⟨rfl, _, List.mem_of_getElem? (i := 0) rfl, ?_, _, rfl, ?_⟩, ?_, ?_⟩ <;> decide +kernel

theorem witness_MediaLoad :
    (run.drive 0).lines.ready = true
      ∧ ((withD fun d => { d with lines := {} }).drive 0).state ≠ .empty
      ∧ (((withD fun _ => { state := .empty }).drive 0).lines.ready = false
        ∧ ((withD fun _ => { state := .empty }).drive 0).state = .empty
        ∧ ((withD fun _ => { state := .empty }).drive 0).lines.driveFault = false)
      ∧ ((withD fun _ => { state := .empty, lines := { driveFault := true } }).drive 0).lines.driveFault = true := by
  decide +kernel

theorem witness_MediaChange :
    ((withD fun d => { d with lines := {} }).drive 0).lines.ready = false
      ∧ (((withD fun _ => { lines := { ready := true } }).drive 0).lines.ready = true
        ∧ ((withD fun _ => { lines := { ready := true } }).drive 0).state = .absent)
      ∧ (let o := ord (fields 1 0 0 4 0) .fill
         let s := withO (withF (fr .wanted)) o
         (s.drive 0).lines.ready = true ∧ (s.drive 0).state ≠ .absent ∧ s.waiters = [] ∧ (s.frame 3).held = true
           ∧ s.order? 0 = some o ∧ o.stage ≠ .finish ∧ o.fields.drive = 0 ∧ o.fields.kind? = some .read)
      ∧ ((fields 4 0 0 1 1).kind? = some .flush ∧ (fields 4 0 0 1 1).scope = 1 ∧ (fields 4 0 0 1 0).scope ≠ 1
        ∧ (∃ y ∈ [(⟨3, 0, 1, 80, 5, .awaited⟩ : Target)], y.drive = 0 ∧ y.state = .awaited)
        ∧ (fields 8 0 0 1 0).kind? = some .format)
      ∧ (waiting.drive 0).lines.ready = true ∧ (∀ w ∈ waiting.waiters, w.drive = (0 : DriveNo).val)
      ∧ waiting.waiters.length = 1
      ∧ (∀ w ∈ waiting.waiters, ∃ o, waiting.order? w.order = some o ∧ o.stage ≠ .finish) := by
  refine ⟨?_, ?_, ?_, ?_, ?_, ?_, ?_, waiters_stand⟩ <;> decide +kernel

theorem witness_DriveFaultRise :
    ((withD fun d => { d with lines := { driveFault := true } }).drive 0).lines.driveFault = true
      ∧ (run.drive 0).lines.driveFault = false
      ∧ ((withD fun d => { d with state := .absent }).drive 0).state = .absent
      ∧ (((withD fun d => { d with state := .fault, cause := .seek }).drive 0).state = .fault
        ∧ ((withD fun d => { d with state := .fault, cause := .seek }).drive 0).cause ≠ .speed)
      ∧ (((withD fun d => { d with state := .fault, cause := .speed }).drive 0).state = .fault
        ∧ ((withD fun d => { d with state := .fault, cause := .speed }).drive 0).cause = .speed)
      ∧ ((run.drive 0).state ≠ .absent ∧ (run.drive 0).state ≠ .empty ∧ (run.drive 0).state ≠ .fault) := by
  decide +kernel

/-- The running state with drive 0 in FAULT with cause DRIVE, its line still high. -/
def faulted (known inc tz : Bool) : State := withD fun d =>
  { d with
    state := .fault, cause := .drive, heads := .unloaded, layoutKnown := known, incomplete := inc
    faultStamp := some 0, expiry := .armed
    lines := { ready := true, driveFault := true, trackZero := some tz } }

theorem witness_DriveFaultFall :
    (run.drive 0).lines.driveFault = false
      ∧ (((withD fun d => { d with lines := { driveFault := true } }).drive 0).lines.driveFault = true
        ∧ ((withD fun d => { d with lines := { driveFault := true } }).drive 0).state ≠ .fault)
      ∧ (((faulted true false false).drive 0).state = .fault ∧ ((faulted true false false).drive 0).cause = .drive
        ∧ ((faulted true false false).drive 0).lines.driveFault = true
        ∧ ((faulted true false false).drive 0).lines.trackZero = some false)
      ∧ (((faulted true false true).drive 0).lines.trackZero = some true
        ∧ ((faulted true false true).drive 0).layoutKnown = true)
      ∧ (((faulted false true true).drive 0).layoutKnown = false ∧ ((faulted false true true).drive 0).incomplete = true)
      ∧ (((faulted false false true).drive 0).layoutKnown = false
        ∧ ((faulted false false true).drive 0).incomplete = false) := by decide +kernel

/-- A pulse of drive 0 comes at time `g`, the last one having come at 0. -/
def pulseAt (g : Word) (k : Drive → Drive) : State := { withD k with g := g }

theorem witness_IndexPulseAtTheTimer :
    ((withD fun d => { d with state := .empty }).drive 0).state = .empty
      ∧ ((run.drive 0).state ≠ .absent ∧ (run.drive 0).state ≠ .empty)
      ∧ ((withD fun d => { d with timer := {} }).drive 0).timer.prev = none
      ∧ (run.drive 0).timer.prev = some 0
      ∧ (161667 ≤ ((pulseAt 161667 id).g - 0).toNat ∧ ((pulseAt 161667 id).g - 0).toNat ≤ 171667)
      ∧ ((pulseAt 161666 id).g - 0).toNat < 161667 ∧ 171667 < ((pulseAt 171668 id).g - 0).toNat
      ∧ (run.drive 0).timer.p16 = some 2666800 ∧ (run.chan 0).state ≠ .listen
      ∧ ((withD fun d => { d with health := { counters := Vector.replicate 8 0xFFFF } }).drive 0).health.counters[6] =
          0xFFFF := by decide +kernel

/-- Drive 0 with its runs and in a state. -/
def spun (st : DriveState) (cause : Cause) (acc rej : Nat) (d : Drive) : Drive :=
  { d with state := st, cause := cause, timer := { d.timer with acc := acc, rej := rej } }

theorem witness_SpeedReports :
    ((pulseAt 171667 (spun .spinup .none 1 0)).drive 0).timer.prev = some 0
      ∧ ((pulseAt 171667 (spun .spinup .none 1 0)).g - 0).toNat ≤ 171667
      ∧ (((pulseAt 171667 (spun .spinup .none 1 0)).drive 0).timer.acc = 1
        ∧ ((pulseAt 171667 (spun .spinup .none 1 0)).drive 0).state = .spinup
        ∧ ((pulseAt 171667 (spun .spinup .none 1 0)).drive 0).lines.trackZero = some false
        ∧ ((pulseAt 171667 (spun .spinup .none 1 0)).chan 0).work = none)
      ∧ ((pulseAt 161667 (spun .spinup .none 0 0)).drive 0).timer.acc ≠ 1
      ∧ (((pulseAt 161667 (spun .fault .speed 3 0)).drive 0).timer.acc = 3
        ∧ ((pulseAt 161667 (spun .fault .speed 3 0)).drive 0).layoutKnown = true
        ∧ ((pulseAt 161667 (spun .fault .speed 3 0)).drive 0).recalStopped = false)
      ∧ (171667 < ((pulseAt 171668 (spun .ready .none 0 3)).g - 0).toNat
        ∧ ((pulseAt 171668 (spun .ready .none 0 3)).drive 0).timer.rej = 3
        ∧ ((pulseAt 171668 (spun .ready .none 0 3)).drive 0).state = .ready) := by decide +kernel

theorem witness_EstimateConverges :
    16 * 161667 ≤ 16 * 171667 ∧ 161667 ≤ 161667 ∧ 161667 ≤ 171667 := by decide

theorem witness_SpeedTimeouts :
    (∀ x, (run.drive 0).timer.noIndex = some x → reached run.g x = false)
      ∧ (let s := withD fun d => { d with timer := { d.timer with noIndex := some 1000 } }
         (s.drive 0).timer.noIndex = some 1000 ∧ reached s.g 1000 = true
           ∧ (s.drive 0).state ≠ .absent ∧ (s.drive 0).state ≠ .empty ∧ (s.drive 0).state ≠ .fault)
      ∧ ((withD fun d => { d with state := .fault }).drive 0).state = .fault ∧ (run.drive 0).state ≠ .spinup
      ∧ (let s := { withD fun d => { d with state := .spinup, loadStamp := some 0 } with g := 5000000 }
         (s.drive 0).state = .spinup ∧ (s.drive 0).loadStamp = some 0 ∧ reached s.g (0 + 5000000) = true) :=
  ⟨of_none (by decide +kernel), by decide +kernel⟩

/-- Drive 0 in FAULT since time 0, its fault expiry armed, and a time of `g`. -/
def expiring (g : Word) (f : Frame) : State :=
  { withF f with
    g := g
    drives := run.drives.set 0 { rd with state := .fault, cause := .drive, faultStamp := some 0, expiry := .armed } }

theorem witness_FaultExpiry :
    (∀ x, ((expiring 1999999 (fr .dirty)).drive 0).faultStamp = some x →
        reached (expiring 1999999 (fr .dirty)).g (x + 2000000) = false)
      ∧ (let s := { withO (expiring 2000000 (fr .dirty)) (ord (fields 1 0 0 4 0) .frame) with
            fwq := [⟨0, ⟨0, 0, 0⟩, 1, 0, false⟩] }
         (s.drive 0).state = .fault ∧ s.waiters = [] ∧ s.order? 0 = some (ord (fields 1 0 0 4 0) .frame)
           ∧ (∃ w ∈ s.fwq, w.order = 0))
      ∧ (let s := withO (expiring 2000000 (fr .dirty)) (ord (fields 1 0 0 4 0) .frame)
         (s.drive 0).state = .fault ∧ (s.drive 0).expiry = .armed ∧ (s.drive 0).faultStamp = some 0
           ∧ reached s.g (0 + 2000000) = true ∧ s.readyOrder? = none ∧ s.fwq = [] ∧ (s.frame 3).held = true
           ∧ (s.frame 3).key.drive = 0 ∧ (s.frame 0).held = false ∧ s.waiters = []
           ∧ s.order? 0 = some (ord (fields 1 0 0 4 0) .frame) ∧ (ord (fields 1 0 0 4 0) .frame).stage = .frame) :=
  ⟨of_some (a := 0) (by decide +kernel) (by decide +kernel), by decide +kernel⟩

/-- A header with a mark, a desk count and an overdue limit. -/
def header (low high count overdue : Byte) : List Byte := [low, high, count, overdue] ++ List.replicate 60 0

theorem witness_HeaderReadDone :
    run.ctl ≠ .starting
      ∧ (let s := { inCtl .starting true with start := .readingHeader }
         s.ctl = .starting ∧ s.start = .readingHeader ∧ s.still)
      ∧ (fieldAt (header 0x43 0x4E 1 1) 0 2 ≠ 0x4E42 ∧ (header 0x43 0x4E 1 1).length = 64)
      ∧ (fieldAt (header 0x42 0x4E 17 1) 0 2 = 0x4E42 ∧ 16 < fieldAt (header 0x42 0x4E 17 1) 2 1)
      ∧ (1 ≤ fieldAt (header 0x42 0x4E 16 51) 2 1 ∧ fieldAt (header 0x42 0x4E 16 51) 2 1 ≤ 16
        ∧ 50 < fieldAt (header 0x42 0x4E 16 51) 3 1)
      ∧ (1 ≤ fieldAt (header 0x42 0x4E 1 50) 3 1 ∧ fieldAt (header 0x42 0x4E 1 50) 3 1 ≤ 50) := by
  refine ⟨?_, ⟨rfl, rfl, still_of ?_⟩, ?_, ?_, ?_, ?_⟩ <;> decide +kernel

/-- The five profile bytes of an enabled or a disabled drive. -/
def profile (enable : Byte) : DmaRead := .data [enable, 1, 60, 9, 20]

theorem witness_ProfileReadDone :
    (∀ b, profile 1 = .data b → b.length = 5) ∧ (run.drive 0).profileReads = []
      ∧ (let s := withD fun d => { d with profileReads := [.load, .start] }
         (s.drive 0).profileReads = .load :: [.start] ∧ s.still)
      ∧ (let s := withD fun d => { d with profileReads := [.start] }
         (s.drive 0).profileReads = .start :: [] ∧ s.still ∧ ¬ s.ctl = .starting)
      ∧ (let s := (probing false).withDrive 0 { profileReads := [.start] }
         (s.drive 0).profileReads = .start :: [] ∧ s.still ∧ (s.ctl = .starting ∧ ∃ h, s.start = .probing h)
           ∧ (s.drive 0).state = .absent ∧ (s.drive 0).arm = .free ∧ ReadPurpose.probe ∉ ([] : List ReadPurpose))
      ∧ (let s := (probing false).withDrive 0 { profileReads := [.start], arm := .probe .outward 1 2000 }
         s.still ∧ ∃ phase n x, (s.drive 0).arm = .probe phase n x)
      ∧ (profileOf [1, 1, 60, 9, 20]).enabled = true ∧ (profileOf [0, 1, 60, 9, 20]).enabled = false
      ∧ (let s := (probing false).withDrive 0 { profileReads := [.probe] }
         (s.drive 0).profileReads = .probe :: [] ∧ s.still ∧ (s.drive 0).arm = .free) := by
  refine ⟨?_, by decide +kernel, ⟨rfl, still_of (by decide +kernel)⟩,
    ⟨rfl, still_of (by decide +kernel), by decide +kernel⟩,
    ⟨rfl, still_of (by decide +kernel), ⟨rfl, _, rfl⟩, rfl, rfl, by decide⟩,
    ⟨still_of (by decide +kernel), _, _, _, rfl⟩, by decide +kernel, by decide +kernel,
    rfl, still_of (by decide +kernel), rfl⟩
  intro b hb
  cases hb
  rfl

/-- An ABSENT drive under a probe. -/
def armed (a : Arm) : State := (inCtl .running true).withDrive 0 { rd with state := .absent, arm := a }

/-- Drive 0 at the end of its probe in a start, the other drives as given. -/
def startsWith (warning : Bool) (d : Drive) : State := (probing warning).withDrive 0 { rd with
  state := d.state, arm := d.arm, profileReads := d.profileReads, lines := d.lines }

/-- Whether a drive is still probed after drive 0 has come to rest. -/
def othersProbe (s : State) : Bool :=
  (List.finRange 4).any fun w => ((s.withDrive 0 { s.drive 0 with arm := .free, profileReads := [] }).drive w).probing

theorem witness_Probes :
    (((armed (.probe .outward 1 1001)).drive 0).arm = .probe .outward 1 1001
        ∧ reached (armed (.probe .outward 1 1001)).g 1001 = false)
      ∧ ((run.drive 0).arm = .free)
      ∧ (((armed (.probe .inward 1 1000)).drive 0).arm = .probe .inward 1 1000
        ∧ reached (armed (.probe .inward 1 1000)).g 1000 = true ∧ (armed (.probe .inward 1 1000)).still)
      ∧ ((armed (.probe (.back true) 2 1000)).still ∧ (armed (.probe (.back true) 2 1000)).ctl ≠ .starting)
      ∧ (armed (.probe .outward 79 1000)).still ∧ (armed (.probe .outward 80 1000)).still
      ∧ reached (armed (.probeSettle 1001)).g 1001 = false
      ∧ (((armed (.probeSettle 1000)).drive 0).arm = .probeSettle 1000
        ∧ reached (armed (.probeSettle 1000)).g 1000 = true ∧ ((armed (.probeSettle 1000)).drive 0).lines.ready = true
        ∧ ((armed (.probeSettle 1000)).drive 0).lines.driveFault = false)
      ∧ (let s := startsWith false { arm := .probe (.back false) 2 1000 }
         s.still ∧ s.ctl = .starting ∧ s.start = .probing ⟨2, 10, 60, 0⟩ ∧ (s.drive 0).arm = .probe (.back false) 2 1000
           ∧ reached s.g 1000 = true ∧ othersProbe s = false ∧ s.run = true ∧ s.warning = false)
      ∧ ((startsWith true { arm := .probe .outward 80 1000 }).still
        ∧ (startsWith true { arm := .probe .outward 80 1000 }).warning = true)
      ∧ othersProbe ((startsWith false { arm := .probe .outward 80 1000 }).withDrive 1 { profileReads := [.start] }) = true
      ∧ ({ startsWith false { arm := .probe .outward 80 1000 } with run := false } : State).run = false
      ∧ ((startsWith false { arm := .probeSettle 1000 }).still
        ∧ ((startsWith false { arm := .probeSettle 1000 }).drive 0).lines.ready = false
        ∧ ((startsWith false { arm := .probeSettle 1000, lines := { ready := true } }).drive 0).lines.ready = true)
      ∧ ((startsWith false { state := .empty, profileReads := [.start] }).still
        ∧ ((startsWith false { state := .empty, profileReads := [.start] }).drive 0).state = .empty
        ∧ ((startsWith false { profileReads := [.start] }).drive 0).state = .absent
        ∧ ((startsWith false { profileReads := [.start] }).drive 0).cause = .none
        ∧ (profileOf [0, 1, 60, 9, 20]).enabled = false) := by
  refine ⟨?_, ?_, ⟨rfl, ?_, still_of ?_⟩, ⟨still_of ?_, ?_⟩, still_of ?_, still_of ?_, ?_, ?_, ⟨still_of ?_, ?_⟩,
    ⟨still_of ?_, ?_⟩, ?_, ?_, ⟨still_of ?_, ?_⟩, still_of ?_, ?_⟩ <;> decide +kernel

/-- A READY drive with its arm moving, its scheduler in a state, and one frame. -/
def moving (a : Arm) (x : SchedState) (f : Frame) : State :=
  (withF f).withDrive 0 { rd with arm := a, sched := { state := x } }

/-- The sector of slot 0 of the test frame as a WRITE candidate. -/
def cand0 : Cand := ⟨.write, ⟨10, 0, some 0⟩, 0, false⟩

/-- A drive whose RECAL job runs. -/
def recalD (a : Arm) : Drive :=
  { rd with
    arm := a
    sched := { state := .recalibrating, job := some ⟨.recal, 10, 0, 0, false, .channel, true, .mfm, 0⟩ } }

theorem witness_HeadsAndSeeks :
    (let s := (withD fun d => { d with heads := .loading 0 })
     reached ({ s with g := 35000 } : State).g (0 + BitVec.ofNat 32 (1000 * (s.drive 0).profileOrZero.headLoadMs)) = true
      ∧ reached ({ s with g := 34999 } : State).g (0 + BitVec.ofNat 32 (1000 * (s.drive 0).profileOrZero.headLoadMs)) =
        false)
      ∧ reached (moving (.seek 1 1001 false) .quiet (fr .valid)).g 1001 = false
      ∧ (((moving (.seek 0 1000 false) .quiet (fr .valid)).drive 0).arm = .seek 0 1000 false
        ∧ reached (moving (.seek 0 1000 false) .quiet (fr .valid)).g 1000 = true)
      ∧ ((moving (.seekSettle 1000 false) .quiet (fr .valid)).still
        ∧ ((moving (.seekSettle 1000 false) .quiet (fr .valid)).drive 0).sched.state ≠ .moving)
      ∧ ((moving (.seekSettle 1000 false) .moving (fr .valid)).still
        ∧ (moving (.seekSettle 1000 false) .moving (fr .valid)).served 0 = [])
      ∧ (∃ y cost overdue a, (moving (.seekSettle 1000 false) .moving (fr .dirty)).pick 0 none = .file y cost overdue a)
      ∧ (let s := run.withDrive 0 (recalD (.seekSettle 1000 true))
         ∃ j, (s.drive 0).sched.job = some j ∧ j.kind = .recal ∧ j.running = true ∧ (s.drive 0).state ≠ .discovery)
      ∧ ((run.withDrive 0 { rd with arm := .seekSettle 1000 true }).still
        ∧ ((run.withDrive 0 { rd with arm := .seekSettle 1000 true }).drive 0).sched.job = none)
      ∧ (let s := pulseAt 166700 fun d => { d with sched := { idle := 19 } }
         s.still ∧ (s.drive 0).timer.prev = some 0 ∧ (s.drive 0).state = .ready ∧ (s.chan 0).work = none
           ∧ (s.drive 0).sched.state = .quiet ∧ (s.drive 0).heads ≠ .unloaded ∧ (s.drive 0).arm = .free ∧ s.served 0 = []
           ∧ (s.drive 0).profileOrZero.headIdleRevs ≤ min 255 (19 + 1))
      ∧ (run.drive 0).profileOrZero.headIdleRevs ≠ 0 ∧ min 255 (18 + 1) < (run.drive 0).profileOrZero.headIdleRevs := by
  refine ⟨?_, ?_, ?_, ⟨still_of ?_, ?_⟩, ⟨still_of ?_, ?_⟩, ⟨_, _, _, _, rfl⟩, ⟨_, rfl, rfl, rfl, ?_⟩,
    ⟨still_of ?_, ?_⟩, ⟨still_of ?_, ?_⟩, ?_, ?_⟩ <;> decide +kernel

/-- A drive in RECAL with its arm as given and its marks. -/
def recalling (a : Arm) (known inc : Bool) : State :=
  run.withDrive 0 { rd with state := .recal, arm := a, layoutKnown := known, incomplete := inc }

theorem witness_Recalibrations :
    reached (recalling (.recal 1 1001 none) true false).g 1001 = false
      ∧ (((recalling (.recal 79 1000 none) true false).drive 0).arm = .recal 79 1000 none
        ∧ reached (recalling (.recal 79 1000 none) true false).g 1000 = true
        ∧ (recalling (.recal 79 1000 none) true false).still)
      ∧ ((recalling (.recal 80 1000 none) true false).drive 0).state ≠ .fault
      ∧ (((recalling (.recalSettle 1000 none) true false).drive 0).state = .recal
        ∧ ((recalling (.recalSettle 1000 none) true false).drive 0).layoutKnown = true
        ∧ ((recalling (.recalSettle 1000 none) true false).drive 0).sched.job = none)
      ∧ (((recalling (.recalSettle 1000 none) false true).drive 0).layoutKnown = false
        ∧ ((recalling (.recalSettle 1000 none) false true).drive 0).incomplete = true)
      ∧ ((recalling (.recalSettle 1000 none) false false).drive 0).incomplete = false
      ∧ (run.withDrive 0 (recalD (.recalSettle 1000 (some 10)))).still
      ∧ (let s := run.withDrive 0 (recalD (.recalSettle 1000 (some 0)))
         ∃ j, (s.drive 0).sched.job = some j ∧ j.kind = .recal ∧ j.running = true
           ∧ (s.drive 0).arm = .recalSettle 1000 (some 0) ∧ (s.drive 0).state ≠ .discovery)
      ∧ ((recalling (.recalSettle 1000 none) true false).still
        ∧ ∀ f, ((recalling (.recalSettle 1000 none) true false).frame f).held = false) := by
  refine ⟨?_, ⟨rfl, ?_, still_of ?_⟩, ?_, ?_, ?_, ?_, still_of ?_, ⟨_, rfl, rfl, rfl, rfl, ?_⟩, still_of ?_, ?_⟩ <;>
    decide +kernel

theorem witness_StampsStallsAndCounters :
    ((let s := { run with g := 1000000, fwq := [⟨0, ⟨0, 10, 0⟩, 1, 0, false⟩] }
     s.header = some ⟨2, 10, 60, 0xE5⟩ ∧ (∃ w ∈ s.fwq, w.order = 0 ∧ w.stalled = false
      ∧ 10 * 100000 ≤ (s.g - w.stamp).toNat)) ∧ run.fwq = [])
      ∧ (∀ x, run.snapTimer = some x → reached run.g x = false)
      ∧ (({ run with snapTimer := some 1000 } : State).snapTimer = some 1000 ∧ reached run.g 1000 = true)
      ∧ (({} : Health).counters[Counter.recal.index.val] ≠ 0xFFFF)
      ∧ (({ counters := Vector.replicate 8 0xFFFF } : Health).counters[Counter.recal.index.val] = 0xFFFF)
      ∧ (0 : Fin 8) ≠ Counter.recal.index := ⟨by decide +kernel, of_none rfl, by decide +kernel⟩

/-- The four bytes of a link. -/
def link (a b c d : Byte) : List Byte := [a, b, c, d]

theorem witness_ChainReadsThatFail :
    (let s := withK (dk .fetching .link)
     s.ctl = .running ∧ s.deskInRun 1 = true ∧ (s.desk 1).state = .fetching ∧ (s.desk 1).look = .link
       ∧ (s.desk 1).cursor = none)
      ∧ (let s := withK { dk .fetching .link with cursor := some 0x100 }
         leNat (link 0 0 0 0) = 0 ∧ (s.desk 1).cursor ≠ none)
      ∧ (leNat (link 8 0 0 0) ≠ 0 ∧ leNat (link 8 0 0 0) % 16 ≠ 0) ∧ 16777216 ≤ leNat (link 0 0 0 1)
      ∧ (∃ a, ((withK (dk .fetching (.block 0x100))).desk 1).look = .block a)
      ∧ (∃ a f, ((withK (dk .fetching (.taking 0x100 (fields 1 0 0 1 0)))).desk 1).look = .taking a f) := by
  refine ⟨?_, ?_, ?_, ?_, ⟨_, rfl⟩, _, _, rfl⟩ <;> decide +kernel

/-- An Order Block: a READ of one block, in a state and with options. -/
def block (state options : Byte) : List Byte :=
  [0, 0, 0, 0, state, 1, options, 0, 0, 0, 0, 0, 1, 0, 0, 0] ++ List.replicate 48 0

/-- Desk 1 reading a block, with a number of orders in flight and the table as given. -/
def reading (n : Nat) (table : Vector Slot 32) : State :=
  { withK { dk .fetching (.block 0x100) with inFlight := n, latch := false } with table := table }

/-- A table full of orders that wait for their drain. -/
def fullTable : Vector Slot 32 := Vector.replicate 32 (.order (ord (fields 4 0 0 1 0) .settle))

/-- A table with one WRITE of block 0 by desk 1. -/
def oneWrite : Vector Slot 32 := run.table.set 0 (.order (ord (fields 2 0 0 1 0) .settle))

theorem witness_ChainLooks :
    (let s := withK (dk .fetching .link)
     s.still ∧ s.ctl = .running ∧ s.deskInRun 1 = true ∧ s.reservedFor? 1 = none ∧ (s.desk 1).latch = true
       ∧ (s.desk 1).look = .link ∧ (s.desk 1).cursor = none)
      ∧ (leNat (link 0xF0 0xFF 0xFF 0) % 16 = 0 ∧ leNat (link 0xF0 0xFF 0xFF 0) < 16777216)
      ∧ ((reading 0 run.table).still ∧ byteAt (block 0 0) 4 ≠ 1 ∧ byteAt (block 1 0) 4 = 1
        ∧ ((reading 0 run.table).desk 1).latch = false)
      ∧ (4 ≤ ((reading 4 run.table).desk 1).inFlight)
      ∧ (((reading 3 fullTable).desk 1).inFlight < 4 ∧ ∀ e, (reading 3 fullTable).slot e ≠ .free)
      ∧ ((orderFieldsOf (block 1 4)).options.getLsbD 2 = true ∧ 0 < ((reading 1 oneWrite).desk 1).inFlight)
      ∧ ((reading 1 oneWrite).slot 1 = .free ∧ ∀ e', (reading 1 oneWrite).slot e' = .free → (1 : EntryNo) ≤ e')
      ∧ (∃ x, (orderFieldsOf (block 1 0)).extent ((reading 1 oneWrite).knownGeometry 0) = some x
        ∧ x.overlaps ⟨0, 0, some 1⟩ = true ∧ (ord (fields 2 0 0 1 0) .settle).extent = some ⟨0, 0, some 1⟩)
      ∧ (let s := reading 3 (oneWrite.set 7 (.reserved 1))
         s.still ∧ s.reservedFor? 1 = some 7 ∧ s.tableWait = [] ∧ (s.desk 1).inFlight < 4
           ∧ (orderFieldsOf (block 1 0)).options.getLsbD 2 = false) := by
  refine ⟨⟨still_of ?_, ?_⟩, ?_, ⟨still_of ?_, ?_⟩, ?_, ?_, ?_, ?_, ⟨_, rfl, ?_⟩, still_of ?_, ?_⟩ <;> decide +kernel

/-- Desk 1 at its take of an order, entry 7 reserved for it. -/
def taking (f : OrderFields) : State :=
  { withK (dk .fetching (.taking 0x100 f)) with table := run.table.set 7 (.reserved 1) }

/-- A FLUSH of drive 0. -/
def flush (st : Stage) (ts : List Target) : Order := { ord (fields 4 0 0 1 0) st with targets := ts }

theorem witness_TakeAndFlush :
    (let s := taking (fields 1 0 616 1 0)
     s.ctl = .running ∧ (s.desk 1).state = .fetching ∧ (s.desk 1).look = .taking 0x100 (fields 1 0 616 1 0)
       ∧ s.reservedFor? 1 = some 7 ∧ s.deskInRun 1 = true ∧ s.refusal (fields 1 0 616 1 0) 1 = some (.range, 616))
      ∧ (fields 1 0 616 1 0).drive = (0 : DriveNo).val
      ∧ (let s := withO (withF (fr .stranded)) (flush .check [])
         s.order? 0 = some (flush .check []) ∧ (flush .check []).stage ≠ .finish
           ∧ (flush .check []).fields.kind? = some .flush ∧ (flush .check []).frame = none ∧ (s.frame 3).held = true
           ∧ (flush .check []).fields.drive = (s.frame 3).key.drive.val
           ∧ (sec .stranded 1) ∈ (s.frame 3).sectors)
      ∧ ((run.frame 0).held = false ∧ ∀ x ∈ (fr .valid).sectors, x.state = .valid)
      ∧ (let t : List Target := [⟨3, 0, 1, 80, 5, .stranded .write⟩, ⟨3, 0, 2, 81, 5, .durable⟩]
         (withO run (flush .settle t)).order? 0 = some (flush .settle t) ∧ (flush .settle t).stage = .settle
           ∧ (∀ y ∈ t, y.state ≠ .awaited) ∧ (⟨3, 0, 1, 80, 5, .stranded .write⟩ : Target) ∈ t)
      ∧ (∃ y ∈ [(⟨3, 0, 1, 80, 5, .awaited⟩ : Target)], y.state = .awaited)
      ∧ (∀ y ∈ [(⟨3, 0, 1, 80, 5, .durable⟩ : Target)], y.state = .durable) := by
  decide +kernel

theorem witness_RefusalOrder :
    (fields 1 0 0 0 0).drive = (0 : DriveNo).val ∧ run.badOrder (fields 1 0 0 0 0) = true
      ∧ (run.badOrder (fields 1 0x80 0 1 0) = true ∧ run.badOrder (fields 2 0x18 0 1 0) = true
        ∧ run.badOrder { fields 1 0 0 1 0 with drive := 4 } = true ∧ run.badOrder (fields 4 0 0 1 2) = true
        ∧ run.badOrder { fields 6 0 0 1 0 with mode := 2 } = true
        ∧ run.badOrder { fields 8 0 0 1 3 with buffer := 0xFFFFFF } = true
        ∧ run.badOrder { fields 1 0 0 1 0 with offset := 1 } = true
        ∧ run.badOrder { fields 3 0 0 1 0 with buffer2 := 0xFFFFFF } = true)
      ∧ (run.badOrder (fields 7 0 0 200 1) = false ∧ run.badOrder (fields 9 0 0 1 1) = false
        ∧ run.badOrder (fields 4 0 0 1 1) = false)
      ∧ (run.badOrder (fields 2 0 0 1 0) = false ∧ run.badOrder (fields 3 0 0 1 0) = false
        ∧ run.badOrder (fields 5 0 0 1 0) = false ∧ run.badOrder (fields 6 0 0 1 0) = false
        ∧ run.badOrder (fields 4 0 0 1 0) = false ∧ run.badOrder (fields 8 0 0 1 2) = false)
      ∧ ((withD fun d => { d with state := .blank }).drive 0).state = .blank
      ∧ ((withD fun d => { d with state := .recal }).drive 0).state = .recal
      ∧ ((run.drive 0).state = .ready ∧ (run.drive 0).layoutKnown = true ∧ (run.drive 0).timer.active = some lay
        ∧ 77 * (run.drive 0).headCount * lay.spt = 616)
      ∧ ¬ (616 : Nat) + 1 ≤ 616 ∧ (615 : Nat) + 1 ≤ 616 ∧ 77 * (run.drive 0).headCount ≤ 154
      ∧ ((withD fun d => { d with writeProtect := true }).drive 0).writeProtect = true
      ∧ (∀ l ∈ locked.locks, ¬ (l.extent.overlaps ⟨0, 4, some 4⟩ = true))
      ∧ (∃ xs l ys, locked.locks = xs ++ l :: ys ∧ l.extent.overlaps ⟨0, 0, some 1⟩ = true ∧ l.mode = .share)
      ∧ (∃ xs l ys, locked.locks = xs ++ l :: ys ∧ l.extent.overlaps ⟨0, 0, none⟩ = true ∧ l.mode = .share) := by
  refine ⟨?_, ?_, ?_, ?_, ?_, ?_, ?_, ?_, ?_, ?_, ?_, ?_, ?_, ⟨[], _, _, rfl, ?_⟩, [], _, _, rfl, ?_⟩ <;> decide +kernel

/-- A WRITE of blocks 80 to 83, all of cylinder 10 head 0, at its fetch, with EARLY. -/
def fetching : Order :=
  { ord (fields 2 0x10 80 4 0) .fetch with track := some 20, frame := some 3 }

theorem witness_FetchDone :
    (∀ o, run.order? 0 = some o → o.stage ≠ .fetch)
      ∧ (let s := withO (withF { fr .absent with uses := 1 }) fetching
         s.order? 0 = some fetching ∧ fetching.part.length = 512 ∧ s.noneWaiting ∧ s.waiters = []
           ∧ fetching.fields.kind? = some .write ∧ fetching.fields.early = true ∧ fetching.failure = none
           ∧ (s.frame 3).held = true ∧ fetching.generation = (s.drive 0).generation ∧ fetching.wait = []
           ∧ fetching.needed = [] ∧ fetching.fields.fresh = false ∧ fetching.fields.drive = (0 : DriveNo).val
           ∧ ((s.frame 3).sectors.map Sector.number).Nodup ∧ fetching.part.track = lastTrack fetching.fields fetching.geometry
           ∧ fetching.part.areaStart fetching.fields fetching.geometry = 0
           ∧ ∀ x ∈ (s.frame 3).sectors, 0 ≤ (s.frame 3).sectorStart x.number
              ∧ (s.frame 3).sectorStart x.number + (s.frame 3).size ≤ 0 + 512)
      ∧ (let o := { fetching with fields := fields 2 0 80 4 0, failure := some (.verifyFail, 79) }
         o.failure = some (.verifyFail, 79) ∧ o.fields.early = false
           ∧ (∃ x ∈ (fr .absent).sectors, (fr .absent).reaches 0 512 x = true))
      ∧ (let o := { fetching with fields := fields 2 0 80 4 0 }
         o.fields.early = false ∧ o.failure = none ∧ o.targets = []
           ∧ (fr .stranded).sectors[0]? = some (sec .stranded 1)
           ∧ (fr .stranded).reaches 0 512 (sec .stranded 1) = true) := by
  refine ⟨of_none rfl, ⟨?_, ?_, noneWaiting_of ?_, ?_⟩, ?_, ?_⟩ <;> decide +kernel

/-- A READ of one block at its delivery, and an EXCHANGE at its own. -/
def delivering (kind : Byte) (target : TargetState) : Order :=
  { ord (fields kind 0 80 1 0) .deliver with
    track := some 20, staging := List.replicate 128 0xAA, targets := [⟨3, 0, 1, 80, 5, target⟩] }

theorem witness_DeliveryDone :
    (∀ o, run.order? 0 = some o → o.stage ≠ .deliver)
      ∧ ((withO run (delivering 1 .durable)).order? 0 = some (delivering 1 .durable)
        ∧ (delivering 1 .durable).fields.kind? = some .read ∧ (delivering 1 .durable).fillUsed = none
        ∧ (delivering 1 .durable).part.track = lastTrack (delivering 1 .durable).fields (delivering 1 .durable).geometry)
      ∧ ((127 : Nat) < (delivering 1 .durable).part.length ∧ (127 : Nat) < (delivering 3 .awaited).part.length)
      ∧ ((delivering 3 .awaited).fields.kind? = some .exchange ∧ (delivering 3 .awaited).failure = none
        ∧ (∃ x ∈ (delivering 3 .awaited).targets, x.state = .awaited)
        ∧ ∀ x ∈ (delivering 3 .awaited).targets, x.failure? = none)
      ∧ (∀ x ∈ (delivering 3 .durable).targets, x.state = .durable) := by
  refine ⟨of_none rfl, ?_⟩
  decide +kernel

/-- A FORMAT of drive 0 that reads its supplied layout. -/
def formatting (scope : Nat) (st : Stage) (p : FormatPhase) : Order :=
  { ord (fields 8 0 0 1 scope) st with
    phase := p, passed := true, period := some 166675, extent := some ⟨0, 0, none⟩, track := some 0 }

/-- An order that has ended. -/
def ended (written : Bool) : Order :=
  { ord (fields 1 1 0 1 0) .finish with result := some ⟨.ok, 0, 900⟩, resultWritten := written }

/-- Desk 1 at its take of an order, with one frame held. -/
def takingAt (f : OrderFields) (x : Frame) : State := { taking f with frames := run.frames.set 3 x }

/-- The frame of a state as a grant leaves it. -/
def grantedF (x : Frame) : Frame := { x with uses := x.uses + 1, lru := 1000 }

/-- A take is at hand, and its order passes its checks. -/
def takes (s : State) (f : OrderFields) : Bool :=
  s.ctl == .running && (s.desk 1).state == .fetching && (s.desk 1).look == .taking 0x100 f
    && s.reservedFor? 1 == some 7 && s.refusal f 1 == none && s.waiters == [] && quietNow s

theorem grants_held (f : OrderFields) (x : Frame) (h : (takingAt f x).frameOf ⟨0, 10, 0⟩ = some 3) :
    (takingAt f x).grants ⟨0, 10, 0⟩ lay 3 (grantedF x) := .inl ⟨h, rfl⟩

theorem grants_free (f : OrderFields) (h : (taking f).frameOf ⟨0, 10, 0⟩ = none)
    (hf : ((taking f).frame 0).held = false ∧ ∀ f', f' < (0 : FrameNo) → ((taking f).frame f').held = true) :
    (taking f).grants ⟨0, 10, 0⟩ lay 0 { newFrame 1000 ⟨0, 10, 0⟩ 1 lay [] with uses := 1 } :=
  .inr ⟨h, .inl hf, rfl⟩

theorem witness_TakenWork :
    ((withO run (ended false)).order? 0 = some (ended false) ∧ (ended false).stage = .finish
      ∧ (withO run (ended false)).fwq = [])
      ∧ (takes (taking (fields 4 0 0 1 0)) (fields 4 0 0 1 0) = true ∧ takes (taking (fields 6 0 0 1 0)) (fields 6 0 0 1 0) = true
        ∧ takes (taking (fields 7 0 0 1 0)) (fields 7 0 0 1 0) = true ∧ takes (taking (fields 9 0 0 1 1)) (fields 9 0 0 1 1) = true
        ∧ takes (taking (fields 8 0 0 1 2)) (fields 8 0 0 1 2) = true)
      ∧ (taking (fields 9 0 0 1 1)).still
      ∧ (let s := takingAt (fields 5 0 80 1 0) (fr .reading)
         takes s (fields 5 0 80 1 0) = true ∧ s.frameOf ⟨0, 10, 0⟩ = some 3
           ∧ ∃ x ∈ (s.frame 3).sectors, x.state = .reading ∨ x.state = .writing ∨ x.state = .checking)
      ∧ (let o := { ord (fields 2 0 80 1 0) .settle with targets := [⟨3, 0, 1, 80, 5, .awaited⟩] }
         let s := withO (takingAt (fields 5 0 80 1 0) (fr .dirty)) o
         takes s (fields 5 0 80 1 0) = true ∧ s.frameOf ⟨0, 10, 0⟩ = some 3 ∧ (s.frame 3).uses = 0
           ∧ s.order? 0 = some o ∧ o.stage ≠ .finish ∧ o.fields.kind? = some .write)
      ∧ ((taking (fields 5 0 80 1 0)).frameOf ⟨0, 10, 0⟩ = none ∧ 80 / lay.spt / 2 = 10 ∧ 80 / lay.spt % 2 = 0)
      ∧ (lay.legal (workingPeriod rd.timer.p16) = true ∧ lay.legal (workingPeriod (some 16)) = false)
      ∧ (takes (takingAt (fields 8 0 20 1 0) (fr .dirty)) (fields 8 0 20 1 0) = true
        ∧ takes (takingAt (fields 8 0 0 1 1) (fr .dirty)) (fields 8 0 0 1 1) = true
        ∧ takes (takingAt (fields 8 0 20 1 0) (fr .reading)) (fields 8 0 20 1 0) = true
        ∧ (takingAt (fields 8 0 20 1 0) (fr .dirty)).frameOf ⟨0, 20 / 2, 20 % 2⟩ = some 3)
      ∧ (let s := withO (taking (fields 8 0 0 1 1)) (formatting 0 .job .posted)
         takes s (fields 8 0 0 1 1) = true ∧ s.order? 0 = some (formatting 0 .job .posted)
           ∧ (formatting 0 .job .posted).fields.kind? = some .format ∧ (formatting 0 .job .posted).passed = true)
      ∧ ((rd.sched.job = none) ∧ (recalD .free).sched.job.isSome = true)
      ∧ (takes (taking (fields 2 0 80 1 0)) (fields 2 0 80 1 0) = true
        ∧ takes (taking (fields 3 0 80 1 0)) (fields 3 0 80 1 0) = true
        ∧ (80 + (fields 2 0 80 1 0).offset / lay.size) / lay.spt = 20)
      ∧ (let s := { taking (fields 1 0 80 1 0) with frames := Vector.replicate 16 { fr .dirty with key := ⟨1, 0, 0⟩ } }
         takes s (fields 1 0 80 1 0) = true ∧ s.frameOf ⟨0, 10, 0⟩ = none ∧ (∀ f', (s.frame f').held = true) ∧ s.victim? = none)
      ∧ (takingAt (fields 2 0 80 1 0) (fr .valid)).grants ⟨0, 10, 0⟩ lay 3 (grantedF (fr .valid))
      ∧ (taking (fields 2 0 80 1 0)).grants ⟨0, 10, 0⟩ lay 0 { newFrame 1000 ⟨0, 10, 0⟩ 1 lay [] with uses := 1 } := by
  refine ⟨?_, ?_, still_of ?_, ?_, ?_, ?_, ?_, ?_, ?_, ?_, ?_, ?_, grants_held _ _ ?_, grants_free _ ?_ ?_⟩ <;>
    decide +kernel

/-- The 68 bytes of the test layout. -/
def layoutRecord (density : Byte) : List Byte :=
  [density, 0, 4, 1, 32, 32, 0, 0, 1, 3, 2, 4] ++ List.replicate 56 0

theorem witness_LayoutReadDone :
    (let o := formatting 3 .check .readLayout
     let s := withO (withF (fr .dirty)) o
     s.format? 0 = some (o, 0) ∧ o.phase = .readLayout ∧ (layoutRecord 1).length = 68
       ∧ suppliedLayout (layoutRecord 1) = some lay ∧ lay.legal o.period = true ∧ o.fields.scope = 3
       ∧ s.formatInUse 0 o.fields 0 = false ∧ s.noneWaiting ∧ (∀ x, o.extent = some x → s.refusingLock o.desk x = none)
       ∧ (s.frame 3).held = true)
      ∧ (∃ l, ({ locked with table := run.table } : State).refusingLock 1 ⟨0, 0, none⟩ = some l)
      ∧ 2 ≤ fieldAt (layoutRecord 2) 0 1
      ∧ (∃ l, suppliedLayout (layoutRecord 0) = some l ∧ l.legal none = false)
      ∧ ((withD fun d => { d with timer := {} }).drive 0).timer.active ≠ some lay
      ∧ (let s := withO { run with table := run.table.set 1 (.order (ord (fields 1 0 0 1 0) .fill)) }
            (formatting 3 .check .readLayout)
         s.formatInUse 0 (fields 8 0 0 1 3) 0 = true) := by
  refine ⟨⟨rfl, rfl, ?_, ?_, ?_, rfl, ?_, noneWaiting_of ?_, of_some rfl ?_, rfl⟩, ⟨_, rfl⟩, ?_, ⟨_, rfl, ?_⟩, ?_, ?_⟩ <;>
    decide +kernel

/-- A restart's outstanding writes. -/
def orphaned (written : Bool) : State :=
  { run with orphans := [⟨0x1000, 1, List.replicate 24 0, written, true⟩] }

theorem witness_ResultWriteDone :
    ((withO run (ended false)).order? 0 = some (ended false) ∧ (ended false).result = some ⟨.ok, 0, 900⟩
      ∧ (ended false).resultWritten = false ∧ (withO run (ended false)).still ∧ (23 : Nat) < 24
      ∧ (withO run (ended false)).ctl ≠ .shedding)
      ∧ (∃ x, (orphaned false).orphans[0]? = some x ∧ x.resultWritten = false) := by
  refine ⟨⟨?_, ?_, ?_, still_of ?_, ?_⟩, _, rfl, ?_⟩ <;> decide +kernel

theorem witness_DoneWriteDone :
    (let s := withO run (ended true)
     s.order? 0 = some (ended true) ∧ (ended true).resultWritten = true ∧ s.ctl ≠ .shedding ∧ s.tableWait = []
       ∧ s.still)
      ∧ (let s := { withO (withK (dk .fetching (.held .window))) (ended true) with tableWait := [0] }
         (s.desk 1).state = .fetching ∧ (s.desk 1).look = .held .window ∧ s.tableWait = 0 :: [])
      ∧ (∃ x, (orphaned true).orphans[0]? = some x ∧ x.resultWritten = true) := by
  refine ⟨⟨?_, ?_, ?_, ?_, still_of ?_⟩, ?_, _, rfl, ?_⟩ <;> decide +kernel

theorem witness_RecordWrites :
    (run.desk 1).entryWrites = [] ∧ (run.drive 0).recordWrites = []
      ∧ (let s := withK { dk .halted .none with entryWrites := [⟨0x54, [1], false⟩] }
         (s.desk 1).entryWrites = ⟨0x54, [1], false⟩ :: [] ∧ s.still ∧ s.deskInRun 1 = true ∧ (s.desk 1).fault = .none)
      ∧ (let s := withK { dk .halting .none with fault := .badLink, entryWrites := [⟨0x54, [1], true⟩] }
         (s.desk 1).entryWrites = ⟨0x54, [1], true⟩ :: [] ∧ (s.desk 1).fault ≠ .none ∧ (s.desk 1).faultStands = true)
      ∧ (let s := withD fun d => { d with recordWrites := [⟨⟨0x148, [1]⟩, some true⟩] }
         (s.drive 0).recordWrites = ⟨⟨0x148, [1]⟩, some true⟩ :: []) := by
  refine ⟨?_, ?_, ⟨?_, still_of ?_, ?_⟩, ?_, ?_⟩ <;> decide +kernel

/-- A bus error on an entry write faults a desk that a HALT alone has stopped; one on the write of that fault is dropped,
and one on an older write keeps the code (R112, R123). -/
theorem test_entry_write_faults :
    (let after (k : Desk) : Option (DeskFault × Bool × Nat) :=
       match exec (.deskEntryWriteDone 1 (.busError 0)) (withK { k with entryWrites := ⟨0x54, [1], false⟩ :: k.entryWrites }) with
       | .next t => some ((t.desk 1).fault, t.notice.getLsbD 20, ((t.desk 1).entryWrites.filter EntryWrite.dropped).length)
       | _ => none
     after (dk .halted .none) = some (.busError, true, 1)
       ∧ after { dk .halted .none with fault := .badLink } = some (.badLink, true, 1)) := by
  decide +kernel

theorem witness_RecordedBytes :
    (rd.timer.active = some lay ∧ lay.map.length ≤ 60 ∧ (∀ x ∈ lay.map, x < 256) ∧ lay.sizeCode < 256 ∧ lay.spt < 256
      ∧ lay.first < 256 ∧ lay.g0 < 256 ∧ lay.g3 < 256 ∧ rd.headCount < 256 ∧ rd.cylinder < 256
      ∧ rd.health.snapshot = none ∧ (0 : Nat) < 65536)
      ∧ (∃ x, ((run.drive 0).health.take 0 0 0).snapshot = some x) ∧ (dk .idle .none).inFlight < 256 := by
  refine ⟨?_, ⟨_, rfl⟩, ?_⟩ <;> decide +kernel

/-- Two drives of port 0 with a DIRTY track each, the channel at the end of a read. -/
def twoDirty : State :=
  { run with frames := (run.frames.set 3 (fr .dirty)).set 4 { fr .dirty with key := ⟨1, 10, 0⟩ } }

/-- A channel of port 0 at work on slot 1 of the test frame. -/
def working (st : ChanState) (k : WorkKind) (x : SectorState) : State :=
  withC (withF (fr x)) { state := st, work := some (req k), burst := 1, arming := 1000, reference := 100 }

theorem witness_ArmingTime :
    ((working .idle .read .wanted).chan 0).state ≠ .selecting
      ∧ (let s := working .selecting .read .wanted
         s.still ∧ (s.chan 0).state = .selecting ∧ reached s.g (s.chan 0).arming = true
           ∧ (s.chan 0).work = some (req .read) ∧ s.sectorAt ⟨0, 10, 0⟩ 1 = some (3, sec .wanted 3)
           ∧ (s.drive 0).timer.active = some lay ∧ (s.drive 0).arm = .free ∧ (s.drive 0).heads = .loaded
           ∧ (s.frame 3).generation = (s.drive 0).generation ∧ (s.chan 0).owed 0 = false)
      ∧ (let s := working .selecting .read .wanted
         ((s.chan 0).arming - (req .read).start).toInt ≤ 0
           ∧ ¬ (1 < (s.chan 0).burst ∨ ((s.chan 0).arming - (999 : Word)).toInt ≤ 0))
      ∧ ((req .write).kind = .write ∧ (req .formatTrack).kind = .formatTrack ∧ (req .formatTrack).cylinder = (run.drive 0).cylinder)
      ∧ ((withD fun d => { d with state := .recal }).drive 0).state = .recal
      ∧ (working .selecting .read .dirty).sectorAt ⟨0, 10, 0⟩ 1 = some (3, sec .dirty 3)
      ∧ ((withF { fr .wanted with generation := 2 }).frame 3).generation ≠ (run.drive 0).generation
      ∧ (let gone : Drive := { rd with
           cylinder := 9
           sched := { state := .served, job := some ⟨.formatTrack, 10, 0, 0, false, .gone true, true, .mfm, 0xE5⟩ } }
         let s := (working .selecting .formatTrack .valid).withDrive 0 gone
         (s.drive 0).sched.job = some ⟨.formatTrack, 10, 0, 0, false, .gone true, true, .mfm, 0xE5⟩
           ∧ (s.drive 0).cylinder ≠ (req .formatTrack).cylinder ∧ Requester.driveControl ∉ (s.drive 0).sched.busy
           ∧ quietNow s = true)
      ∧ (∀ x, ({} : Channel).selectDue = some x → reached run.g x = false)
      ∧ (let s := withC run { selectDue := some 1000, selected := some (0, 1) }
         (s.chan 0).selectDue = some 1000 ∧ reached s.g 1000 = true ∧ (s.chan 0).selected = some (0, 1)) := by
  refine ⟨?_, ⟨still_of ?_, ?_⟩, ?_, ?_, ?_, ?_, ?_, ?_, of_none rfl, ?_⟩ <;> decide +kernel

/-- The ID record of slot 1 of the test frame. -/
def id1 : IdRecord := ⟨10, 0, 3, 0⟩

/-- The check of an ID field of a record, as recorded. -/
def idCrc (x : IdRecord) : Half := crc [0xC7, x.cylinder, x.head, x.sector, x.size]

/-- A channel of port 0 in ARMED with its ID found at time 900. -/
def found (k : WorkKind) : State :=
  withC (withF (fr .reading)) { state := .armed, work := some (req k), arming := 800, found := some 900 }

theorem witness_FieldsAndMarks :
    (let s := withC run { state := .listen, work := some (req .discover), field := some 7 }
     (s.chan 0).state = .listen ∧ (s.chan 0).work = some (req .discover) ∧ (s.chan 0).field = some 7
       ∧ (s.chan 0).listen.length < 64)
      ∧ crc [0xC7, id1.cylinder, id1.head, id1.sector, id1.size, crcHigh (idCrc id1), crcLow (idCrc id1)] = 0
      ∧ (let field := [id1.cylinder, id1.head, id1.sector, id1.size, crcHigh (idCrc id1), crcLow (idCrc id1)]
         ((working .id .read .reading).chan 0).settings.bytes ((working .id .read .reading).chan 0).reference
          (fluxOf field ++ [] ++ []) 6 = field)
      ∧ ((run.chan 0).settings.markOf ([] ++ []) = none ∧ (run.chan 0).settings.markOf idMarkFlux = some (0xC7, 100)
        ∧ ((found .read).chan 0).settings.markOf (dataMarkFlux ++ []) = some (0xCB, 100))
      ∧ crc [0xC7, id1.cylinder, id1.head, id1.sector, id1.size, 0, 0] ≠ 0
      ∧ ((working .armed .read .reading).chan 0).found = none
      ∧ ((found .write).chan 0).found = some 900
      ∧ ((found .read).still ∧ ((900 + BitVec.ofNat 32 (30 * 16)) - (found .read).g).toNat < 2 ^ 31)
      ∧ (let s := working .id .read .reading
         (s.chan 0).state = .id ∧ s.still ∧ id1.cylinder.toNat = (req .read).cylinder
           ∧ id1.head.toNat = (req .read).head ∧ s.sectorAt ⟨0, 10, 0⟩ 1 = some (3, sec .reading 3)
           ∧ id1.sector.toNat = (sec .reading 3).number ∧ id1.size.toNat = lay.sizeCode)
      ∧ ((⟨10, 0, 2, 0⟩ : IdRecord).sector.toNat ≠ (sec .reading 3).number ∧ (⟨10, 0, 3, 1⟩ : IdRecord).size.toNat ≠ lay.sizeCode)
      ∧ (∀ period, workingPeriod (run.drive 0).timer.p16 = some period →
          reached run.g ((1000 : Word) + BitVec.ofNat 32 period) = false) := by
  refine ⟨?_, ?_, ?_, ?_, ?_, ?_, ?_, ⟨still_of ?_, ?_⟩, ⟨?_, still_of ?_, ?_⟩, ?_, of_some (a := 166675) ?_ ?_⟩ <;>
    decide +kernel

/-- 128 data bytes of 0. -/
def dataBytes : List Byte := List.replicate 128 0

set_option maxRecDepth 100000 in
theorem witness_DataFieldEnd :
    ((working .armed .read .reading).chan 0).state ≠ .data
      ∧ (let s := working .data .read .reading
         s.noneWaiting ∧ (s.chan 0).state = .data ∧ (s.chan 0).work = some (req .read)
           ∧ s.sectorAt ⟨0, 10, 0⟩ 1 = some (3, sec .reading 3) ∧ dataBytes.length = s.sectorLength 0)
      ∧ (let s := working .data .check .checking
         s.noneWaiting ∧ s.sectorAt ⟨0, 10, 0⟩ 1 = some (3, sec .checking 3))
      ∧ crc (0xCB :: (dataBytes ++ [crcHigh (crc (0xCB :: dataBytes)), crcLow (crc (0xCB :: dataBytes))])) = 0
      ∧ (let field := dataBytes ++ [crcHigh (crc (0xCB :: dataBytes)), crcLow (crc (0xCB :: dataBytes))]
         ((working .data .read .reading).chan 0).settings.bytes ((working .data .read .reading).chan 0).reference
          (fluxOf field ++ [] ++ []) (dataBytes.length + 2) = field)
      ∧ ((working .data .read .reading).chan 0).settings.bytes ((working .data .read .reading).chan 0).reference
          ([] ++ [] ++ [])
          (dataBytes.length + 2) = dataBytes ++ [0, 0]
      ∧ crc (0xCB :: (dataBytes ++ [0, 0])) ≠ 0 ∧ crc (0xCB :: dataBytes) ≠ (sec .checking 3).writtenCrc
      ∧ ((req .read).attempt < 8 ∧ (req .check).attempt < 3 ∧ 2 ≤ (req .read).attempt) := by
  refine ⟨?_, ⟨noneWaiting_of ?_, ?_⟩, ⟨noneWaiting_of ?_, ?_⟩, ?_⟩ <;> decide +kernel

/-- An order of drive 0 in FILL at frame 3 that awaits block 82, in slot 1, and the blocks of `more`. -/
def filling (kind options : Byte) (block count : Nat) (more : List Wanted) : Order :=
  let o : Order := { ord (fields kind options block count 0) .fill with
    track := some 20, frame := some 3, passed := true, wait := ⟨3, 3, 82, false, false⟩ :: more }
  { o with staging := if kind = 1 then [] else List.replicate o.part.length 0xAA }

/-- The port of drive 0 reads slot 1 of a frame for that order, at an attempt. -/
def fillingAt (o : Order) (x : SectorState) (attempt : Nat) : State :=
  withO (withC (withF { fr x with uses := 1, sectors := [sec x 1, sec .reading 3, sec x 2, sec x 4] })
    { state := .data, work := some { req .read with attempt := attempt }, burst := 1, arming := 1000, reference := 100 }) o

theorem onlyFills_of {s : State} {e : EntryNo}
    (h : (s.ctl != .draining && s.ctl != .shedding && s.fwq == []
      && (List.finRange 32).all fun e' => e' == e || match s.order? e' with | some o => o.stage != .fill | none => true)
        = true) : s.onlyFills e := by
  simp only [Bool.and_eq_true, bne_iff_ne, ne_eq, beq_iff_eq] at h
  obtain ⟨⟨⟨h1, h2⟩, h3⟩, h4⟩ := h
  refine ⟨⟨h1, h2⟩, h3, fun e' o ho hs => ?_⟩
  have := List.all_eq_true.1 h4 e' (List.mem_finRange e')
  rw [ho] at this
  simpa [hs] using this

theorem readsFor_filling (kind options : Byte) (block count : Nat) (more : List Wanted) (x : SectorState) (n : Nat)
    (h : let o := filling kind options block count more
      let s := fillingAt o x n
      (s.ctl != .draining && s.ctl != .shedding && s.fwq == []
        && (List.finRange 32).all fun e' => e' == 0 || match s.order? e' with | some o => o.stage != .fill | none => true)
          = true
      ∧ s.sectorAt ⟨0, 10, 0⟩ 1 = some (3, sec .reading 3)
      ∧ (o.fields.kind? = some .read ∨ o.fields.kind? = some .write ∨ o.fields.kind? = some .exchange)
      ∧ (∀ w' ∈ o.wait, w'.frame = 3 → w'.sector = 3 → w' = ⟨3, 3, 82, false, false⟩)
      ∧ ((s.frame 3).sectors.map Sector.number).Nodup ∧ ∀ y ∈ (s.frame 3).sectors, (s.frame 3).first ≤ y.number) :
    (fillingAt (filling kind options block count more) x n).readsFor 0 { req .read with attempt := n } 3 (sec .reading 3) 0
      (filling kind options block count more) ⟨3, 3, 82, false, false⟩ :=
  ⟨onlyFills_of h.1, rfl, rfl, h.2.1, rfl, rfl, rfl, rfl, rfl, rfl, rfl, h.2.2.1, List.mem_cons_self, rfl, rfl, rfl,
    h.2.2.2.1, h.2.2.2.2⟩

set_option maxRecDepth 100000 in
theorem fieldRead_filling (o : Order) (x : SectorState) (n : Nat) :
    (fillingAt o x n).fieldRead 0 { req .read with attempt := n }
      (.dataFieldEnd 0 (fluxOf (dataBytes ++ [crcHigh (crc (0xCB :: dataBytes)), crcLow (crc (0xCB :: dataBytes))])) [] [])
      dataBytes := by
  refine ⟨_, _, _, crcHigh (crc (0xCB :: dataBytes)), crcLow (crc (0xCB :: dataBytes)), rfl, rfl, ?_, ?_, ?_⟩
  · show dataBytes.length = lay.size
    decide +kernel
  · show ({} : Settings).bytes 100 _ _ = _
    decide +kernel
  · decide +kernel

theorem readFails_filling (o : Order) (x : SectorState) (n : Nat) :
    (fillingAt o x n).readFails 0 { req .read with attempt := n } (.fluxLoss 0 []) true :=
  .inr (.inl ⟨rfl, [], rfl, .inr rfl, by show ({} : Settings).fluxLost 100 [] = true; decide +kernel⟩)

theorem witness_ReadsAtTheirFrames :
    (takes (takingAt (fields 1 0 80 4 0) (fr .wanted)) (fields 1 0 80 4 0) = true ∧ (fields 1 0 80 4 0).kind = 1
      ∧ (takingAt (fields 1 0 80 4 0) (fr .wanted)).header = some ⟨2, 10, 60, 0xE5⟩
      ∧ (80 + 0 / lay.size) / lay.spt = 20 ∧ (grantedF (fr .wanted)).apart
      ∧ ∀ q, 80 ≤ q → q ≤ 83 → ∃ x ∈ (grantedF (fr .wanted)).sectors, x.number = 1 + q % 4)
      ∧ (takingAt (fields 1 0 80 4 0) (fr .wanted)).grants ⟨0, 10, 0⟩ lay 3 (grantedF (fr .wanted))
      ∧ (let o (opt : Byte) (x : SectorState) : Order :=
           { (takingAt (fields 1 opt 80 4 0) (fr x)).newOrder 1 0x100 (fields 1 opt 80 4 0) with track := some 20 }
         (o 0 .wanted).toWait (grantedF (fr .wanted)) = [80, 81, 82, 83] ∧ (o 0 .wanted).firstBad (grantedF (fr .wanted)) = none
           ∧ (o 0x40 .valid).toWait (grantedF (fr .valid)) ≠ []
           ∧ (o 0 .bad).firstBad (grantedF (fr .bad)) = some 80 ∧ (o 0x20 .bad).fields.salvage = true
           ∧ (o 0x20 .bad).toWait (grantedF (fr .bad)) = []
           ∧ (o 0 .valid).toWait (grantedF (fr .valid)) = [] ∧ ∀ x ∈ (fr .valid).sectors, x.state.holdsData = true)
      ∧ (fillingAt (filling 1 0 80 4 []) .valid 2).readsFor 0 { req .read with attempt := 2 } 3 (sec .reading 3) 0
          (filling 1 0 80 4 []) ⟨3, 3, 82, false, false⟩
      ∧ (fillingAt (filling 1 0 80 4 []) .absent 2).readsFor 0 { req .read with attempt := 2 } 3 (sec .reading 3) 0
          (filling 1 0 80 4 []) ⟨3, 3, 82, false, false⟩
      ∧ (fillingAt (filling 1 0x20 80 4 [⟨3, 2, 81, false, false⟩]) .wanted 8).readsFor 0 { req .read with attempt := 8 } 3
          (sec .reading 3) 0 (filling 1 0x20 80 4 [⟨3, 2, 81, false, false⟩]) ⟨3, 3, 82, false, false⟩
      ∧ (fillingAt (filling 1 0 80 4 []) .valid 2).fieldRead 0 { req .read with attempt := 2 }
          (.dataFieldEnd 0 (fluxOf (dataBytes ++ [crcHigh (crc (0xCB :: dataBytes)), crcLow (crc (0xCB :: dataBytes))])) [] [])
          dataBytes
      ∧ (fillingAt (filling 1 0 80 4 []) .valid 8).readFails 0 { req .read with attempt := 8 } (.fluxLoss 0 []) true
      ∧ (let o := filling 1 0 80 4 []
         let f := (fillingAt o .absent 2).frame 3
         o.needed = [80, 81, 82, 83] ∧ (f.stateAt o.geometry 80).waited false = true
           ∧ ∀ y ∈ f.sectors, y.isOne o.geometry o.needed = true
              ∧ f.reaches (o.part.areaStart o.fields o.geometry) o.part.length y = true) := by
  refine ⟨⟨?_, ?_, ?_, ?_, ⟨?_, ?_⟩, ?_⟩, grants_held _ _ ?_, ?_, readsFor_filling 1 0 80 4 [] .valid 2 ?_,
    readsFor_filling 1 0 80 4 [] .absent 2 ?_, readsFor_filling 1 0x20 80 4 [⟨3, 2, 81, false, false⟩] .wanted 8 ?_,
    fieldRead_filling _ _ _, readFails_filling _ _ _, ?_⟩
  on_goal 7 =>
    intro q h1 h2
    have : q = 80 ∨ q = 81 ∨ q = 82 ∨ q = 83 := by omega
    obtain rfl | rfl | rfl | rfl := this <;> decide +kernel
  all_goals decide +kernel

/-- Two SALVAGE EXCHANGEs wait on a sector that fails its eighth attempt: the first returns fill, and the second takes the
first's bytes and has none (R145). -/
theorem test_second_exchange_takes_no_fill :
    (let o := filling 3 0x20 82 1 []
     let s := fillingAt o .valid 8
     match exec (.fluxLoss 0 []) { s with table := s.table.set 1 (.order o) } with
     | .next t => [t.order? 0, t.order? 1].map fun x => x.map fun y => (y.fillUsed, y.staging == o.staging)
     | _ => []) = [some (some 82, false), some (none, true)] := by
  decide +kernel

/-- A WRITE or EXCHANGE at its fetch, at frame 3. -/
def fetchingAt (kind options : Byte) (block count : Nat) : Order :=
  { ord (fields kind options block count 0) .fetch with track := some 20, frame := some 3, passed := true }

theorem witness_WritesAndExchanges :
    (let o := filling 2 0 80 4 []
     o.part.lo < o.part.hi ∧ 0 < o.geometry.size)
      ∧ (let o := { fetchingAt 2 0 80 6 with fields := { fields 2 0 80 6 0 with offset := 5, length := 700 } }
         let s := withO (withF (grantedF (fr .wanted))) o
         s.noneWaiting ∧ s.waiters = [] ∧ s.order? 0 = some o ∧ o.stage = .fetch ∧ o.fields.kind? = some .write
           ∧ o.fields.fresh = false ∧ o.fields.drive = (0 : DriveNo).val ∧ (s.frame 3).held = true
           ∧ o.generation = (s.drive 0).generation ∧ o.wait = [] ∧ (List.replicate 507 (0 : Byte)).length = o.part.length
           ∧ (s.frame 3).apart ∧ o.needed = [80] ∧ o.toWait (s.frame 3) = [80] ∧ o.firstBad (s.frame 3) = none
           ∧ o.firstBad (fr .bad) = some 80 ∧ o.toWait (fr .valid) = []
           ∧ o.part.track < lastTrack o.fields o.geometry ∧ s.frameOf ⟨0, 21 / 2, 21 % 2⟩ = none
           ∧ (s.frame 0).held = false)
      ∧ (let o := fetchingAt 3 0x20 82 1
         o.needed = [82] ∧ o.toWait (fr .bad) = [] ∧ o.firstBad (fr .bad) = some 82 ∧ o.fields.salvage = true
           ∧ o.toWait (fr .dirty) = [] ∧ o.firstBad (fr .dirty) = none
           ∧ ∀ x ∈ (fr .bad).sectors, x.isOne o.geometry o.needed = true →
               (fr .bad).reaches (o.part.areaStart o.fields o.geometry) o.part.length x = true)
      ∧ (fillingAt (filling 2 0 80 3 []) .valid 2).readsFor 0 { req .read with attempt := 2 } 3 (sec .reading 3) 0
          (filling 2 0 80 3 []) ⟨3, 3, 82, false, false⟩
      ∧ (let o := filling 2 0 80 3 []
         let f := (fillingAt o .valid 2).frame 3
         (fillingAt o .valid 2).waiters = [] ∧ o.staging.length = o.part.length
           ∧ f.reaches (o.part.areaStart o.fields o.geometry) o.part.length (sec .reading 3) = true
           ∧ o.part.track = lastTrack o.fields o.geometry ∧ o.failure = none ∧ o.targets = [])
      ∧ (fillingAt (filling 3 0x20 82 1 []) .valid 8).readsFor 0 { req .read with attempt := 8 } 3 (sec .reading 3) 0
          (filling 3 0x20 82 1 []) ⟨3, 3, 82, false, false⟩
      ∧ (let o := filling 3 0x20 82 1 []
         let f := (fillingAt o .valid 8).frame 3
         o.part.areaStart o.fields o.geometry = f.sectorStart 3 ∧ o.part.length = f.size ∧ dataBytes.length = f.size
           ∧ o.fields.salvage = true ∧ o.needed = [82] ∧ o.geometry.sector 82 = 3)
      ∧ (fillingAt (filling 2 0 80 3 []) .valid 2).fieldRead 0 { req .read with attempt := 2 }
          (.dataFieldEnd 0 (fluxOf (dataBytes ++ [crcHigh (crc (0xCB :: dataBytes)), crcLow (crc (0xCB :: dataBytes))])) [] [])
          dataBytes
      ∧ (fillingAt (filling 3 0x20 82 1 []) .valid 8).readFails 0 { req .read with attempt := 8 } (.fluxLoss 0 []) true := by
  refine ⟨?_, ⟨noneWaiting_of ?_, ?_, rfl, ?_, ?_, ?_, ?_, ?_, ?_, ?_, ?_, ⟨?_, ?_⟩, ?_⟩, ?_,
    readsFor_filling 2 0 80 3 [] .valid 2 ?_, ?_, readsFor_filling 3 0x20 82 1 [] .valid 8 ?_, ?_,
    fieldRead_filling _ _ _, readFails_filling _ _ _⟩ <;> decide +kernel

theorem witness_FailedAttempts :
    (let s := found .read
     s.noneWaiting ∧ (s.chan 0).work = some (req .read) ∧ s.sectorAt ⟨0, 10, 0⟩ 1 = some (3, sec .reading 3)
       ∧ (s.chan 0).state = .armed ∧ (s.chan 0).found = some 900
       ∧ reached 1380 ((900 : Word) + BitVec.ofNat 32 (30 * 16)) = true
       ∧ reached 1379 ((900 : Word) + BitVec.ofNat 32 (30 * 16)) = false)
      ∧ (let s := working .armed .check .checking
         s.noneWaiting ∧ (s.chan 0).found = none ∧ workingPeriod (s.drive 0).timer.p16 = some 166675
           ∧ s.sectorAt ⟨0, 10, 0⟩ 1 = some (3, sec .checking 3)
           ∧ reached 167675 ((s.chan 0).arming + BitVec.ofNat 32 166675) = true)
      ∧ (let s := working .data .read .reading
         s.noneWaiting ∧ (s.chan 0).settings.window = .centre
           ∧ (∀ x ∈ [(⟨1000, 49⟩ : Flux)], ¬ (s.chan 0).settings.threshold * (s.chan 0).reference ≤ 100 * x.amplitude)
           ∧ ∃ x ∈ [(⟨127999, 50⟩ : Flux)], x.time < 512 * 250
              ∧ (s.chan 0).settings.threshold * (s.chan 0).reference ≤ 100 * x.amplitude)
      ∧ (let x : IdRecord := ⟨11, 0, 3, 0⟩
         (working .id .write .dirty).noneWaiting ∧ x.cylinder.toNat ≠ (req .write).cylinder
           ∧ crc [0xC7, x.cylinder, x.head, x.sector, x.size, crcHigh (idCrc x), crcLow (idCrc x)] = 0
           ∧ (let field := [x.cylinder, x.head, x.sector, x.size, crcHigh (idCrc x), crcLow (idCrc x)]
              ({} : Settings).bytes 100 (fluxOf field ++ [] ++ []) 6 = field)
           ∧ reached 1001 ((1000 : Word) + BitVec.ofNat 32 166675) = false)
      ∧ (let s := found .read
         portOf (req .read).drive = 0 ∧ (s.drive 0).sched.job = none ∧ (s.drive 0).lines.trackZero = some false
           ∧ (s.drive 0).cylinder ≠ 0 ∧ (s.drive 0).state = .ready
           ∧ ({} : Settings).markOf idMarkFlux = some (0xC7, 100)
           ∧ ({} : Settings).markOf (markFlux 0xC7 [3] ++ []) = some (0xC7, 100))
      ∧ ((⟨10, 0, 2, 0⟩ : IdRecord).sector.toNat ≠ (sec .reading 3).number
        ∧ reached 167675 ((1000 : Word) + BitVec.ofNat 32 166675) = true
        ∧ (working .id .write .dirty).sectorAt ⟨0, 10, 0⟩ 1 = some (3, sec .dirty 3) ∧ (sec .dirty 3).state ≠ .writing) := by
  refine ⟨⟨noneWaiting_of ?_, ?_⟩, ⟨noneWaiting_of ?_, ?_⟩, ⟨noneWaiting_of ?_, ?_⟩, ⟨noneWaiting_of ?_, ?_⟩, ?_, ?_⟩ <;>
    decide +kernel

/-- A gate open on slot 1 since time 100. -/
def gated (across : Bool) (x : Sector) : State :=
  withC { withF { fr .valid with sectors := [sec .valid 1, x] } with g := 2340 }
    { state := .gate, work := some (req .write), opened := 100, staging := dataBytes, acrossRestart := across }

/-- For DRIVE_FAULT_RISE and the speed timeouts: a write in its gate, and one whose gate has not opened. -/
theorem witness_writeFaulted :
    (let s := gated false (sec .writing 3)
     s.noneWaiting ∧ (s.chan (portOf 0)).work = some (req .write) ∧ s.sectorAt ⟨0, 10, 0⟩ 1 = some (3, sec .writing 3)
       ∧ (s.drive 0).lines.driveFault = false ∧ (s.drive 0).state = .ready)
      ∧ (let s := working .armed .write .dirty
         s.noneWaiting ∧ (s.chan (portOf 0)).work = some (req .write)
           ∧ s.sectorAt ⟨0, 10, 0⟩ 1 = some (3, sec .dirty 3)) := by
  refine ⟨⟨noneWaiting_of ?_, ?_⟩, ⟨noneWaiting_of ?_, ?_⟩⟩ <;> decide +kernel

theorem witness_SectorWrites :
    (let s := withC (withF (fr .dirty)) { state := .armed, work := some (req .write), found := some 824 }
     (s.chan 0).work = some (req .write) ∧ (req .write).kind = .write
       ∧ reached s.g ((824 : Word) + BitVec.ofNat 32 (11 * 16)) = true
       ∧ reached 999 ((824 : Word) + BitVec.ofNat 32 (11 * 16)) = false
       ∧ s.still ∧ s.sectorAt ⟨0, 10, 0⟩ 1 = some (3, sec .dirty 3)
       ∧ (s.frame 3).generation = (s.drive 0).generation)
      ∧ (run.sectorAt ⟨0, 10, 0⟩ 1 = none ∧ (sec .stranded 3).state ≠ .dirty)
      ∧ (let s := gated false (sec .writing 3)
         (s.chan 0).state = .gate ∧ reached s.g ((s.chan 0).opened + BitVec.ofNat 32 ((dataBytes.length + 12) * 16)) = true
           ∧ reached 2339 ((s.chan 0).opened + BitVec.ofNat 32 ((dataBytes.length + 12) * 16)) = false
           ∧ s.noneWaiting ∧ s.sectorAt ⟨0, 10, 0⟩ 1 = some (3, sec .writing 3))
      ∧ (gated true (sec .dirty 3)).still := by
  refine ⟨⟨?_, ?_, ?_, ?_, still_of ?_, ?_⟩, ?_, ⟨?_, ?_, ?_, noneWaiting_of ?_, ?_⟩, still_of ?_⟩ <;> decide +kernel

theorem witness_FormatSteps :
    (let s := { withO (withF (fr .valid)) { formatting 0 .job .discard1 with track := some 20 } with
        quiet := [⟨0, 3, true⟩] }
     s.format? 0 = some ({ formatting 0 .job .discard1 with track := some 20 }, 0) ∧ s.quietTold 0 = true
       ∧ s.noneWaiting ∧ (s.drive 0).sched.job = none ∧ 20 < 77 * (s.drive 0).headCount
       ∧ s.frameOf (s.trackKey 0 20) = some 3 ∧ (s.frame 3).isQuiet = true)
      ∧ (let o := { formatting 0 .job (.discard2 true) with track := some 20 }
         let s := { withO (withF (fr .valid)) o with quiet := [⟨0, 3, true⟩] }
         s.format? 0 = some (o, 0) ∧ s.quietTold 0 = true ∧ s.noneWaiting ∧ s.waiters = []
           ∧ s.frameOf (s.trackKey 0 20) = some 3)
      ∧ (let o := formatting 3 .settle .entry
         let s := { withO (withF (fr .reading)) o with quiet := [⟨0, 3, true⟩] }
         s.format? 0 = some (o, 0) ∧ s.quietTold 0 = true ∧ s.noneWaiting ∧ s.formatInUse 0 o.fields 0 = false
           ∧ (s.frame 3).held = true ∧ (s.frame 3).key.drive = 0 ∧ (s.frame 3).isQuiet = false ∧ o.targets = [])
      ∧ (let s := withO (run.withDrive 0 { rd with
            sched := { job := some ⟨.recal, 10, 0, 0, false, .channel, false, .mfm, 0⟩ } }) (formatting 3 .job .slotFree)
         s.still ∧ (s.drive 0).sched.job = some ⟨.recal, 10, 0, 0, false, .channel, false, .mfm, 0⟩)
      ∧ run.frameOf (run.trackKey 0 20) = none ∧ (fr .reading).isQuiet = false ∧ run.quietTold 0 = false
      ∧ (formatting 3 .settle .entry).drainEnded = false
      ∧ (let o := formatting 3 .settle .drain
         let s := withO (withF (fr .valid)) o
         s.format? 0 = some (o, 0) ∧ o.drainEnded = true ∧ s.formatInUse 0 o.fields 0 = false ∧ s.noneWaiting
           ∧ o.fields.trackScope = false ∧ (∀ f, (s.frame f).held = true → (s.frame f).isQuiet = true)
           ∧ ∀ f g, (s.frame f).held = true → (s.frame g).held = true → f = g)
      ∧ (let s := withO { run with table := run.table.set 1 (.order (ord (fields 1 0 0 1 0) .fill)) }
            (formatting 3 .settle .drain)
         s.formatInUse 0 (fields 8 0 0 1 3) 0 = true)
      ∧ ((withD fun d => { d with state := .fault }).drive 0).state = .fault
      ∧ ((formatting 3 .job .slotFree).phase = .slotFree ∧ (formatting 3 .job .slotFree).track = some 0
        ∧ (formatting 3 .job .slotFree).generation = (run.drive 0).generation)
      ∧ ((withD fun d => { d with generation := 2 }).drive 0).generation ≠ (formatting 3 .job .slotFree).generation
      := by
  refine ⟨⟨rfl, ?_, noneWaiting_of ?_, ?_⟩, ⟨rfl, ?_, noneWaiting_of ?_, ?_⟩, ⟨rfl, ?_, noneWaiting_of ?_, ?_⟩,
    ⟨still_of ?_, ?_⟩, ?_, ?_, ?_, ?_, ⟨rfl, ?_, ?_, noneWaiting_of ?_, ?_⟩, ?_⟩ <;> decide +kernel

/-- A track write of drive 0 opened at time 0, its ending pulse at time `g`. -/
def trackWriting (g : Word) (o : Order) (st : DriveState) : State :=
  withC (withO (pulseAt g fun d => { jobD d true with state := st }) o)
    { state := .trackWrite, work := some (req .formatTrack), opened := 0, stream := .track lay 0 0 0xE5 }

/-- Drive 0 listening in a revolution of discovery, with a list heard and its closing pulse at time `g`. -/
def listening (g : Word) (heard : List Heard) (revolution : Nat) : State :=
  withC (pulseAt g fun d => { d with state := .discovery, layoutKnown := false, revolution := revolution })
    { state := .listen, work := some (req .discover), listen := heard }

/-- Four IDs of the test layout on cylinder 0, head 0, at their mark times. -/
def heard4 : List Heard :=
  [⟨⟨0, 0, 1, 0⟩, 640⟩, ⟨⟨0, 0, 3, 0⟩, 3792⟩, ⟨⟨0, 0, 2, 0⟩, 6944⟩, ⟨⟨0, 0, 4, 0⟩, 10096⟩]

theorem witness_TrackJobsAtIndexPulses :
    (let s := withC (pulseAt 161667 id) { state := .armed, work := some (req .formatTrack) }
     (s.chan 0).state = .armed ∧ (s.drive 0).state = .ready ∧ (s.drive 0).timer.active = some lay
       ∧ (s.drive 0).timer.prev = some 0 ∧ (s.g - 0).toNat = 161667)
      ∧ (run.g - 0).toNat < 161667 ∧ (run.drive 0).timer.rej ≠ 3
      ∧ (lay.g0 + lay.spt * (37 + lay.size + lay.g3)) * lay.bt = 13120
      ∧ (let o := formatting 0 .job .posted
         let s := trackWriting 13120 o .ready
         s.format? 0 = some (o, 0) ∧ (s.drive 0).sched.job.isSome = true ∧ o.phase = .posted
           ∧ o.fields.trackScope = true ∧ s.frameOf (s.trackKey 0 0) = none ∧ (s.drive 0).timer.rej ≠ 3)
      ∧ (let o := formatting 1 .job .posted
         let s := trackWriting 13119 o .formatting
         s.format? 0 = some (o, 0) ∧ o.fields.trackScope = false ∧ (s.drive 0).state = .formatting
           ∧ s.ctl ≠ .shedding ∧ 0 + 1 < 77 * (s.drive 0).headCount ∧ 77 * (s.drive 0).headCount ≤ 153 + 1
           ∧ o.generation = (s.drive 0).generation)
      ∧ (let s := (trackWriting 13120 { formatting 3 .job .busy with track := some 0 } .formatting).withDrive 0 { rd with
            state := .formatting
            sched := { job := some ⟨.formatTrack, 0, 0, 0, false, .gone false, true, .mfm, 0xE5⟩, busy := [.format 0] } }
         quietNow s = true ∧ (s.chan 0).state = .trackWrite ∧ Requester.driveControl ∉ (s.drive 0).sched.busy
           ∧ Requester.format 0 ∈ (s.drive 0).sched.busy ∧ (s.drive 0).state = .formatting)
      ∧ (lay.map.length = lay.spt ∧ lay.g0 + lay.spt * (37 + lay.size + lay.g3) ≤ 820 ∧ 820 < 821)
      ∧ (let s := listening 166700 heard4 1
         (s.chan (portOf 0)).work = some (req .discover) ∧ (req .discover).drive = 0
           ∧ (s.chan (portOf 0)).state = .listen ∧ (s.drive 0).state = .discovery
           ∧ Requester.driveControl ∉ (s.drive 0).sched.busy ∧ (s.drive 0).timer.prev = some 0
           ∧ (161667 ≤ (s.g - 0).toNat ∧ (s.g - 0).toNat ≤ 171667) ∧ (s.drive 0).timer.rej ≠ 3
           ∧ (s.chan (portOf 0)).listen.filter (fun x => x.id.cylinder == 0 && x.id.head == 0) = heard4
           ∧ (∀ n ∈ heard4.map fun x => x.id.sector.toNat, 1 ≤ n) ∧ (heard4.map fun x => x.id.sector.toNat).Nodup
           ∧ lay.legal (workingPeriod (some (estimate (s.drive 0).timer.p16 166700))) = true)
      ∧ ((listening 171668 [] 4).drive 0).revolution = 4 ∧ 171667 < ((listening 171668 [] 4).g - 0).toNat
      ∧ (∃ y ∈ [(⟨⟨0, 0, 1, 0⟩, 640⟩ : Heard), ⟨⟨0, 0, 2, 1⟩, 900⟩], y.id.size ≠ 0)
      ∧ ¬ (([1, 1] : List Nat).Nodup) ∧ (1 + 1 ∉ ([1, 3] : List Nat)) ∧ lay.legal (some 1) = false := by
  refine ⟨?_, ?_, ?_, ?_, ?_, ?_, ?_, ?_, ?_, ?_⟩ <;> decide +kernel

theorem witness_PicksRoundsAndBursts :
    run.served 0 = []
      ∧ (let s := run.withDrive 0 { rd with sched := { job := some ⟨.recal, 10, 0, 0, false, .channel, false, .mfm, 0⟩ } }
         ∃ x ∈ s.served 0, x.kind = .recal)
      ∧ (let s := withF (fr .dirty)
         s.served 0 ≠ [] ∧ ∀ x ∈ s.served 0, x.kind ≠ .recal)
      ∧ ((working .data .read .reading).chan 0).acrossRestart = false
      ∧ (let u := (Ctx.of twoDirty).toIdle 0
         let c := (u.answerRound (lowDrive 0)).answerRound (highDrive 0)
         ∃ a b, (c.chan 0).pendLow = some a ∧ (c.chan 0).pendHigh = some b)
      ∧ ((run.drive 0).sched.state = .quiet ∧ (run.drive 0).sched.hold = false ∧ portOf 0 = 0
        ∧ (let u := (Ctx.of run).toIdle 0
           ((u.answerRound 0).answerRound 1 |>.chan 0).pendLow = none))
      ∧ run.pick 0 none = .nothing
      ∧ (let s := { withC (withF { fr .valid with sectors := [sec .valid 1, sec .valid 3, sec .dirty 2, sec .valid 4] })
            { work := some (req .write), burst := 1 } with g := 1000 }
         (∃ y cost overdue b, s.pick 0 none = .file y cost overdue b ∧ y.place = ⟨10, 0, some (1 + 1)⟩)
           ∧ (s.drive 0).timer.active = some lay ∧ (1 + 1) + 1 ≤ lay.spt ∧ (s.chan 0).burst < 8
           ∧ (s.drive 0).timer.phi + 100 ≤ (lay.g0 + (1 + 1) * (37 + lay.size + lay.g3)) * lay.bt) := by
  refine ⟨?_, ?_, ?_, ?_, ⟨_, _, rfl, rfl⟩, ?_, ?_, ⟨_, _, _, _, rfl, rfl⟩, ?_⟩ <;> decide +kernel

/-- A READ of track 20 waiting for a frame. -/
def frameless : Order := { ord (fields 1 0 80 1 0) .frame with track := some 20 }

/-- Its entry of the Frame Wait Queue. -/
def waitingEntry : Waiting := ⟨0, ⟨0, 10, 0⟩, 1, 0, false⟩

theorem witness_FramesForWaiters :
    (withF (fr .valid)).victim? = some 3 ∧ (withF (fr .dirty)).victim? = none
      ∧ (let s := withO (withF (fr .valid)) frameless
         s.order? waitingEntry.order = some frameless ∧ frameless.stage = .frame ∧ (s.drive 0).layoutKnown = true
           ∧ (s.drive 0).state = .ready ∧ waitingEntry.generation = (s.drive 0).generation
           ∧ s.frameOf waitingEntry.key = some 3)
      ∧ (let s := withO run frameless
         s.frameOf waitingEntry.key = none ∧ (s.drive 0).timer.active = some lay ∧ (s.frame 0).held = false
           ∧ ∀ f', f' < (0 : FrameNo) → (s.frame f').held = true)
      ∧ (let s := { run with frames := Vector.replicate 16 { fr .valid with key := ⟨1, 0, 0⟩ } }
         s.frameOf waitingEntry.key = none ∧ (∀ f', (s.frame f').held = true) ∧ s.victim? = some 0)
      ∧ (let s := { run with frames := Vector.replicate 16 { fr .dirty with key := ⟨1, 0, 0⟩ }, fwq := [waitingEntry] }
         s.fwq = waitingEntry :: [] ∧ (∀ f', (s.frame f').held = true) ∧ s.victim? = none
           ∧ ∀ w ∈ s.fwq, s.frameOf w.key = none ∧ (s.drive w.key.drive).layoutKnown = true
              ∧ (s.drive w.key.drive).state = .ready ∧ w.generation = (s.drive w.key.drive).generation)
      ∧ ((withD fun d => { d with layoutKnown := false }).drive 0).layoutKnown = false
      ∧ ((withD fun d => { d with generation := 2 }).drive 0).generation ≠ waitingEntry.generation := by decide +kernel

theorem witness_LocksKept :
    locked.lockBounds ∧ locked.locksHeld ∧ locked.locksExclusive ∧ ∃ t, step locked = .next t := by
  refine ⟨?_, ?_, ?_, _, rfl⟩
  · unfold State.lockBounds; decide +kernel
  · unfold State.locksHeld; decide +kernel
  · unfold State.locksExclusive; decide +kernel

theorem witness_MemoriesAndTimersKept :
    (∃ t, step run = .next t) ∧ run.memoriesWf ∧ run.timersInRange := by
  refine ⟨⟨_, rfl⟩, by unfold State.memoriesWf; decide +kernel, fun v => ⟨?_, of_some (a := 2666800) ?_ ?_⟩⟩
  · have : ∀ v, (run.drive v).timer = rd.timer := by decide +kernel
    rw [this v]; unfold Timer.inRange; decide +kernel
  · revert v; decide +kernel
  · decide +kernel

theorem witness_FrameKeysKept :
    (withF (fr .valid)).keysDistinct ∧ ∃ t, step (withF (fr .valid)) = .next t := by
  refine ⟨?_, _, rfl⟩
  unfold State.keysDistinct; decide +kernel

theorem witness_WindowsAndRunKept :
    (∃ t, step run = .next t) ∧ run.windowsKept ∧ run.runMatches := by
  refine ⟨⟨_, rfl⟩, fun d => ?_, ?_⟩
  · have : ∀ d, run.desk d = {} := by decide +kernel
    rw [this d]
    exact ⟨by decide, fun _ _ h => nomatch h⟩
  · unfold State.runMatches; decide +kernel

theorem witness_GenerationMovesAtMediaLoads :
    ∃ t, exec (.mediaLoad 0 false true) (withD fun _ => { state := .empty }) = .next t
      ∧ (t.drive 0).generation ≠ ((withD fun _ => { state := .empty }).drive 0).generation :=
  ⟨_, rfl, by decide +kernel⟩

/-! ### One command each, from the worked examples of the spec -/

/-- What holds of the next state of an outcome. -/
def thenB (o : Host.Outcome State Fault Refusal) (p : State → Bool) : Bool :=
  match o with
  | .next t => p t
  | _ => false

/-- A spin-up, pulse by pulse (02, 2.4): the third pulse, ACCEPTED with 166,890, ends SPINUP. -/
theorem test_indexPulse_third_of_spinup :
    thenB (exec (.indexPulse 1) { run.withDrive 1 { rd with
        state := .spinup
        timer := { prev := some 5248210, acc := 1, p16 := some 2672160 } } with g := 5415100 }) (fun t =>
      (t.drive 1).state == .recal && (t.drive 1).timer.p16 == some 2671920 && (t.drive 1).timer.acc == 2
        && (t.drive 1).timer.noIndex == some 5815100) = true := by decide +kernel

/-- The fourth pulse there, REJECTED with 172,300: the estimate stays and SPEED_REJECT is counted. -/
theorem test_indexPulse_fourth_of_spinup :
    thenB (exec (.indexPulse 1) { run.withDrive 1 { rd with
        state := .recal, arm := .recal 1 0 none
        timer := { prev := some 5415100, acc := 2, p16 := some 2671920 } } with g := 5587400 }) (fun t =>
      (t.drive 1).state == .recal && (t.drive 1).timer.p16 == some 2671920 && (t.drive 1).timer.acc == 0
        && (t.drive 1).timer.rej == 1 && (t.drive 1).health.counters[6] == 1) = true := by decide +kernel

/-- Drive 0 of the worked examples of chapters 3 and 5: the MFM layout, its arm at cylinder 10, P = 166,675. -/
def exampleDrive (phi : Nat) : Drive :=
  { rd with timer := { phi := phi, prev := some 0, p16 := some 2666800, active := some mfm26 } }

/-- A sequence of picks (05, 5.6): the costs of A, B and C at φ = 150,000. -/
theorem test_pick_costs :
    (let s := run.withDrive 0 (exampleDrive 150000)
     [s.cost 0 ⟨.read, ⟨10, 0, some 3⟩, 0, false⟩, s.cost 0 ⟨.write, ⟨12, 1, some 20⟩, 0, false⟩,
       s.cost 0 ⟨.read, ⟨11, 0, some 0⟩, 0, false⟩] = [33643, 128027, 183662]) := by decide +kernel

/-- A burst (03, 3.6): the ID CRC of slot 3 ends at 2,007,408, the gate opens at 2,007,584 and closes at 2,011,872. -/
theorem test_gate_times :
    ({} : Channel).gateOpenDue 2007408 = 2007584
      ∧ ({ opened := 2007584, staging := List.replicate 256 0 } : Channel).gateCloseDue = 2011872 := by decide +kernel

/-- A frame of the example drive's track 10/0 with every sector in a state. -/
def exampleFrame (st : Nat → SectorState) : Frame :=
  { held := true, key := ⟨0, 10, 0⟩, generation := 1, density := .mfm, sizeCode := 1, spt := 26, first := 1
    slotMap := mfm26.map, sectors := mfm26.map.map fun n => { sec (st n) n with attempts := 0 } }

/-- The same burst: slot 3's gate closes at φ = 21,872 and the burst goes on into slot 4, armed at 2,012,620. -/
theorem test_gateClose_burst :
    thenB (exec (.gateClose 0)
      { withC (withF (exampleFrame fun n => if n = 15 then .writing else if n = 3 then .dirty else .valid))
          { state := .gate, work := some { req .write with slot := 3, attempt := 1 }, burst := 1
            selected := some (0, 0), opened := 2007584, staging := List.replicate 256 0 } with
        g := 2011872, drives := run.drives.set 0 (exampleDrive 21872) }) (fun t =>
      (t.chan 0).state == .selecting && (t.chan 0).burst == 2 && (t.chan 0).arming == 2012620
        && (t.frame 3).sectors[3]?.map Sector.state == some .valid) = true := by decide +kernel

/-- A power warning (chapter 11): the READ in FILL is abandoned, the WRITE stays in SETTLE, and the check is dropped. -/
theorem test_powerWarningRise_example :
    thenB (exec .powerWarningRise
      { withF (exampleFrame fun n => if n = 9 then .checkDue else if n = 5 ∨ n = 6 then .dirty else .valid) with
        table := (run.table.set 0 (.order { ord (fields 1 0 0 1 0) .fill with wait := [⟨2, 1, 0, false, false⟩] })).set 1
          (.order (ord (fields 2 0 0 2 0) .settle)) }) (fun t =>
      t.ctl == .shedding && (t.order? 0).map (fun o => o.result.map Result.code) == some (some .abandoned)
        && (t.order? 1).map Order.stage == some .settle
        && ((t.frame 3).sector? 9).map Sector.state == some .dirty
        && ((t.frame 3).sector? 9).map Sector.verify == some false) = true := by decide +kernel

/-- A density change that overruns (chapter 9): a spurious pulse 120,000 µs into track 41. -/
theorem test_indexPulse_track_overrun :
    thenB (exec (.indexPulse 2)
      { run.withChan 1
          { state := .trackWrite, work := some ⟨2, .formatTrack, 20, 1, 0, 0, false, false, 0, .mfm, 0xE5⟩, opened := 0
            stream := .track mfm26 20 1 0xE5 } with
        g := 120000
        drives := run.drives.set 2 { exampleDrive 120000 with
          state := .formatting
          sched := { state := .served, job := some ⟨.formatTrack, 20, 1, 0, false, .format 0, true, .mfm, 0xE5⟩ } }
        table := run.table.set 0 (.order { formatting 3 .job .posted with
          fields := { fields 8 0 0 1 3 with drive := 2 }, track := some 41, tracks := 41 }) }) (fun t =>
      (t.drive 2).state == .blank && (t.drive 2).cause == .incomplete && (t.drive 2).health.counters[6] == 1
        && (t.order? 0).map (fun o => (o.result.map Result.code, o.result.map Result.detail, o.tracks)) ==
          some (some .trackOverrun, some 41, 41)) = true := by decide +kernel

set_option maxRecDepth 100000 in
/-- A salvage read (07, 7.4): the eighth failed read of sector 25 makes it BAD and the block the fill of the order. -/
theorem test_dataFieldEnd_salvage :
    thenB (exec (.dataFieldEnd 0 [] [] [])
      { withC (withF { exampleFrame (fun n => if n = 25 then .reading else .valid) with uses := 1 })
          { state := .data, work := some { req .read with slot := 23, attempt := 8 } } with
        drives := run.drives.set 0 (exampleDrive 0)
        table := run.table.set 0 (.order { ord (fields 1 0x20 544 2 0) .fill with
          geometry := ⟨26, 1, 256, 2⟩, track := some 20, frame := some 3, wait := [⟨3, 25, 544, true, false⟩] }) }) (fun t =>
      ((t.frame 3).sector? 25).map Sector.state == some .bad && (t.frame 3).uses == 0
        && (t.order? 0).map (fun o => (o.stage, o.highest, o.fillUsed, o.staging.take 256)) ==
          some (.deliver, 8, some 544, List.replicate 256 0xE5)) = true := by decide +kernel

/-- One interval of drive 1 (10.3): the rejected pulse at 65,535 sets the flag. -/
theorem test_health_ceiling :
    (({ counters := Vector.replicate 8 65534 } : Health).count .speedReject).overflow = 0
      ∧ ((({ counters := Vector.replicate 8 65534 } : Health).count .speedReject).count .speedReject).overflow = 0x40 := by
  decide +kernel

/-- Mapping a run (01, 1.7): block 1,013 is on cylinder 19, head 0, sector 26, slot 25. -/
theorem test_block_mapping :
    (let geo := mfm26.geometry 2
     (geo.cylinder (geo.track 1013), geo.head (geo.track 1013), geo.sector 1013, mfm26.map[25]?) = (19, 0, 26, some 26)) := by
  decide +kernel

/-- The conclusion of discovery gives back the layout whose IDs were heard (R21). -/
theorem test_discovery_concludes :
    thenB (exec (.indexPulse 0) (listening 166700 heard4 1)) (fun t =>
      (t.drive 0).state == .ready && (t.drive 0).layoutKnown && (t.drive 0).timer.active == some lay) = true := by
  decide +kernel

/-- A desk walking its chain (06, 6.5): ATTEND makes the IDLE desk FETCHING. -/
theorem test_attend_example :
    thenB (exec (.attend 1) (withK { state := .idle, cursor := some 0x040140, taken := 12, done := 12 })) (fun t =>
      (t.desk 1).state == .fetching && (t.desk 1).cursor == some 0x040140 && (t.desk 1).look == .link
        && (t.desk 1).taken == 12) = true := by decide +kernel

/-- A drive in fault, by event (05, 5.8): the write in its gate ends FAULTED and its sector returns to DIRTY with its attempt
count one higher; that of attempt 3 is STRANDED (R73). -/
theorem test_write_faulted_in_its_gate :
    (let after (n : Nat) : Option (SectorState × Nat) :=
       let s := gated false (sec .writing 3)
       match exec (.driveFaultRise 0) (s.withChan 0 { s.chan 0 with work := some { req .write with attempt := n } }) with
       | .next t => (t.frame 3).sectors[1]?.map fun x => (x.state, x.attempts)
       | _ => none
     after 1 = some (.dirty, 2) ∧ after 3 = some (.stranded, 3)) := by decide +kernel

/-- A write attempt that finds an ID of another cylinder before its gate: the DIRTY sector discards the report and keeps its
attempt count (R76); the SEEK_ERROR is counted (R53) and a recalibration owed (R52). -/
theorem test_write_seek_error_before_its_gate :
    thenB (exec (.huntLimit 0) { working .armed .write .dirty with g := 167675 }) (fun t =>
        (t.frame 3).sectors[1]? == some (sec .dirty 3))
      ∧ (let field := [11, 0, 3, 0, crcHigh (idCrc ⟨11, 0, 3, 0⟩), crcLow (idCrc ⟨11, 0, 3, 0⟩)]
         thenB (exec (.idFieldEnd 0 (fluxOf field) [] []) (working .id .write .dirty)) fun t =>
           (t.frame 3).sectors[1]? == some (sec .dirty 3) && (t.drive 0).health.counters[3] == 1 && (t.chan 0).owed 0) := by
  decide +kernel

/-! ### Witnesses of single clauses: recorded changes, sectors at the shed, the next track, settlings -/

/-- A change of drive 0 is recorded in RUNNING and in SAFE and not in STOPPED, and no layout is staged at the pulse. -/
theorem witness_recordsChange :
    run.ctl = .running ∧ (inCtl .safe true).ctl = .safe ∧ (inCtl .stopped false).ctl = .stopped
      ∧ (run.drive 0).state ≠ .empty ∧ ((pulseAt 161667 (spun .fault .speed 3 0)).drive 0).timer.staged = none := by
  decide +kernel

/-- The shed meets a READING sector of the port's work, and WANTED ones beside it. -/
theorem witness_PowerWarningRise_sectors :
    (let o := filling 1 0 80 4 []
     let s := fillingAt o .wanted 2
     s.ctl = .running ∧ s.readyOrder? = none ∧ s.fwq = [] ∧ (s.frame 3).held = true
       ∧ (s.frame 3).sectors[0]? = some (sec .wanted 1) ∧ (s.chan 0).work = some { req .read with attempt := 2 }
       ∧ s.sectorAt ⟨0, 10, 0⟩ 1 = some (3, sec .reading 3))
      ∧ (let s := working .data .check .checking
         (s.chan 0).work = some (req .check) ∧ s.sectorAt ⟨0, 10, 0⟩ 1 = some (3, sec .checking 3)) := by decide +kernel

/-- A READ of blocks 78 to 83 that has delivered track 19. -/
def halfway : Order :=
  { ord (fields 1 0 78 6 0) .deliver with track := some 19, passed := true, staging := List.replicate 256 0xAA }

/-- The same READ, as it turns to track 20. -/
def turned : Order := { halfway with bytes := 256, staging := [], track := some 20 }

theorem witness_DeliveryDone_nextTrack :
    (let s := withO (withF (fr .valid)) halfway
     s.order? 0 = some halfway ∧ halfway.fields.kind? = some .read ∧ halfway.fields.drive = (0 : DriveNo).val
       ∧ halfway.part.track < lastTrack halfway.fields halfway.geometry ∧ s.noneWaiting ∧ s.waiters = []
       ∧ halfway.part.length = 256 ∧ halfway.generation = (s.drive 0).generation ∧ (s.drive 0).state = .ready
       ∧ s.frameOf ⟨0, 20 / 2, 20 % 2⟩ = some 3)
      ∧ ((withO (withF (fr .valid)) halfway).grants ⟨0, 10, 0⟩ lay 3 (grantedF (fr .valid)))
      ∧ (((grantedF (fr .valid)).sectors.map Sector.number).Nodup ∧ (∀ x ∈ (grantedF (fr .valid)).sectors, 1 ≤ x.number)
        ∧ ∀ q ∈ turned.needed, ∃ x ∈ (fr .valid).sectors, x.number = turned.geometry.sector q)
      ∧ turned.toWait (grantedF (fr .valid)) = [] ∧ turned.firstBad (grantedF (fr .valid)) = none
      ∧ turned.toWait (grantedF (fr .absent)) ≠ [] ∧ turned.firstBad (grantedF (fr .bad)) = some 80
      ∧ halfway.generation ≠ ((withD fun d => { d with generation := 2 }).drive 0).generation
      ∧ (let s := withO { run with frames := Vector.replicate 16 { fr .dirty with key := ⟨1, 0, 0⟩ } } halfway
         s.frameOf ⟨0, 10, 0⟩ = none ∧ (∀ f, (s.frame f).held = true) ∧ s.victim? = none) := by
  refine ⟨⟨rfl, rfl, rfl, ?_, noneWaiting_of ?_, rfl, ?_, rfl, rfl, ?_⟩, .inl ⟨?_, rfl⟩, ?_, ?_, ?_, ?_, ?_, ?_, ?_⟩ <;>
    decide +kernel

/-- A FORMAT of track 20 by a supplied layout equal to the active one. -/
theorem witness_LayoutReadDone_scope2 :
    let o := { formatting 2 .check .readLayout with fields := fields 8 0 20 1 2 }
    let s := withO (withF (fr .dirty)) o
    s.format? 0 = some (o, 0) ∧ o.phase = .readLayout ∧ suppliedLayout (layoutRecord 1) = some lay
      ∧ lay.legal o.period = true ∧ o.fields.scope = 2 ∧ (s.drive 0).timer.active = some lay
      ∧ s.formatInUse 0 o.fields 0 = false ∧ s.noneWaiting ∧ s.waiters = [] ∧ o.generation = (s.drive 0).generation
      ∧ (s.drive 0).state = .ready ∧ 20 < 77 * (s.drive 0).headCount ∧ (s.drive 0).sched.job = none
      ∧ s.frameOf (s.trackKey 0 20) = some 3 ∧ (s.frame 3).isQuiet = true ∧ (fr .reading).isQuiet = false
      ∧ run.frameOf (run.trackKey 0 20) = none := by
  refine ⟨?_, ?_, ?_, ?_, ?_, ?_, ?_, noneWaiting_of ?_, ?_⟩ <;> decide +kernel

/-- A drive without an active layout. -/
theorem witness_RecordedBytes_noLayout : ({} : Drive).timer.active = none ∧ ({} : Drive).headCount < 256 := by decide +kernel

/-- A WRITE in SETTLE that awaits sector 3 of frame 3. -/
def settlingOn : Order := { ord (fields 2 0x8 82 1 0) .settle with targets := [⟨3, 0, 3, 82, 4, .awaited⟩] }

theorem settlingOn_settles : settlingOn.settling ∧ settlingOn.follows 3 3 :=
  ⟨⟨rfl, rfl, rfl, rfl, by decide +kernel⟩, _, List.mem_singleton.2 rfl, rfl, rfl, rfl⟩

theorem witness_SectorWrites_settling :
    (let s := withO (gated false (sec .writing 3)) settlingOn
     s.noneWaiting ∧ s.waiters = [] ∧ s.order? 0 = some settlingOn ∧ (sec .writing 3).check = false)
      ∧ settlingOn.settling ∧ settlingOn.follows 3 (sec .writing 3).number :=
  ⟨⟨noneWaiting_of (by decide +kernel), rfl, rfl, rfl⟩, settlingOn_settles⟩

theorem witness_DataFieldEnd_stranding :
    (let s := withO (working .data .check .checking) settlingOn
     s.noneWaiting ∧ s.waiters = [] ∧ s.order? 0 = some settlingOn)
      ∧ settlingOn.settling ∧ (∀ z ∈ settlingOn.targets, z = ⟨3, 0, 3, 82, 4, .awaited⟩)
      ∧ 3 ≤ ({ req .check with attempt := 3 } : Request).attempt :=
  ⟨⟨noneWaiting_of (by decide +kernel), rfl, rfl⟩, settlingOn_settles.1, by decide +kernel, by decide +kernel⟩

/-- A pre-read observed by a READ moves its highest attempt, and by a WRITE leaves it (R138, R144, log 57). -/
theorem test_highest_attempt_of_reads :
    ((filling 1 0 82 1 []).observeRead 2).highest = 2 ∧ ((filling 2 0 82 1 []).observeRead 2).highest = 0 := by decide +kernel

/-- Drive 0 in a state, with a track job and the channel at its write or idle, and a FORMAT of a scope and phase in entry 0. -/
def formatOn (scope : Nat) (p : FormatPhase) (st : DriveState) (job : Option Job) (busy : List Requester) : State :=
  withO (run.withDrive 0 { rd with state := st, sched := { job := job, busy := busy } })
    { formatting scope .job p with tracks := 5 }

/-- The FORMAT_TRACK job of entry 0, granted or pending. -/
def trackJob (granted : Bool) : Job := ⟨.formatTrack, 0, 0, 0, false, .format 0, granted, .mfm, 0xE5⟩

theorem notQueued_formatOn (scope : Nat) (p : FormatPhase) (st : DriveState) (job : Option Job) (busy : List Requester) :
    (formatOn scope p st job busy).notQueued 0 :=
  ⟨fun _ h => (nomatch h), fun _ h => (nomatch h)⟩

theorem witness_PowerWarningRise_formats :
    (let s := formatOn 1 .posted .formatting (some (trackJob true)) []
     s.format? 0 = some ({ formatting 1 .job .posted with tracks := 5 }, 0) ∧ s.notQueued 0
       ∧ (s.drive 0).sched.job = some (trackJob true) ∧ (s.chan 0).work = none ∧ (s.chan 1).work = none)
      ∧ (let s := formatOn 1 .posted .formatting (some (trackJob false)) []
         s.format? 0 = some ({ formatting 1 .job .posted with tracks := 5 }, 0) ∧ s.notQueued 0
           ∧ (s.drive 0).sched.job = some (trackJob false) ∧ (trackJob false).running = false
           ∧ (formatting 1 .job .posted).fields.trackScope = false ∧ (s.drive 0).state = .formatting) :=
  ⟨⟨rfl, notQueued_formatOn _ _ _ _ _, by decide +kernel⟩, rfl, notQueued_formatOn _ _ _ _ _, by decide +kernel⟩

/-- For DRIVE_FAULT_RISE and NO_INDEX_TIMEOUT: the FORMATs of a drive that enters FAULT. -/
theorem witness_formatsFail :
    (let s := formatOn 0 .posted .ready (some (trackJob false)) []
     s.format? 0 = some ({ formatting 0 .job .posted with tracks := 5 }, 0) ∧ s.notQueued 0
       ∧ (s.drive 0).sched.job = some (trackJob false) ∧ (s.chan 0).work = none ∧ (s.drive 0).lines.driveFault = false)
      ∧ (let s := formatOn 0 .slotFree .ready none []
         s.format? 0 = some ({ formatting 0 .job .slotFree with tracks := 5 }, 0) ∧ s.notQueued 0) :=
  ⟨⟨rfl, notQueued_formatOn _ _ _ _ _, by decide +kernel⟩, rfl, notQueued_formatOn _ _ _ _ _⟩

/-- A FORMAT at the entry to SHEDDING (R174): a granted job is waited for, a pending one withdrawn, and its drive left
BLANK; at the entry to FAULT it ends NOT_READY with its track (R173). -/
theorem test_formats_at_shed_and_fault :
    (let s := formatOn 1 .posted .formatting (some (trackJob true)) []
     thenB (exec .powerWarningRise s) fun t => t.order? 0 == s.order? 0 && (t.drive 0).state == .formatting)
      ∧ thenB (exec .powerWarningRise (formatOn 1 .posted .formatting (some (trackJob false)) [])) (fun t =>
          (t.order? 0).bind Order.result == some ⟨.abandoned, 0, 1000⟩ && (t.drive 0).sched.job == none
            && (t.drive 0).state == .blank && (t.drive 0).cause == .incomplete)
      ∧ thenB (exec (.driveFaultRise 0) (formatOn 1 .posted .formatting (some (trackJob true)) [])) (fun t =>
          (t.order? 0).bind Order.result == some ⟨.notReady, 0, 1000⟩ && (t.drive 0).incomplete) := by
  decide +kernel

/-- Drive 0 in a state with a seek from before a fault that has come to its settle. -/
def seekOn (st : DriveState) (cause : Cause) (trackZero : Bool) : State := withD fun d => { d with
  state := st, cause := cause, cylinder := 30, arm := .seekSettle 1000 false, sched := {}
  lines := { d.lines with driveFault := st == .fault, trackZero := some trackZero } }

theorem witness_DriveFaultFall_seeking :
    let d := (seekOn .fault .drive false).drive 0
    d.lines.driveFault = true ∧ d.state = .fault ∧ d.cause = .drive ∧ d.arm.seeking = true := by decide +kernel

theorem witness_HeadsAndSeeks_recal :
    (seekOn .recal .none false).still ∧ (let d := (seekOn .recal .none false).drive 0
      d.arm = .seekSettle 1000 false ∧ d.sched.job = none ∧ d.state = .recal ∧ d.lines.trackZero = some false)
      ∧ ((seekOn .recal .none true).drive 0).lines.trackZero = some true :=
  ⟨still_of (by decide +kernel), by decide +kernel, by decide +kernel⟩

/-- A seek that a fault with cause SPEED left running goes on into RECAL, and the recalibration begins at its settle
(R6, R13). -/
theorem test_recalibration_waits_for_the_seek :
    thenB (exec (.driveFaultFall 0) (seekOn .fault .drive false)) (fun t =>
        (t.drive 0).state == .recal && (t.drive 0).arm == .seekSettle 1000 false)
      ∧ thenB (exec (.armSettled 0) (seekOn .recal .none false)) (fun t =>
          (t.drive 0).state == .recal && (t.drive 0).lines.steps == 1 && !(t.drive 0).lines.inward
            && (t.drive 0).arm != .free) := by
  decide +kernel

/-- For DELIVERY_DONE, LAYOUT_READ_DONE and INDEX_PULSE: nothing that waits names entry 0. -/
theorem witness_notQueued :
    (withO run (delivering 3 .awaited)).notQueued 0 ∧ (withO run (formatting 3 .check .readLayout)).notQueued 0
      ∧ (formatting 2 .check .readLayout).targets = []
      ∧ (trackWriting 13120 (formatting 1 .job .posted) .formatting).notQueued 0
      ∧ (let s : State := { trackWriting 13120 (formatting 1 .job .posted) .formatting with ctl := .shedding }
         s.format? 0 = some (formatting 1 .job .posted, 0) ∧ s.ctl = .shedding) :=
  ⟨⟨fun _ h => (nomatch h), fun _ h => (nomatch h)⟩, ⟨fun _ h => (nomatch h), fun _ h => (nomatch h)⟩, rfl,
    ⟨fun _ h => (nomatch h), fun _ h => (nomatch h)⟩, rfl, rfl⟩

end Sys2Proof.Tests
end

-- ==== Sys2Proof/Proofs/Generations.lean ====
namespace Sys2Proof.Machine

open Sys2Proof

/-! ### Drive generations: every operation but a media load keeps them (R4, R11) -/

/-- The generations of the four drives, as the view of a state carries them. -/
def View.generations (x : View) : Vector Half 4 := x.drives.map DriveView.generation

/-- Equal drives have equal generations. -/
theorem State.generations_of_drives {s t : State} (h : s.drives = t.drives) :
    s.view.generations = t.view.generations := by
  simp [View.generations, State.view, h]

/-- The generation of one drive, read off the generations. -/
theorem State.drive_generation {s t : State} (h : s.view.generations = t.view.generations) (v : DriveNo) :
    (s.drive v).generation = (t.drive v).generation := by
  have h1 := congrArg (fun x => x[v.val]) h
  simpa [View.generations, State.view, State.drive, Drive.view] using h1

/-- A change of one drive that keeps its generation keeps them all. -/
theorem Ctx.setDrive_generations (c : Ctx) (v : DriveNo) (d : Drive) (h : d.generation = (c.drive v).generation) :
    (c.setDrive v d).view.generations = c.view.generations := by
  have h1 : (c.drives.set v.val d).map Drive.view = (c.drives.map Drive.view).set v.val d.view := by simp
  refine Vector.ext fun i hi => ?_
  simp only [View.generations, State.view, Ctx.setDrive, h1, Vector.getElem_map, Vector.getElem_set]
  split
  · next e => subst e; simpa [Drive.view, State.drive] using h
  · rfl

theorem Ctx.modDrive_generations (c : Ctx) (v : DriveNo) (k : Drive → Drive)
    (h : (k (c.drive v)).generation = (c.drive v).generation) :
    (c.modDrive v k).view.generations = c.view.generations := c.setDrive_generations v _ h

@[simp] theorem Ctx.modTimer_generations (c : Ctx) (v : DriveNo) (k : Timer → Timer) :
    (c.modTimer v k).view.generations = c.view.generations := c.modDrive_generations v _ rfl

@[simp] theorem Ctx.setDesk_generations (c : Ctx) (d : DeskNo) (k : Desk) :
    (c.setDesk d k).view.generations = c.view.generations := State.generations_of_drives rfl

@[simp] theorem Ctx.modDesk_generations (c : Ctx) (d : DeskNo) (k : Desk → Desk) :
    (c.modDesk d k).view.generations = c.view.generations := State.generations_of_drives rfl

@[simp] theorem Ctx.setNotice_generations (c : Ctx) (n : Nat) :
    (c.setNotice n).view.generations = c.view.generations := State.generations_of_drives rfl

@[simp] theorem Ctx.writeMem_generations (c : Ctx) (a : Nat) (bs : List Byte) :
    (c.writeMem a bs).view.generations = c.view.generations := State.generations_of_drives rfl

/-! Walks over the drives, the desks and the orders. -/

theorem Ctx.forDrives_generations (c : Ctx) (k : DriveNo → Ctx → Ctx)
    (h : ∀ v c, (k v c).view.generations = c.view.generations) :
    (c.forDrives k).view.generations = c.view.generations :=
  foldl_keeps (fun c : Ctx => c.view.generations) _ (fun b a => h a b) _ c

theorem Ctx.forDesks_generations (c : Ctx) (k : DeskNo → Ctx → Ctx)
    (h : ∀ d c, (k d c).view.generations = c.view.generations) :
    (c.forDesks k).view.generations = c.view.generations :=
  foldl_keeps (fun c : Ctx => c.view.generations) _ (fun b a => h a b) _ c

theorem Ctx.forEntries_generations (c : Ctx) (k : EntryNo → Ctx → Ctx)
    (h : ∀ e c, (k e c).view.generations = c.view.generations) :
    (c.forEntries k).view.generations = c.view.generations :=
  foldl_keeps (fun c : Ctx => c.view.generations) _ (fun b a => h a b) _ c

theorem Ctx.forFrames_generations (c : Ctx) (k : FrameNo → Ctx → Ctx)
    (h : ∀ f c, (k f c).view.generations = c.view.generations) :
    (c.forFrames k).view.generations = c.view.generations :=
  foldl_keeps (fun c : Ctx => c.view.generations) _ (fun b a => h a b) _ c

/-! Drive states and the arm. -/

@[simp] theorem Ctx.setDriveState_generations (c : Ctx) (v : DriveNo) (st : DriveState) (cause : Cause) :
    (c.setDriveState v st cause).view.generations = c.view.generations := by
  have h := c.modDrive_generations v (fun d => { d with state := st, cause := cause }) rfl
  unfold Ctx.setDriveState
  dsimp only
  split
  · rfl
  · split
    · rw [Ctx.recordWrite_view, h]
    · rw [Ctx.flagPick_view, Ctx.recordWrite_view, h]

@[simp] theorem Ctx.enterDiscovery_generations (c : Ctx) (v : DriveNo) :
    (c.enterDiscovery v).view.generations = c.view.generations := by
  simp [Ctx.enterDiscovery, c.modDrive_generations v (fun d => { d with revolution := 1 }) rfl]

@[simp] theorem Ctx.leaveRecal_generations (c : Ctx) (v : DriveNo) :
    (c.leaveRecal v).view.generations = c.view.generations := by
  unfold Ctx.leaveRecal
  dsimp only
  split
  · simp
  · split
    · simp [c.modDrive_generations v (fun d => { d with incomplete := false }) rfl]
    · simp

@[simp] theorem Ctx.recalSucceeded_generations (c : Ctx) (v : DriveNo) (b : Option Nat) :
    (c.recalSucceeded v b).view.generations = c.view.generations := by
  cases b with
  | some n => rw [c.recalSucceeded_view v n]
  | none =>
    have h := (c.count v .recal).modDrive_generations v (fun d => { d with cylinder := 0, arm := .free }) rfl
    unfold Ctx.recalSucceeded
    dsimp only
    split <;> simp [h]

@[simp] theorem Ctx.startRecal_generations (c : Ctx) (v : DriveNo) (b : Option Nat) :
    (c.startRecal v b).view.generations = c.view.generations := by
  unfold Ctx.startRecal
  dsimp only
  split
  · simp
  · exact c.setDrive_generations v _ rfl

@[simp] theorem Ctx.enterRecal_generations (c : Ctx) (v : DriveNo) :
    (c.enterRecal v).view.generations = c.view.generations := by
  have h (c1 : Ctx) : (if (c1.drive v).arm.seeking then c1 else c1.startRecal v none).view.generations =
      c1.view.generations := by
    split <;> simp
  exact (h _).trans (c.setDriveState_generations v .recal _)

/-! The Lock Table. -/

@[simp] theorem Ctx.endWaiters_view (c : Ctx) (test : Waiter → Bool) (code : Code) :
    (c.endWaiters test code).view = c.view := by
  unfold Ctx.endWaiters
  exact foldl_keeps (fun c : Ctx => c.view) _ (fun c (w : Waiter) => c.finishOrder_view w.order code 0) _ c

@[simp] theorem Ctx.abandonWaiters_view (c : Ctx) (d : DeskNo) : (c.abandonWaiters d).view = c.view := by
  unfold Ctx.abandonWaiters
  split <;> simp

@[simp] theorem Ctx.abandonAllWaiters_view (c : Ctx) : c.abandonAllWaiters.view = c.view := c.endWaiters_view _ _

@[simp] theorem Ctx.locksMediaLost_view (c : Ctx) (v : DriveNo) : (c.locksMediaLost v).view = c.view := by
  simp only [Ctx.locksMediaLost, Ctx.reexamine_view, Ctx.endWaiters_view]
  rfl

@[simp] theorem Ctx.releaseAll_view (c : Ctx) (d : DeskNo) : (c.releaseAll d).view = c.view := by
  unfold Ctx.releaseAll
  dsimp only
  split
  · rfl
  · rw [Ctx.reexamine_view]; rfl

@[simp] theorem Ctx.release_view (c : Ctx) (e : EntryNo) (o : Order) : (c.release e o).view = c.view := by
  unfold Ctx.release
  split
  · simp
  · split
    · simp
    · rw [Ctx.endOrder_view, Ctx.reexamine_view]; rfl

@[simp] theorem Ctx.decideCheckout_view (c : Ctx) (e : EntryNo) (o : Order) : (c.decideCheckout e o).view = c.view := by
  unfold Ctx.decideCheckout
  dsimp only
  split
  · simp
  · split
    · split
      · rw [Ctx.endOrder_view]; rfl
      · simp
    · split
      · simp
      · split
        · rw [Ctx.modOrder_view]; rfl
        · simp

/-! Desks. -/

@[simp] theorem Ctx.beginEntryWrite_generations (c : Ctx) (d : DeskNo) (b : Bool) :
    (c.beginEntryWrite d b).view.generations = c.view.generations := by
  unfold Ctx.beginEntryWrite; split <;> simp

@[simp] theorem Ctx.entryWrite_generations (c : Ctx) (d : DeskNo) :
    (c.entryWrite d).view.generations = c.view.generations := by
  unfold Ctx.entryWrite; split <;> simp

@[simp] theorem Ctx.beginLook_generations (c : Ctx) (d : DeskNo) :
    (c.beginLook d).view.generations = c.view.generations := c.modDesk_generations d _

@[simp] theorem Ctx.giveEntry_generations (c : Ctx) (e : EntryNo) :
    (c.giveEntry e).view.generations = c.view.generations := by
  unfold Ctx.giveEntry
  split
  · simp
  · exact State.generations_of_drives rfl

@[simp] theorem Ctx.releaseReservation_generations (c : Ctx) (d : DeskNo) :
    (c.releaseReservation d).view.generations = c.view.generations := by
  unfold Ctx.releaseReservation; split <;> simp

@[simp] theorem Ctx.stopLook_generations (c : Ctx) (d : DeskNo) :
    (c.stopLook d).view.generations = c.view.generations := by
  simp only [Ctx.stopLook, Ctx.releaseReservation_generations]
  exact State.generations_of_drives rfl

@[simp] theorem Ctx.endOfChain_generations (c : Ctx) (d : DeskNo) :
    (c.endOfChain d).view.generations = c.view.generations := by
  unfold Ctx.endOfChain; dsimp only; split <;> simp

@[simp] theorem Ctx.considerBlock_generations (c : Ctx) (d : DeskNo) (a : Word) (f : OrderFields) :
    (c.considerBlock d a f).view.generations = c.view.generations := by
  unfold Ctx.considerBlock
  split
  · dsimp only
    split
    · exact State.generations_of_drives rfl
    · simp
  · split <;> simp

@[simp] theorem Ctx.deskFault_generations (c : Ctx) (d : DeskNo) (x : DeskFault) :
    (c.deskFault d x).view.generations = c.view.generations := by
  simp [Ctx.deskFault]

@[simp] theorem Ctx.haltDesk_generations (c : Ctx) (d : DeskNo) :
    (c.haltDesk d).view.generations = c.view.generations := by
  unfold Ctx.haltDesk; split <;> simp

@[simp] theorem Ctx.attendDesk_generations (c : Ctx) (d : DeskNo) :
    (c.attendDesk d).view.generations = c.view.generations := by
  unfold Ctx.attendDesk; split <;> simp

@[simp] theorem Ctx.restartDesk_generations (c : Ctx) (d : DeskNo) :
    (c.restartDesk d).view.generations = c.view.generations := by
  unfold Ctx.restartDesk; split <;> simp

@[simp] theorem Ctx.parkDesks_generations (c : Ctx) : c.parkDesks.view.generations = c.view.generations := by
  unfold Ctx.parkDesks
  rw [Ctx.forDesks_generations _ _ fun d c => by split <;> simp]
  exact State.generations_of_drives rfl

@[simp] theorem Ctx.releaseHold_generations (c : Ctx) (d : DeskNo) :
    (c.releaseHold d).view.generations = c.view.generations := by
  unfold Ctx.releaseHold; dsimp only; split <;> simp

@[simp] theorem Ctx.retireDone_generations (c : Ctx) (e : EntryNo) (o : Order) :
    (c.retireDone e o).view.generations = c.view.generations := by
  unfold Ctx.retireDone; dsimp only; split <;> simp

@[simp] theorem Ctx.retireFaulted_generations (c : Ctx) (e : EntryNo) (o : Order) :
    (c.retireFaulted e o).view.generations = c.view.generations := by
  simp [Ctx.retireFaulted]

/-! The controller's states, and the end of a command. -/

@[simp] theorem Ctx.setCtl_generations (c : Ctx) (st : CtlState) :
    (c.setCtl st).view.generations = c.view.generations := by
  unfold Ctx.setCtl
  split
  · rfl
  · rw [Ctx.forDrives_generations _ _ fun v c => by simp]
    exact State.generations_of_drives rfl

@[simp] theorem Ctx.writeAllRecords_view (c : Ctx) : c.writeAllRecords.view = c.view :=
  c.forDrives_view _ fun v c => c.recordWrite_view v none

@[simp] theorem Ctx.unloadAll_view (c : Ctx) : c.unloadAll.view = c.view :=
  c.forDrives_view _ fun v c => c.unloadRequest_view v

@[simp] theorem Ctx.setUpDesk_generations (c : Ctx) (d : DeskNo) :
    (c.setUpDesk d).view.generations = c.view.generations := by
  unfold Ctx.setUpDesk; split <;> simp

@[simp] theorem Ctx.enterRunning_generations (c : Ctx) (h : Header) :
    (c.enterRunning h).view.generations = c.view.generations := by
  unfold Ctx.enterRunning
  dsimp only
  refine (State.generations_of_drives rfl).trans
    ((congrArg View.generations (Ctx.writeAllRecords_view _)).trans
      ((Ctx.forDesks_generations _ _ fun d c => by simp).trans ?_))
  rw [Ctx.setCtl_generations]
  exact State.generations_of_drives rfl

@[simp] theorem Ctx.resumeRunning_generations (c : Ctx) :
    c.resumeRunning.view.generations = c.view.generations := by
  unfold Ctx.resumeRunning
  rw [Ctx.forDesks_generations _ _ fun d c => by split <;> simp]
  simp

@[simp] theorem Ctx.enterStopped_generations (c : Ctx) :
    c.enterStopped.view.generations = c.view.generations :=
  (State.generations_of_drives rfl).trans (c.setCtl_generations .stopped)

@[simp] theorem Ctx.startCheck_generations (c : Ctx) : c.startCheck.view.generations = c.view.generations := by
  unfold Ctx.startCheck
  (repeat' split) <;> simp

@[simp] theorem Ctx.leaveSafe_generations (c : Ctx) : c.leaveSafe.view.generations = c.view.generations := by
  unfold Ctx.leaveSafe; split <;> simp

@[simp] theorem Ctx.testDone_generations (c : Ctx) : c.testDone.view.generations = c.view.generations := by
  unfold Ctx.testDone
  dsimp only
  (repeat' split) <;> simp

@[simp] theorem Ctx.finish_generations (c : Ctx) : c.finish.view.generations = c.view.generations := by
  simp [Ctx.finish]

/-! FORMAT orders. -/

@[simp] theorem Ctx.blankIncomplete_generations (c : Ctx) (v : DriveNo) :
    (c.blankIncomplete v).view.generations = c.view.generations := by
  unfold Ctx.blankIncomplete
  split
  · rw [Ctx.setDriveState_generations, c.modDrive_generations v _ rfl]
  · rfl

@[simp] theorem Ctx.formatPost_generations (c : Ctx) (e : EntryNo) :
    (c.formatPost e).view.generations = c.view.generations := by
  unfold Ctx.formatPost
  dsimp only
  (repeat' split) <;> simp

@[simp] theorem Ctx.waitQuiet_view (c : Ctx) (e : EntryNo) (k : Key) : (c.waitQuiet e k).view = c.view := by
  unfold Ctx.waitQuiet; split <;> rfl

@[simp] theorem Ctx.dropQuiet_view (c : Ctx) (e : EntryNo) : (c.dropQuiet e).view = c.view := rfl

@[simp] theorem Ctx.formatDiscard1_generations (c : Ctx) (e : EntryNo) :
    (c.formatDiscard1 e).view.generations = c.view.generations := by
  unfold Ctx.formatDiscard1
  dsimp only
  (repeat' split) <;> simp

@[simp] theorem Ctx.formatDiscard2_view (c : Ctx) (e : EntryNo) (b : Bool) :
    (c.formatDiscard2 e b).view = c.view := by
  unfold Ctx.formatDiscard2
  dsimp only
  (repeat' split) <;> simp

@[simp] theorem Ctx.formatAccept_generations (c : Ctx) (e : EntryNo) (o : Order) (l : Option Layout) :
    (c.formatAccept e o l).view.generations = c.view.generations := by
  unfold Ctx.formatAccept
  dsimp only
  (repeat' split) <;> simp

@[simp] theorem Ctx.formatSuccess_generations (c : Ctx) (e : EntryNo) (v : DriveNo) :
    (c.formatSuccess e v).view.generations = c.view.generations := by
  simp [Ctx.formatSuccess, c.modDrive_generations v (fun d => { d with layoutKnown := true }) rfl]

@[simp] theorem Ctx.disketteJobEnd_generations (c : Ctx) (e : EntryNo) (o : Order) (v : DriveNo) (r : JobEnd) :
    (c.disketteJobEnd e o v r).view.generations = c.view.generations := by
  unfold Ctx.disketteJobEnd
  dsimp only
  (repeat' split) <;> simp

@[simp] theorem Ctx.formatJobEnd_generations (c : Ctx) (e : EntryNo) (r : JobEnd) :
    (c.formatJobEnd e r).view.generations = c.view.generations := by
  unfold Ctx.formatJobEnd
  (repeat' split) <;> simp

@[simp] theorem Ctx.discardAll_view (c : Ctx) (v : DriveNo) : (c.discardAll v).2.view = c.view := by
  unfold Ctx.discardAll
  refine foldl_keeps (fun acc : List FrameNo × Ctx => acc.2.view) _ (fun acc f => ?_) _ ([], c)
  dsimp only
  split <;> simp

@[simp] theorem Ctx.enterFormatting_generations (c : Ctx) (e : EntryNo) (o : Order) (v : DriveNo) :
    (c.enterFormatting e o v).view.generations = c.view.generations := by
  unfold Ctx.enterFormatting
  dsimp only
  split <;> simp

@[simp] theorem Ctx.formatEntry_generations (c : Ctx) (e : EntryNo) :
    (c.formatEntry e).view.generations = c.view.generations := by
  have waits (c : Ctx) (q : List QuietWait) : ({ c with quiet := q } : Ctx).view = c.view := rfl
  unfold Ctx.formatEntry
  dsimp only
  split
  · rfl
  · split
    · simp
    · split
      · simp
      · split
        · simp
        · rw [waits]; simp

@[simp] theorem Ctx.formatRetry_generations (c : Ctx) (e : EntryNo) :
    (c.formatRetry e).view.generations = c.view.generations := by
  unfold Ctx.formatRetry
  (repeat' split) <;> simp

@[simp] theorem Ctx.formatAtFault_view (c : Ctx) (e : EntryNo) (v : DriveNo) : (c.formatAtFault e v).view = c.view := by
  unfold Ctx.formatAtFault
  (repeat' split) <;> simp

@[simp] theorem Ctx.formatsAtFault_view (c : Ctx) (v : DriveNo) : (c.formatsAtFault v).view = c.view :=
  c.forEntries_view _ fun e c => c.formatAtFault_view e v

@[simp] theorem Ctx.withdrawJob_view (c : Ctx) (v : DriveNo) : (c.withdrawJob v).view = c.view := by
  unfold Ctx.withdrawJob
  dsimp only
  (repeat' split) <;> simp

@[simp] theorem Ctx.abandonFormat_generations (c : Ctx) (e : EntryNo) (o : Order) (v : DriveNo) :
    (c.abandonFormat e o v).view.generations = c.view.generations := by
  unfold Ctx.abandonFormat; split <;> simp

@[simp] theorem Ctx.formatAtShed_generations (c : Ctx) (e : EntryNo) :
    (c.formatAtShed e).view.generations = c.view.generations := by
  unfold Ctx.formatAtShed
  (repeat' split) <;> simp

@[simp] theorem Ctx.formatsAtShed_generations (c : Ctx) : c.formatsAtShed.view.generations = c.view.generations :=
  c.forEntries_generations _ fun e c => c.formatAtShed_generations e

/-! The take of an order. -/

@[simp] theorem Ctx.snapshotDrive_generations (c : Ctx) (v : DriveNo) :
    (c.snapshotDrive v).view.generations = c.view.generations := by
  rw [Ctx.snapshotDrive, Ctx.recordWrite_view, c.modDrive_generations v _ rfl]

@[simp] theorem Ctx.discardOrder_view (c : Ctx) (e : EntryNo) (o : Order) : (c.discardOrder e o).view = c.view := by
  unfold Ctx.discardOrder
  dsimp only
  split <;> simp

@[simp] theorem Ctx.flushOrder_view (c : Ctx) (e : EntryNo) (o : Order) : (c.flushOrder e o).view = c.view := by
  simp [Ctx.flushOrder]

@[simp] theorem Ctx.snapshotOrder_generations (c : Ctx) (e : EntryNo) (o : Order) :
    (c.snapshotOrder e o).view.generations = c.view.generations := by
  rw [Ctx.snapshotOrder, Ctx.endOrder_view, Ctx.forDrives_generations _ _ fun v c => by split <;> simp]

@[simp] theorem Ctx.beginWork_generations (c : Ctx) (e : EntryNo) :
    (c.beginWork e).view.generations = c.view.generations := by
  unfold Ctx.beginWork
  (repeat' split) <;> simp

@[simp] theorem Ctx.validate_generations (c : Ctx) (e : EntryNo) :
    (c.validate e).view.generations = c.view.generations := by
  unfold Ctx.validate
  (repeat' split) <;> simp

/-! The Data Channel. -/

@[simp] theorem Ctx.clearHolds_view (c : Ctx) (p : PortNo) : (c.clearHolds p).view = c.view := by simp [Ctx.clearHolds]

@[simp] theorem Ctx.toIdle_view (c : Ctx) (p : PortNo) : (c.toIdle p).view = c.view := by
  unfold Ctx.toIdle
  dsimp only
  split
  · simp
  · rfl

@[simp] theorem Ctx.discoveryReport_generations (c : Ctx) (v : DriveNo) (x : Density) (heard : Option (List Heard)) :
    (c.discoveryReport v x heard).view.generations = c.view.generations := by
  unfold Ctx.discoveryReport
  dsimp only
  (repeat' split) <;> simp [Ctx.modDrive_generations]

@[simp] theorem Ctx.listenEnd_generations (c : Ctx) (p : PortNo) (r : Request) (heard : Option (List Heard)) :
    (c.listenEnd p r heard).view.generations = c.view.generations := by
  simp [Ctx.listenEnd]

@[simp] theorem Ctx.trackJobEnd_generations (c : Ctx) (p : PortNo) (r : Request) (x : JobEnd) :
    (c.trackJobEnd p r x).view.generations = c.view.generations := by
  unfold Ctx.trackJobEnd
  dsimp only
  (repeat' split) <;> simp

@[simp] theorem Ctx.countOutcome_view (c : Ctx) (r : Request) (x : Outcome) : (c.countOutcome r x).view = c.view :=
  foldl_keeps (fun c : Ctx => c.view) _ (fun c k => c.count_view r.drive k) _ c

@[simp] theorem Ctx.oweRecal_view (c : Ctx) (p : PortNo) (r : Request) (x : Outcome) : (c.oweRecal p r x).view = c.view := by
  unfold Ctx.oweRecal; split <;> simp

@[simp] theorem Ctx.reportOutcome_view (c : Ctx) (p : PortNo) (r : Request) (x : Outcome) :
    (c.reportOutcome p r x).view = c.view := by
  unfold Ctx.reportOutcome
  dsimp only
  split <;> simp

@[simp] theorem Ctx.burstQuery_view (c : Ctx) (p : PortNo) (r : Request) : (c.burstQuery p r).view = c.view := by
  unfold Ctx.burstQuery
  dsimp only
  (repeat' split) <;> simp

@[simp] theorem Ctx.endAttempt_generations (c : Ctx) (p : PortNo) (x : Outcome) :
    (c.endAttempt p x).view.generations = c.view.generations := by
  unfold Ctx.endAttempt
  dsimp only
  (repeat' split) <;> simp

@[simp] theorem Ctx.missedJob_generations (c : Ctx) (r : Request) :
    (c.missedJob r).view.generations = c.view.generations := by
  unfold Ctx.missedJob
  dsimp only
  (repeat' split) <;> simp

@[simp] theorem Ctx.missed_generations (c : Ctx) (p : PortNo) (r : Request) :
    (c.missed p r).view.generations = c.view.generations := by
  unfold Ctx.missed
  dsimp only
  (repeat' split) <;> simp

@[simp] theorem Ctx.arm_generations (c : Ctx) (p : PortNo) (r : Request) :
    (c.arm p r).view.generations = c.view.generations := by
  unfold Ctx.arm
  dsimp only
  (repeat' split) <;> simp

@[simp] theorem Ctx.judgeId_generations (c : Ctx) (p : PortNo) (r : Request) (b : List Byte) :
    (c.judgeId p r b).view.generations = c.view.generations := by
  unfold Ctx.judgeId
  dsimp only
  (repeat' split) <;> simp

@[simp] theorem Ctx.openGate_generations (c : Ctx) (p : PortNo) (r : Request) :
    (c.openGate p r).view.generations = c.view.generations := by
  unfold Ctx.openGate
  dsimp only
  (repeat' split) <;> simp

@[simp] theorem Ctx.channelIndex_generations (c : Ctx) (v : DriveNo) (x : Verdict) :
    (c.channelIndex v x).view.generations = c.view.generations := by
  unfold Ctx.channelIndex
  dsimp only
  (repeat' split) <;> simp

@[simp] theorem Ctx.cutWork_generations (c : Ctx) (v : DriveNo) (x : Outcome) (r : JobEnd) :
    (c.cutWork v x r).view.generations = c.view.generations := by
  unfold Ctx.cutWork
  dsimp only
  (repeat' split) <;> simp

@[simp] theorem Ctx.channelMediaLost_generations (c : Ctx) (v : DriveNo) :
    (c.channelMediaLost v).view.generations = c.view.generations := by
  simp [Ctx.channelMediaLost]

@[simp] theorem Ctx.channelFault_generations (c : Ctx) (v : DriveNo) :
    (c.channelFault v).view.generations = c.view.generations := by
  simp [Ctx.channelFault]

@[simp] theorem Ctx.channelShed_generations (c : Ctx) (p : PortNo) :
    (c.channelShed p).view.generations = c.view.generations := by
  unfold Ctx.channelShed
  dsimp only
  (repeat' split) <;> simp

@[simp] theorem Ctx.channelRestart_generations (c : Ctx) (p : PortNo) :
    (c.channelRestart p).view.generations = c.view.generations := by
  unfold Ctx.channelRestart
  dsimp only
  (repeat' split) <;> simp

/-! Drive Control and the Rotation Timer. -/

@[simp] theorem Ctx.schedDrop_generations (c : Ctx) (v : DriveNo) (r : JobEnd) :
    (c.schedDrop v r).view.generations = c.view.generations := by
  unfold Ctx.schedDrop
  dsimp only
  (repeat' split) <;> simp

@[simp] theorem Ctx.faultEntry_generations (c : Ctx) (v : DriveNo) (x : Cause) :
    (c.faultEntry v x).view.generations = c.view.generations := by
  unfold Ctx.faultEntry
  dsimp only
  split
  · simp
  · simp [c.modDrive_generations v (fun d => d.enterFault c.g x) rfl]

@[simp] theorem Ctx.freedWrites_view (c : Ctx) (v : DriveNo) (n : Nat) : (c.freedWrites v n).view = c.view :=
  foldl_keeps (fun c : Ctx => c.view) _ (fun c _ => c.recordWrite_view v none) _ c

@[simp] theorem Ctx.storeMediaLost_view (c : Ctx) (v : DriveNo) : (c.storeMediaLost v).view = c.view := rfl

@[simp] theorem Ctx.engineMediaLost_view (c : Ctx) (v : DriveNo) : (c.engineMediaLost v).view = c.view := by
  refine c.forEntries_view _ fun e c => ?_
  (repeat' split) <;> simp

@[simp] theorem Ctx.mediaChange_generations (c : Ctx) (v : DriveNo) :
    (c.mediaChange v).view.generations = c.view.generations := by
  simp [Ctx.mediaChange, c.modDrive_generations v Drive.unload rfl]

@[simp] theorem Ctx.leaveFault_generations (c : Ctx) (v : DriveNo) :
    (c.leaveFault v).view.generations = c.view.generations := by
  unfold Ctx.leaveFault
  dsimp only
  split <;> simp [c.modDrive_generations v (fun d => { d with expiry := .none, faultStamp := none, recalStopped := false }) rfl]

@[simp] theorem Ctx.speedLost_generations (c : Ctx) (v : DriveNo) :
    (c.speedLost v).view.generations = c.view.generations := by
  unfold Ctx.speedLost; split <;> simp

@[simp] theorem Ctx.speedReports_generations (c : Ctx) (v : DriveNo) (a b : Timer) :
    (c.speedReports v a b).view.generations = c.view.generations := by
  unfold Ctx.speedReports Ctx.speedReached Ctx.speedRegained
  (repeat' split) <;> simp

@[simp] theorem Ctx.idlePulse_view (c : Ctx) (v : DriveNo) : (c.idlePulse v).view = c.view := by
  unfold Ctx.idlePulse
  dsimp only
  (repeat' split) <;> simp

@[simp] theorem Ctx.takePulse_generations (c : Ctx) (v : DriveNo) :
    (c.takePulse v).view.generations = c.view.generations := by
  unfold Ctx.takePulse
  dsimp only
  (repeat' split) <;> simp

@[simp] theorem Ctx.startProbe_view (c : Ctx) (v : DriveNo) (b : Bool) : (c.startProbe v b).view = c.view :=
  c.modDrive_view v _ rfl

@[simp] theorem Ctx.probeStep_generations (c : Ctx) (v : DriveNo) (x : ProbePhase) (n : Nat) (b : Bool) :
    (c.probeStep v x n b).view.generations = c.view.generations := by
  unfold Ctx.probeStep
  dsimp only
  (repeat' split) <;> simp [Ctx.modDrive_generations]

@[simp] theorem Ctx.startProfile_generations (c : Ctx) (v : DriveNo) (b : Bool) :
    (c.startProfile v b).view.generations = c.view.generations := by
  unfold Ctx.startProfile
  dsimp only
  (repeat' split) <;> simp [Ctx.modDrive_generations]

@[simp] theorem Ctx.profileRead_generations (c : Ctx) (v : DriveNo) (r : DmaRead) (b : Bool) :
    (c.profileRead v r b).view.generations = c.view.generations := by
  unfold Ctx.profileRead
  dsimp only
  (repeat' split) <;> simp [Ctx.modDrive_generations]

@[simp] theorem Ctx.seekStep_generations (c : Ctx) (v : DriveNo) (n : Nat) (a b : Bool) :
    (c.seekStep v n a b).view.generations = c.view.generations :=
  c.modDrive_generations v _ (by dsimp only; split <;> rfl)

@[simp] theorem Ctx.armSettled_generations (c : Ctx) (v : DriveNo) (b : Bool) :
    (c.armSettled v b).view.generations = c.view.generations := by
  have h := c.modDrive_generations v (fun d => { d with arm := .free }) rfl
  unfold Ctx.armSettled
  dsimp only
  (repeat' split) <;> simp [h]

@[simp] theorem Ctx.recalStep_generations (c : Ctx) (v : DriveNo) (n : Nat) (b : Option Nat) (z : Bool) :
    (c.recalStep v n b z).view.generations = c.view.generations := by
  unfold Ctx.recalStep
  dsimp only
  (repeat' split) <;> simp [Ctx.modDrive_generations]

@[simp] theorem Ctx.slotFaultHeld_view (c : Ctx) (f : FrameNo) (n : Nat) : (c.slotFaultHeld f n).view = c.view := by
  unfold Ctx.slotFaultHeld
  (repeat' split) <;> simp

@[simp] theorem Ctx.storeFaultHeld_view (c : Ctx) (v : DriveNo) : (c.storeFaultHeld v).view = c.view := by
  refine c.forFrames_view _ fun f c => ?_
  dsimp only
  split
  · exact foldl_keeps (fun c : Ctx => c.view) _ (fun c i => c.slotFaultHeld_view f i) _ c
  · rfl

@[simp] theorem Ctx.engineFaultHeld_view (c : Ctx) (v : DriveNo) : (c.engineFaultHeld v).view = c.view := by
  refine c.forEntries_view _ fun e c => ?_
  (repeat' split) <;> simp

@[simp] theorem Ctx.faultHeld_generations (c : Ctx) (v : DriveNo) :
    (c.faultHeld v).view.generations = c.view.generations := by
  simp [Ctx.faultHeld, c.modDrive_generations v (fun d => { d with expiry := .arrived }) rfl]

/-! Controller Control. -/

@[simp] theorem Ctx.headerRead_generations (c : Ctx) (r : DmaRead) :
    (c.headerRead r).view.generations = c.view.generations := by
  have fails (code : StartCode) : (c.failStart code).view.generations = c.view.generations := by
    rw [Ctx.failStart, Ctx.setNotice_generations, Ctx.setCtl_generations]
    exact State.generations_of_drives rfl
  unfold Ctx.headerRead
  split
  · exact fails _
  · split
    · exact fails _
    · rw [Ctx.forDrives_generations _ _ fun v c => c.modDrive_generations v _ rfl]
      exact State.generations_of_drives rfl

@[simp] theorem Ctx.enterDraining_generations (c : Ctx) : c.enterDraining.view.generations = c.view.generations := by
  simp [Ctx.enterDraining]

@[simp] theorem Ctx.engineShed_view (c : Ctx) : c.engineShed.view = c.view := by
  refine c.forEntries_view _ fun e c => ?_
  (repeat' split) <;> simp

@[simp] theorem Ctx.storeShed_view (c : Ctx) : c.storeShed.view = c.view := by
  refine c.forFrames_view _ fun f c => ?_
  dsimp only
  split <;> simp

@[simp] theorem Ctx.refile_view (c : Ctx) (v : DriveNo) : (c.refile v).view = c.view := by
  unfold Ctx.refile; split <;> simp

@[simp] theorem Ctx.enterShedding_generations (c : Ctx) : c.enterShedding.view.generations = c.view.generations := by
  unfold Ctx.enterShedding
  dsimp only
  rw [Ctx.forDrives_generations _ _ fun v c => by simp]
  simp

@[simp] theorem Ctx.controlWrite_generations (c : Ctx) (a b : Bool) :
    (c.controlWrite a b).view.generations = c.view.generations := by
  have starts (c : Ctx) : c.beginStart.view.generations = c.view.generations := by
    rw [Ctx.beginStart, Ctx.setCtl_generations]
    exact State.generations_of_drives rfl
  have same : ({ c with run := a, driveNotice := b } : Ctx).view.generations = c.view.generations :=
    State.generations_of_drives rfl
  unfold Ctx.controlWrite
  dsimp only
  (repeat' split) <;> simp only [starts, same, Ctx.startCheck_generations, Ctx.enterDraining_generations,
    Ctx.resumeRunning_generations, Ctx.enterStopped_generations]

@[simp] theorem Ctx.abandonOrders_generations (c : Ctx) : c.abandonOrders.view.generations = c.view.generations := by
  unfold Ctx.abandonOrders
  dsimp only
  rw [Ctx.forDesks_generations _ _ fun d c => by simp]
  exact State.generations_of_drives rfl

@[simp] theorem Ctx.restartFormatting_generations (c : Ctx) (v : DriveNo) :
    (c.restartFormatting v).view.generations = c.view.generations := by
  unfold Ctx.restartFormatting
  (repeat' split) <;> simp

@[simp] theorem Ctx.restart_generations (c : Ctx) : c.restart.view.generations = c.view.generations := by
  have stops (c : Ctx) : ({ c with run := false, startCode := .none, notice := 0 } : Ctx).view.generations =
      c.view.generations := State.generations_of_drives rfl
  have clears (c : Ctx) : c.storeRestart.view.generations = c.view.generations := State.generations_of_drives rfl
  unfold Ctx.restart
  dsimp only
  rw [Ctx.enterStopped_generations, stops]
  refine (Ctx.forDrives_generations _ _ fun v c' => ?_).trans ?_
  · rw [Ctx.modDrive_generations _ v _ rfl, Ctx.restartFormatting_generations]
  · rw [Ctx.channelRestart_generations, Ctx.channelRestart_generations,
      Ctx.forDrives_generations _ _ fun v c => c.modDrive_generations v Drive.restart rfl, clears,
      Ctx.abandonOrders_generations]

@[simp] theorem Ctx.deskCommand_generations (c : Ctx) (d : DeskNo) (a : DeskAction) :
    (c.deskCommand d a).view.generations = c.view.generations := by
  unfold Ctx.deskCommand
  split
  · cases a <;> simp [Ctx.deskAction]
  · rfl

@[simp] theorem Ctx.writeTableBase_generations (c : Ctx) (x : Word) :
    (c.writeTableBase x).view.generations = c.view.generations := by
  unfold Ctx.writeTableBase
  split
  · exact State.generations_of_drives rfl
  · rfl

@[simp] theorem Ctx.clearNotice_generations (c : Ctx) (x : Word) :
    (c.clearNotice x).view.generations = c.view.generations := State.generations_of_drives rfl

@[simp] theorem Ctx.writeControl_generations (c : Ctx) (x : Word) :
    (c.writeControl x).view.generations = c.view.generations := by
  unfold Ctx.writeControl; split <;> simp

@[simp] theorem Ctx.warningRises_generations (c : Ctx) : c.warningRises.view.generations = c.view.generations := by
  unfold Ctx.warningRises
  dsimp only
  split
  · rw [Ctx.enterShedding_generations]; exact State.generations_of_drives rfl
  · exact State.generations_of_drives rfl

@[simp] theorem Ctx.warningFalls_generations (c : Ctx) : c.warningFalls.view.generations = c.view.generations := by
  unfold Ctx.warningFalls
  dsimp only
  split
  · rw [Ctx.leaveSafe_generations]; exact State.generations_of_drives rfl
  · rw [Ctx.startCheck_generations]; exact State.generations_of_drives rfl
  · exact State.generations_of_drives rfl

/-! The DMA completions and the Station Interface. -/

@[simp] theorem Ctx.linkRead_generations (c : Ctx) (d : DeskNo) (r : DmaRead) :
    (c.linkRead d r).view.generations = c.view.generations := by
  unfold Ctx.linkRead
  dsimp only
  (repeat' split) <;> simp

@[simp] theorem Ctx.blockRead_generations (c : Ctx) (d : DeskNo) (a : Word) (r : DmaRead) :
    (c.blockRead d a r).view.generations = c.view.generations := by
  unfold Ctx.blockRead
  (repeat' split) <;> simp

@[simp] theorem Ctx.takeBlock_generations (c : Ctx) (d : DeskNo) (a : Word) (f : OrderFields) (r : DmaWrite) :
    (c.takeBlock d a f r).view.generations = c.view.generations := by
  unfold Ctx.takeBlock
  dsimp only
  (repeat' split) <;> simp

@[simp] theorem Ctx.fetched_view (c : Ctx) (e : EntryNo) (o : Order) (r : DmaRead) : (c.fetched e o r).view = c.view := by
  unfold Ctx.fetched; split <;> simp

@[simp] theorem Ctx.delivered_generations (c : Ctx) (e : EntryNo) (o : Order) (r : DmaWrite) :
    (c.delivered e o r).view.generations = c.view.generations := by
  unfold Ctx.delivered
  dsimp only
  (repeat' split) <;> simp

@[simp] theorem Ctx.layoutRead_generations (c : Ctx) (e : EntryNo) (o : Order) (r : DmaRead) :
    (c.layoutRead e o r).view.generations = c.view.generations := by
  unfold Ctx.layoutRead
  (repeat' split) <;> simp

@[simp] theorem Ctx.resultWritten_generations (c : Ctx) (e : EntryNo) (o : Order) (x : Result) (r : DmaWrite) :
    (c.resultWritten e o x r).view.generations = c.view.generations := by
  unfold Ctx.resultWritten
  dsimp only
  split <;> simp

@[simp] theorem Ctx.dropOrphan_generations (c : Ctx) (k : Nat) :
    (c.dropOrphan k).view.generations = c.view.generations := State.generations_of_drives rfl

@[simp] theorem Ctx.orphanResult_generations (c : Ctx) (k : Nat) (x : Orphan) (r : DmaWrite) :
    (c.orphanResult k x r).view.generations = c.view.generations := by
  unfold Ctx.orphanResult
  dsimp only
  split
  · exact State.generations_of_drives rfl
  · simp

@[simp] theorem Ctx.doneWritten_generations (c : Ctx) (e : EntryNo) (o : Order) (r : DmaWrite) :
    (c.doneWritten e o r).view.generations = c.view.generations := by
  unfold Ctx.doneWritten
  dsimp only
  split <;> simp

@[simp] theorem Ctx.orphanDone_generations (c : Ctx) (k : Nat) (x : Orphan) (r : DmaWrite) :
    (c.orphanDone k x r).view.generations = c.view.generations := by
  unfold Ctx.orphanDone
  dsimp only
  (repeat' split) <;> simp

@[simp] theorem Ctx.entryWritten_generations (c : Ctx) (d : DeskNo) (w : EntryWrite) (rest : List EntryWrite) (r : DmaWrite) :
    (c.entryWritten d w rest r).view.generations = c.view.generations := by
  unfold Ctx.entryWritten
  dsimp only
  (repeat' split) <;> simp

@[simp] theorem Ctx.driveChange_generations (c : Ctx) (v : DriveNo) (x : Option Bool) :
    (c.driveChange v x).view.generations = c.view.generations := by
  unfold Ctx.driveChange
  (repeat' split) <;> simp

@[simp] theorem Ctx.awaitedMark_generations (c : Ctx) (p : PortNo) (t : Word) (m : Byte) (n : Nat) :
    (c.awaitedMark p t m n).view.generations = c.view.generations := by
  unfold Ctx.awaitedMark
  dsimp only
  split <;> simp

@[simp] theorem Ctx.setReady_view (c : Ctx) (v : DriveNo) (b : Bool) : (c.setReady v b).view = c.view :=
  c.modDrive_view v _ rfl

@[simp] theorem Ctx.setFaultLine_view (c : Ctx) (v : DriveNo) (b : Bool) : (c.setFaultLine v b).view = c.view :=
  c.modDrive_view v _ rfl

@[simp] theorem Ctx.autoSnapshot_generations (c : Ctx) (x : Word) :
    (c.autoSnapshot x).view.generations = c.view.generations := by
  refine (State.generations_of_drives rfl).trans
    ((Ctx.setNotice_generations _ snapshotBit).trans (Ctx.forDrives_generations _ _ fun v c => ?_))
  simp

/-! ### The commands -/

/-- A media load moves the generation of its own drive by one and no other (R4). -/
theorem Ctx.mediaLoad_generation (c : Ctx) (v w : DriveNo) (wp ts : Bool) :
    ((c.mediaLoad v wp ts).drive w).generation =
      if w = v then (c.drive v).generation + 1 else (c.drive w).generation := by
  have loaded : ((c.modDrive v fun d => d.load c.g wp ts).drive w).generation =
      if w = v then (c.drive v).generation + 1 else (c.drive w).generation := by
    simp only [Ctx.modDrive, Ctx.setDrive_drive]
    split <;> rfl
  have kept : (c.mediaLoad v wp ts).view.generations = (c.modDrive v fun d => d.load c.g wp ts).view.generations := by
    unfold Ctx.mediaLoad
    dsimp only
    split <;> simp
  rw [State.drive_generation kept w, loaded]

/-- The end of a command keeps each generation. -/
theorem Ctx.finish_generation (c : Ctx) (v : DriveNo) : (c.finish.drive v).generation = (c.drive v).generation :=
  State.drive_generation c.finish_generations v

/-- The outcome is no next state, or one with the generations of `s`. -/
def KeepsGenerations (s : State) (x : Host.Outcome State Fault Refusal) : Prop :=
  ∀ t, x = .next t → t.view.generations = s.view.generations

@[simp] theorem keepsGenerations_next (s t : State) :
    KeepsGenerations s (.next t) ↔ t.view.generations = s.view.generations := by
  simp [KeepsGenerations]

@[simp] theorem keepsGenerations_fault (s : State) (x : Fault) : KeepsGenerations s (.fault x) := by
  rintro _ ⟨⟩

@[simp] theorem Ctx.next_keepsGenerations (s : State) (c : Ctx) :
    KeepsGenerations s c.next ↔ c.view.generations = s.view.generations := by
  simp [Ctx.next]

@[simp] theorem Ctx.markSeen_keepsGenerations (s : State) (p : PortNo) (m : Byte) (n : Nat) :
    KeepsGenerations s ((Ctx.of s).markSeen p m n) := by
  unfold Ctx.markSeen
  dsimp only
  (repeat' split) <;> simp

/-- Every command but POWER_ON and the two that can bring a media load keeps each generation: case by case, through what its
meaning does with the state. -/
theorem exec_keepsGenerations (i : Instr) (s : State) (hi : i ≠ .powerOn)
    (hl : ∀ v wp ts, i ≠ .mediaLoad v wp ts) (hp : ∀ v wp ts, i ≠ .probeSettled v wp ts) :
    KeepsGenerations s (exec i s) := by
  cases i
  case powerOn => exact absurd rfl hi
  case mediaLoad v wp ts => exact absurd rfl (hl v wp ts)
  case probeSettled v wp ts => exact absurd rfl (hp v wp ts)
  case stampBound =>
    have h : s.boundStamps.drives = s.drives.map fun d => d.boundStamps s.g := rfl
    exact (keepsGenerations_next _ _).mpr (by
      refine Vector.ext fun i hi => ?_
      simp [View.generations, State.view, h, Drive.view, Drive.boundStamps])
  case driveRecordWriteDone v r =>
    dsimp only [exec, execDriveRecordWriteDone]
    split
    · simp
    · rw [keepsGenerations_next, Ctx.driveChange_generations, Ctx.modDrive_generations _ v _ rfl]
      simp
  case headLoadDone v =>
    dsimp only [exec, execHeadLoadDone]
    split
    · rw [keepsGenerations_next, Ctx.modDrive_generations _ v _ rfl]
      simp
    · simp
  case fwqStall e =>
    dsimp only [exec, execFwqStall, Ctx.stall]
    split
    · rw [keepsGenerations_next, Ctx.setNotice_generations]
      exact State.generations_of_drives rfl
    · simp
  case registerWrite offset size value =>
    have h : ({ s with noticeEnable := value &&& noticeMask } : State).view.generations = s.view.generations :=
      State.generations_of_drives rfl
    dsimp only [exec, execRegisterWrite]
    (repeat' split) <;> simp [h, Ctx.writeDeskCommand]
  all_goals
    dsimp only [exec, execRunSet, execRunClear, execRestart, execTableBaseWrite, execNoticeClear, execAttend, execHalt,
      execDeskRestart, execReleaseLocks, execMediaChange, execDriveFaultRise, execDriveFaultFall, execPowerWarningRise,
      execPowerWarningFall, execIndexPulse, execNoIndexTimeout, execSpinupLimit, execFaultExpiry, execProbeStepDone,
      execSeekStepDone, execArmSettled, execRecalStepDone, execRecalSettled, execSnapshotExpiry, execHeaderReadDone,
      execProfileReadDone, execLinkReadDone, execBlockReadDone, execTake, execFetchDone, execDeliveryDone,
      execLayoutReadDone, execResultWriteDone, execDoneWriteDone, execDeskEntryWriteDone, execArmingTime,
      execSideSelectSet, execIdMarkSeen, execIdFieldEnd, execDataMarkSeen, execDataFieldEnd, execDataMarkTimeout,
      execHuntLimit, execFluxLoss, execGateOpenTime, execGateClose, execDiscardRetry, execFormatEntryStep,
      execFormatJobRepost]
    (repeat' split) <;> simp

/-- A settled probe begins a media load or enters EMPTY (R3). -/
theorem Ctx.probeSettle_cases (c : Ctx) (v : DriveNo) (wp ts : Bool) :
    ∃ c1 : Ctx, c1.view.generations = c.view.generations
      ∧ (c.probeSettle v wp ts = c1.mediaLoad v wp ts ∨ c.probeSettle v wp ts = c1.setDriveState v .empty .none) := by
  refine ⟨c.modDrive v fun d => { d with arm := .free, cylinder := 0 }, c.modDrive_generations v _ rfl, ?_⟩
  unfold Ctx.probeSettle
  dsimp only
  split
  · exact .inl rfl
  · exact .inr rfl

/-- What MEDIA_LOAD and PROBE_SETTLED do to a generation: kept, or one more on the command's own drive (R3, R4). -/
theorem generation_of_load {i : Instr} {s t : State} {v w : DriveNo} {wp ts : Bool}
    (hi : i = .mediaLoad v wp ts ∨ i = .probeSettled v wp ts) (h : exec i s = .next t) :
    (t.drive w).generation = (s.drive w).generation
      ∨ (w = v ∧ (t.drive w).generation = (s.drive w).generation + 1) := by
  have loads {c : Ctx} (hc : c.view.generations = s.view.generations) :
      ((c.mediaLoad v wp ts).drive w).generation = (s.drive w).generation
        ∨ (w = v ∧ ((c.mediaLoad v wp ts).drive w).generation = (s.drive w).generation + 1) := by
    rw [Ctx.mediaLoad_generation, State.drive_generation hc w, State.drive_generation hc v]
    split
    · next e => exact .inr ⟨e, by rw [e]⟩
    · exact .inl rfl
  obtain rfl | rfl := hi
  · simp only [exec, execMediaLoad] at h
    split at h
    · cases h; exact .inl rfl
    · split at h
      · cases h
        rw [Ctx.finish_generation]
        exact loads (by simp)
      · cases h
        exact .inl (State.drive_generation (by simp) w)
  · simp only [exec, execProbeSettled] at h
    split at h
    · split at h
      · cases h
        rw [Ctx.finish_generation, State.drive_generation (Ctx.startCheck_generations _) w]
        obtain ⟨c, hc, hl | he⟩ := (Ctx.of s).probeSettle_cases v wp ts
        · rw [hl]; exact loads hc
        · rw [he]; exact .inl (State.drive_generation (by rw [Ctx.setDriveState_generations, hc]; rfl) w)
      · cases h; exact .inl rfl
    · cases h; exact .inl rfl

/-- Settles O59: every command but POWER_ON and a media load keeps the generations; POWER_ON makes them 0, and a media load
moves that of its drive by one. -/
theorem generationMovesAtMediaLoads : Obligations.GenerationMovesAtMediaLoads := by
  intro i s t v h hne
  by_cases hi : i = .powerOn
  · subst hi
    cases h
    exact .inl ⟨rfl, by simp [State.powerOn, State.drive]⟩
  · by_cases hl : (∃ u wp ts, i = .mediaLoad u wp ts) ∨ ∃ u wp ts, i = .probeSettled u wp ts
    · obtain ⟨u, wp, ts, hu⟩ | ⟨u, wp, ts, hu⟩ := hl
      · obtain ⟨rfl, moved⟩ := (generation_of_load (.inl hu) h).resolve_left hne
        exact .inr ⟨.inl ⟨wp, ts, hu⟩, moved⟩
      · obtain ⟨rfl, moved⟩ := (generation_of_load (.inr hu) h).resolve_left hne
        exact .inr ⟨.inr ⟨wp, ts, hu⟩, moved⟩
    · simp only [not_or, not_exists] at hl
      exact absurd (State.drive_generation (exec_keepsGenerations i s hi hl.1 hl.2 t h) v) hne

end Sys2Proof.Machine

-- ==== Sys2Proof/Proofs/PowerOn.lean ====
namespace Sys2Proof.Machine

open Sys2Proof

/-! ### Power-on (R181) -/

/-- Every drive after power-on is at its reset values, but for the levels of its input lines. -/
theorem State.powerOn_drive (s : State) (v : DriveNo) :
    s.powerOn.drive v = { lines := (s.drive v).lines.levels } := by
  simp [State.powerOn, State.drive]

@[simp] theorem State.powerOn_chan (s : State) (p : PortNo) : s.powerOn.chan p = {} := by
  simp [State.powerOn, State.chan, State.reset]

@[simp] theorem State.powerOn_frame (s : State) (f : FrameNo) : s.powerOn.frame f = {} := by
  simp [State.powerOn, State.frame, State.reset]

@[simp] theorem State.powerOn_slot (s : State) (e : EntryNo) : s.powerOn.slot e = .free := by
  simp [State.powerOn, State.slot, State.reset]

@[simp] theorem State.powerOn_desk (s : State) (d : DeskNo) : s.powerOn.desk d = {} := by
  simp [State.powerOn, State.desk, State.reset]

/-- After power-on every register but IDENT reads 0. -/
theorem State.powerOn_readRegister (s : State) (n : Nat) (h : n ≠ 0) : s.powerOn.readRegister n = 0 := by
  simp [State.readRegister, h, State.controlWord, State.statusWord, State.powerOn, State.reset, CtlState.code,
    StartCode.code]

/-- Settles O4, block by block. -/
theorem powerOnValues : Obligations.PowerOnValues := by
  intro s
  refine ⟨s.powerOn, rfl, rfl, rfl, rfl, rfl, rfl, rfl, rfl, rfl, rfl, rfl, rfl, rfl, s.powerOn_readRegister,
    fun v => ?drive, fun p => ?chan, fun v => ?gate, rfl, rfl, fun f => ?frame, rfl, s.powerOn_slot, rfl,
    fun d => ?desk, rfl, rfl, rfl, rfl, rfl⟩
  case drive => simp [State.powerOn_drive, Lines.levels]
  case chan => simp
  case gate => simp [State.writeGate, Channel.gateOpen]
  case frame => simp
  case desk => simp

end Sys2Proof.Machine

-- ==== Sys2Proof/Proofs/RecordedFields.lean ====
namespace Sys2Proof.Machine

open Sys2Proof

/-! ### The field check (R17) -/

/-- A shift of a register whose top bit is clear doubles it. -/
theorem crcShift_toNat {r : Half} (h : r.toNat < 2 ^ 15) : (crcShift r).toNat = 2 * r.toNat := by
  have hm : r.msb = false := BitVec.msb_eq_false_iff_two_mul_lt.mpr (by omega)
  rw [crcShift, hm, if_neg (by decide), BitVec.toNat_shiftLeft, Nat.shiftLeft_eq]
  omega

/-- The byte that the register expects clears its high byte. -/
theorem xor_crcHigh (r : Half) : r ^^^ ((crcHigh r).setWidth 16 <<< 8) = (crcLow r).setWidth 16 := by
  ext i hi
  simp only [crcHigh, crcLow, BitVec.getElem_xor, BitVec.getElem_shiftLeft, BitVec.getElem_setWidth,
    BitVec.getLsbD_setWidth, BitVec.getLsbD_ushiftRight]
  by_cases h8 : i < 8
  · simp [h8, BitVec.getLsbD_eq_getElem hi]
  · have h1 : i - 8 < 8 := by omega
    have h2 : 8 + (i - 8) = i := by omega
    simp [h8, h1, h2, BitVec.getLsbD_eq_getElem hi]

/-- Eight shifts of a register whose high byte is clear move its low byte up. -/
theorem crcByte_high (r : Half) : (crcByte r (crcHigh r)).toNat = 256 * (crcLow r).toNat := by
  have hlow : (crcLow r).toNat < 256 := (crcLow r).isLt
  have shifted {k : Half} {n : Nat} (hk : k.toNat = n * (crcLow r).toNat) (hn : n ≤ 128) :
      (crcShift k).toNat = 2 * n * (crcLow r).toNat := by
    have : n * (crcLow r).toNat ≤ 128 * (crcLow r).toNat := Nat.mul_le_mul_right _ hn
    rw [crcShift_toNat (by omega), hk, Nat.mul_assoc]
  have h0 : (r ^^^ ((crcHigh r).setWidth 16 <<< 8)).toNat = 1 * (crcLow r).toNat := by
    rw [xor_crcHigh, BitVec.toNat_setWidth]
    omega
  have h4 := shifted (shifted (shifted (shifted h0 (by decide)) (by decide)) (by decide)) (by decide)
  exact shifted (shifted (shifted (shifted h4 (by decide)) (by decide)) (by decide)) (by decide)

/-- The two recorded check bytes bring the register to 0 (R17). -/
theorem crcByte_own_check (r : Half) : crcByte (crcByte r (crcHigh r)) (crcLow r) = 0 := by
  have h0 : crcByte r (crcHigh r) ^^^ ((crcLow r).setWidth 16 <<< 8) = 0#16 := by
    rw [BitVec.xor_eq_zero_iff]
    refine BitVec.eq_of_toNat_eq ?_
    have := (crcLow r).isLt
    rw [crcByte_high, BitVec.toNat_shiftLeft, BitVec.toNat_setWidth, Nat.shiftLeft_eq]
    omega
  unfold crcByte
  unfold crcByte at h0
  rw [h0]
  decide

/-- A field recorded with its own check reads good (R17). -/
theorem fieldGood_own_check (mark : Byte) (b : List Byte) :
    fieldGood mark (b ++ [crcHigh (crc (mark :: b)), crcLow (crc (mark :: b))]) = true := by
  have h : crc (mark :: (b ++ [crcHigh (crc (mark :: b)), crcLow (crc (mark :: b))])) = 0 := by
    rw [← List.cons_append, crc, List.foldl_append]
    exact crcByte_own_check _
  simp [fieldGood, h]

/-! ### Fields of a record that is a list of parts -/

@[simp] theorem leBytes_length : ∀ n v : Nat, (leBytes n v).length = n
  | 0, _ => rfl
  | n + 1, v => by simp [leBytes, leBytes_length n]

/-- Little-endian bytes hold the number they were made of, up to their width. -/
theorem leNat_leBytes : ∀ n v : Nat, leNat (leBytes n v) = v % 256 ^ n
  | 0, v => by simp [leBytes, leNat, Nat.mod_one]
  | n + 1, v => by
    have split : v % (256 * 256 ^ n) = v % 256 + 256 * (v / 256 % 256 ^ n) := Nat.mod_mul
    rw [leBytes, leNat, leNat_leBytes n, BitVec.toNat_ofNat, show 256 ^ (n + 1) = 256 * 256 ^ n from Nat.pow_succ', split]

/-- A field in the first part of a record. -/
theorem fieldAt_append_left {a b : List Byte} {i n : Nat} (h : i + n ≤ a.length) :
    fieldAt (a ++ b) i n = fieldAt a i n := by
  rw [fieldAt, List.drop_append_of_le_length (by omega), List.take_append_of_le_length (by simp; omega), fieldAt]

/-- A field behind the first part of a record. -/
theorem fieldAt_append_right {a b : List Byte} {i n : Nat} (h : a.length ≤ i) :
    fieldAt (a ++ b) i n = fieldAt b (i - a.length) n := by
  rw [fieldAt, List.drop_append, List.drop_eq_nil_of_le h, List.nil_append, fieldAt]

/-- The field that a record begins with. -/
theorem fieldAt_leBytes_append (n v : Nat) (b : List Byte) : fieldAt (leBytes n v ++ b) 0 n = v % 256 ^ n := by
  rw [fieldAt_append_left (by simp), fieldAt, List.drop_zero, List.take_of_length_le (by simp), leNat_leBytes]

/-- The field that a record is. -/
theorem fieldAt_leBytes (n v : Nat) : fieldAt (leBytes n v) 0 n = v % 256 ^ n := by
  simpa using fieldAt_leBytes_append n v []

/-- A field of one byte. -/
theorem fieldAt_one (b : List Byte) (i : Nat) : fieldAt b i 1 = (b.getD i 0).toNat := by
  rw [fieldAt, List.getD_eq_getElem?_getD, ← List.head?_drop]
  cases b.drop i <;> simp [leNat]

/-! ### The parts of a drive record and of a desk entry (06, 6.2) -/

@[simp] theorem layoutBytes_length (l : Option Layout) : (layoutBytes l).length = 6 := by
  cases l <;> simp [layoutBytes]

@[simp] theorem mapBytes_length (l : Option Layout) : (mapBytes l).length = 60 := by
  cases l <;> simp [mapBytes]

@[simp] theorem counterBytes_length (x : Vector Half 8) :
    (x.toList.map fun c => leBytes 2 c.toNat).flatten.length = 16 := by
  simp [List.length_flatten, Function.comp_def]

@[simp] theorem snapshotBytes_length (h : Health) : (snapshotBytes h).length = 20 := by
  unfold snapshotBytes
  split
  · rfl
  · simp only [List.length_append, counterBytes_length, leBytes_length, List.length_singleton]

/-- An entry of the recorded map. -/
theorem fieldAt_mapBytes {l : Layout} (hx : ∀ x ∈ l.map, x < 256) {i : Nat} (hi : i < 60) :
    fieldAt (mapBytes (some l)) i 1 = l.map.getD i 0 := by
  rw [fieldAt_one, mapBytes, List.getD_eq_getElem?_getD, List.getElem?_take_of_lt hi, List.getElem?_append]
  by_cases h : i < l.map.length
  · have := hx _ (List.getElem_mem h)
    simp [h]
    omega
  · have tail : i - l.map.length < 60 := by omega
    simp only [List.length_map, h, if_false, List.getElem?_replicate, tail, if_true, List.getD_eq_getElem?_getD,
      List.getElem?_eq_none (Nat.not_lt.mp h), Option.getD_none, Option.getD_some]
    rfl

/-- A field of a part of zeros is 0. -/
theorem fieldAt_zeros (k i : Nat) : fieldAt (List.replicate k (0 : Byte)) i 1 = 0 := by
  rw [fieldAt_one, List.getD_eq_getElem?_getD, List.getElem?_replicate]
  split <;> rfl

/-- The field `i` of `n` bytes in a record made of such fields. -/
theorem fieldAt_flatten (n : Nat) (b : List Byte) : ∀ (fs : List Nat) (i : Nat) (h : i < fs.length),
    fieldAt ((fs.map (leBytes n)).flatten ++ b) (n * i) n = fs[i] % 256 ^ n
  | v :: fs, 0, _ => by
    rw [List.map_cons, List.flatten_cons, List.append_assoc, Nat.mul_zero, fieldAt_leBytes_append, List.getElem_cons_zero]
  | v :: fs, i + 1, h => by
    have behind : n * (i + 1) - n = n * i := by rw [Nat.mul_succ, Nat.add_sub_cancel]
    rw [List.map_cons, List.flatten_cons, List.append_assoc, fieldAt_append_right (by simp [Nat.mul_succ]),
      leBytes_length, behind, fieldAt_flatten n b fs i (by simpa using h), List.getElem_cons_succ]

/-- A counter of a recorded snapshot. -/
theorem fieldAt_counterBytes (x : Vector Half 8) (i : Fin 8) (b : List Byte) :
    fieldAt ((x.toList.map fun c => leBytes 2 c.toNat).flatten ++ b) (2 * i.val) 2 = (x[i.val]).toNat := by
  have fields : (x.toList.map fun c => leBytes 2 c.toNat) = (x.toList.map BitVec.toNat).map (leBytes 2) := by simp
  have bound := x[i.val].isLt
  rw [fields, fieldAt_flatten 2 b _ i.val (by simp)]
  simpa using bound

/-! ### The records -/

/-- The codes of the drive states fit a byte. -/
theorem DriveState.code_lt (x : DriveState) : x.code < 256 := by cases x <;> decide

/-- The codes of the fault causes fit a byte. -/
theorem Cause.code_lt (x : Cause) : x.code < 256 := by cases x <;> decide

/-- The codes of the desk states fit a byte. -/
theorem DeskState.code_lt (x : DeskState) : x.code < 256 := by cases x <;> decide

/-- The codes of the desk faults fit a byte. -/
theorem DeskFault.code_lt (x : DeskFault) : x.code < 256 := by cases x <;> decide

section DriveRecord
variable (d : Drive) (n : Nat)

/-- The record is its head of 8 bytes, the layout, 10 bytes of counts and stamps, the map and the snapshot. -/
theorem Drive.recordBytes_parts : ∃ a b : List Byte, a.length = 8 ∧ b.length = 10
    ∧ d.recordBytes n = a ++ (layoutBytes d.timer.active ++ (b ++ (mapBytes d.timer.active ++ snapshotBytes d.health))) := by
  refine ⟨leBytes 1 d.state.code ++ leBytes 1 d.cause.code ++ leBytes 2 d.generation.toNat ++ leBytes 1 d.headCount
      ++ leBytes 1 (if d.writeProtect then 1 else 0) ++ leBytes 1 d.cylinder ++ leBytes 1 (if d.layoutKnown then 1 else 0),
    leBytes 2 n ++ leBytes 4 ((workingPeriod d.timer.p16).getD 0)
      ++ leBytes 4 (match d.health.snapshot with | none => 0 | some p => p.stamp.toNat),
    by simp, by simp, ?_⟩
  simp only [Drive.recordBytes, List.append_assoc] <;> rfl

/-- A layout field of the record. -/
theorem Drive.recordBytes_layout {i : Nat} (hi : i < 6) :
    fieldAt (d.recordBytes n) (8 + i) 1 = fieldAt (layoutBytes d.timer.active) i 1 := by
  obtain ⟨a, b, ha, -, parts⟩ := d.recordBytes_parts n
  rw [parts, fieldAt_append_right (by omega), fieldAt_append_left (by simp; omega), ha, Nat.add_sub_cancel_left]

/-- A map field of the record. -/
theorem Drive.recordBytes_map {i : Nat} (hi : i < 60) :
    fieldAt (d.recordBytes n) (24 + i) 1 = fieldAt (mapBytes d.timer.active) i 1 := by
  obtain ⟨a, b, ha, hb, parts⟩ := d.recordBytes_parts n
  have place : 24 + i - 8 - 6 - 10 = i := by omega
  rw [parts, fieldAt_append_right (by omega), fieldAt_append_right (by simp; omega), fieldAt_append_right (by simp; omega),
    fieldAt_append_left (by simp; omega), ha, hb, layoutBytes_length, place]

/-- A snapshot field of the record. -/
theorem Drive.recordBytes_snapshot (i k : Nat) :
    fieldAt (d.recordBytes n) (84 + i) k = fieldAt (snapshotBytes d.health) i k := by
  obtain ⟨a, b, ha, hb, parts⟩ := d.recordBytes_parts n
  have place : 84 + i - 8 - 6 - 10 - 60 = i := by omega
  rw [parts, fieldAt_append_right (by omega), fieldAt_append_right (by simp; omega), fieldAt_append_right (by simp; omega),
    fieldAt_append_right (by simp; omega), ha, hb, layoutBytes_length, mapBytes_length, place]

end DriveRecord

/-- The layout fields of a drive record (06, 6.2). -/
theorem fieldAt_layoutBytes {l : Layout} (hn : l.sizeCode < 256) (hs : l.spt < 256) (hf : l.first < 256)
    (h0 : l.g0 < 256) (h3 : l.g3 < 256) :
    fieldAt (layoutBytes (some l)) 0 1 = (if l.density = .fm then 0 else 1)
    ∧ fieldAt (layoutBytes (some l)) 1 1 = l.sizeCode ∧ fieldAt (layoutBytes (some l)) 2 1 = l.spt
    ∧ fieldAt (layoutBytes (some l)) 3 1 = l.first ∧ fieldAt (layoutBytes (some l)) 4 1 = l.g0
    ∧ fieldAt (layoutBytes (some l)) 5 1 = l.g3 := by
  refine ⟨?density, ?_, ?_, ?_, ?_, ?_⟩
  case density => cases hd : l.density <;> simp [layoutBytes, List.append_assoc, fieldAt_leBytes_append, hd]
  all_goals
    simpa (disch := simp) [layoutBytes, List.append_assoc, fieldAt_append_right, fieldAt_leBytes_append, fieldAt_leBytes]

/-- The snapshot fields of a drive record (06, 6.2; R178). -/
theorem fieldAt_snapshotBytes {h : Health} {x : Snapshot} (hx : h.snapshot = some x) :
    (∀ i : Fin 8, fieldAt (snapshotBytes h) (2 * i.val) 2 = (x.counters[i.val]).toNat)
    ∧ fieldAt (snapshotBytes h) 16 1 = x.overflow.toNat ∧ fieldAt (snapshotBytes h) 17 1 = x.framesMark % 256
    ∧ fieldAt (snapshotBytes h) 18 2 = x.candMark % 65536 := by
  have len := counterBytes_length x.counters
  simp only [snapshotBytes, hx, List.append_assoc]
  refine ⟨fun i => fieldAt_counterBytes x.counters i _, ?_, ?_, ?_⟩
  · rw [fieldAt_append_right (by omega), len, fieldAt_one]
    rfl
  · rw [fieldAt_append_right (by omega), len, fieldAt_append_right (by simp), List.length_singleton,
      fieldAt_leBytes_append, Nat.pow_one]
  · rw [fieldAt_append_right (by omega), len, fieldAt_append_right (by simp), List.length_singleton,
      fieldAt_append_right (by simp), leBytes_length, fieldAt_leBytes]
    rfl

/-- The head of a drive record and what stands between its layout and its map, at their offsets (06, 6.2). -/
theorem Drive.recordBytes_head (d : Drive) (n : Nat) :
    fieldAt (d.recordBytes n) 0 1 = d.state.code % 256 ∧ fieldAt (d.recordBytes n) 1 1 = d.cause.code % 256
    ∧ fieldAt (d.recordBytes n) 2 2 = d.generation.toNat % 65536 ∧ fieldAt (d.recordBytes n) 4 1 = d.headCount % 256
    ∧ fieldAt (d.recordBytes n) 5 1 = (if d.writeProtect then 1 else 0)
    ∧ fieldAt (d.recordBytes n) 6 1 = d.cylinder % 256
    ∧ fieldAt (d.recordBytes n) 7 1 = (if d.layoutKnown then 1 else 0) ∧ fieldAt (d.recordBytes n) 14 2 = n % 65536
    ∧ fieldAt (d.recordBytes n) 16 4 = ((workingPeriod d.timer.p16).getD 0) % 4294967296 := by
  have bit (b : Bool) : (if b = true then 1 else 0) < 256 := by cases b <;> decide
  refine ⟨?_, ?_, ?_, ?_, ?_, ?_, ?_, ?_, ?_⟩
  all_goals
    simp (disch := simp) [Drive.recordBytes, List.append_assoc, fieldAt_append_right, fieldAt_leBytes_append, bit]

/-- The snapshot stamp of a drive record: that of the held snapshot, 0 before the first (06, 6.2; R178). -/
theorem Drive.recordBytes_stamp (d : Drive) (n : Nat) :
    (d.health.snapshot = none → fieldAt (d.recordBytes n) 20 4 = 0)
    ∧ ∀ x, d.health.snapshot = some x → fieldAt (d.recordBytes n) 20 4 = x.stamp.toNat := by
  refine ⟨fun hs => ?_, fun x hx => ?_⟩
  · simp (disch := simp) [Drive.recordBytes, List.append_assoc, fieldAt_append_right, fieldAt_leBytes_append, hs]
  · simp (disch := simp) [Drive.recordBytes, List.append_assoc, fieldAt_append_right, fieldAt_leBytes_append, hx]
    exact x.stamp.isLt

/-- What a desk entry carries, at the offsets of its part-written bytes (06, 6.2; R112). -/
theorem Desk.entryBytes_head (k : Desk) :
    fieldAt k.entryBytes 0 4 = (k.cursor.getD 0).toNat % 4294967296 ∧ fieldAt k.entryBytes 4 1 = k.state.code % 256
    ∧ fieldAt k.entryBytes 5 1 = k.fault.code % 256 ∧ fieldAt k.entryBytes 6 2 = k.taken.toNat % 65536
    ∧ fieldAt k.entryBytes 8 2 = k.done.toNat % 65536 ∧ fieldAt k.entryBytes 10 1 = k.inFlight % 256 := by
  refine ⟨?_, ?_, ?_, ?_, ?_, ?_⟩
  all_goals
    simp (disch := simp) [Desk.entryBytes, List.append_assoc, fieldAt_append_right, fieldAt_leBytes_append, fieldAt_leBytes]

/-- Settles O45: the field check of its own bytes, and the parts of the two records at their offsets. -/
theorem recordedBytes : Obligations.RecordedBytes := by
  refine ⟨fieldGood_own_check, fun d n hn hc hy => ?drive, fun k hk => ?desk⟩
  case drive =>
    obtain ⟨state, cause, gen, heads, protect, cyl, known, count, period⟩ := d.recordBytes_head n
    obtain ⟨noStamp, stamp⟩ := d.recordBytes_stamp n
    refine ⟨by simp [Drive.recordBytes], ?_, ?_, ?_, ?_, protect, ?_, known, ?_, period, ?layout, ?noLayout,
      ?noSnapshot, ?snapshot⟩
    · rw [state, Nat.mod_eq_of_lt d.state.code_lt]
      rfl
    · rw [cause, Nat.mod_eq_of_lt d.cause.code_lt]
      rfl
    · rw [gen, Nat.mod_eq_of_lt d.generation.isLt]
    · rw [heads, Nat.mod_eq_of_lt hc]
    · rw [cyl, Nat.mod_eq_of_lt hy]
    · rw [count, Nat.mod_eq_of_lt hn]
    case layout =>
      intro l hl _ hmap hs ht hf h0 h3
      have place := fun {i : Nat} (hi : i < 6) => d.recordBytes_layout n hi
      obtain ⟨e0, e1, e2, e3, e4, e5⟩ := fieldAt_layoutBytes hs ht hf h0 h3
      rw [hl] at place
      refine ⟨(place (i := 0) (by decide)).trans e0, (place (i := 1) (by decide)).trans e1,
        (place (i := 2) (by decide)).trans e2, (place (i := 3) (by decide)).trans e3,
        (place (i := 4) (by decide)).trans e4, (place (i := 5) (by decide)).trans e5, fun i hi => ?_⟩
      rw [d.recordBytes_map n hi, hl, fieldAt_mapBytes hmap hi]
    case noLayout =>
      intro hl
      refine ⟨fun i h8 h14 => ?_, fun i hi => ?_⟩
      · obtain ⟨j, rfl⟩ := Nat.exists_eq_add_of_le h8
        rw [d.recordBytes_layout n (by omega), hl]
        exact fieldAt_zeros 6 j
      · rw [d.recordBytes_map n hi, hl]
        exact fieldAt_zeros 60 i
    case noSnapshot =>
      intro hs
      refine ⟨noStamp hs, fun i h84 _ => ?_⟩
      obtain ⟨j, rfl⟩ := Nat.exists_eq_add_of_le h84
      rw [d.recordBytes_snapshot, snapshotBytes, hs]
      exact fieldAt_zeros 20 j
    case snapshot =>
      intro x hx
      obtain ⟨counters, overflow, frames, cands⟩ := fieldAt_snapshotBytes hx
      refine ⟨stamp x hx, fun i => ?_, ?_, ?_, ?_⟩
      · rw [d.recordBytes_snapshot, counters i]
      · rw [d.recordBytes_snapshot n 16, overflow]
      · rw [d.recordBytes_snapshot n 17, frames]
      · rw [d.recordBytes_snapshot n 18, cands]
  case desk =>
    obtain ⟨cursor, state, fault, taken, done, flight⟩ := k.entryBytes_head
    refine ⟨by simp [Desk.entryBytes], ?_, ?_, ?_, ?_, ?_, ?_⟩
    · rw [cursor, Nat.mod_eq_of_lt (k.cursor.getD 0).isLt]
    · rw [state, Nat.mod_eq_of_lt k.state.code_lt]
      rfl
    · rw [fault, Nat.mod_eq_of_lt k.fault.code_lt]
      rfl
    · rw [taken, Nat.mod_eq_of_lt k.taken.isLt]
    · rw [done, Nat.mod_eq_of_lt k.done.isLt]
    · rw [flight, Nat.mod_eq_of_lt hk]

end Sys2Proof.Machine

-- ==== Sys2Proof/Proofs/Refusals.lean ====
namespace Sys2Proof.Machine

open Sys2Proof

/-! ### Kinds and options (06, 6.3) -/

/-- The code of a kind in an Order Block. -/
def Kind.number : Kind → Nat
  | .read => 1 | .write => 2 | .exchange => 3 | .flush => 4 | .discard => 5 | .checkout => 6 | .release => 7
  | .format => 8 | .snapshot => 9

/-- A kind byte names the kind of its code. -/
theorem kindOf_number {b : Byte} {k : Kind} (h : kindOf b = some k) : b.toNat = k.number := by
  unfold kindOf at h
  repeat' (split at h; · cases h; subst b; rfl)
  cases h

/-- A kind byte names no kind where it is 0 or above the last code. -/
theorem kindOf_eq_none {b : Byte} : kindOf b = none ↔ b = 0 ∨ 9 < b.toNat := by
  have codes : kindOf b = none ↔ b.toNat ∉ [1, 2, 3, 4, 5, 6, 7, 8, 9] := by
    simp [kindOf, BitVec.toNat_eq]
    grind
  rw [codes, BitVec.toNat_eq]
  simp
  omega

/-- An option is refused where a bit that the kind does not allow is set. -/
theorem and_not_ne_zero {x a : Byte} : (x &&& ~~~a) ≠ 0 ↔ ∃ i : Fin 8, x.getLsbD i = true ∧ a.getLsbD i = false := by
  constructor
  · intro h
    by_contra none
    refine h (BitVec.eq_of_getLsbD_eq fun i hi => ?_)
    have bit : x.getLsbD i = true → a.getLsbD i = true := by
      simpa using not_exists.mp none ⟨i, hi⟩
    cases hx : x.getLsbD i
    · simp [hx]
    · simp [hx, bit hx]
  · rintro ⟨i, hx, ha⟩ h
    have bit : (x &&& ~~~a).getLsbD i = false := by simp [h]
    rw [BitVec.getLsbD_and, BitVec.getLsbD_not, hx, ha] at bit
    simp [i.isLt] at bit

/-- The options that the kind of an order does not allow (R131). -/
theorem optionRefused_iff {x : Byte} (k : Kind) :
    (x &&& ~~~allowedOptions k) ≠ 0 ↔
      (x.getLsbD 1 = true ∧ ¬ (k = .read ∨ k = .write ∨ k = .exchange ∨ k = .format))
      ∨ (x.getLsbD 3 = true ∧ ¬ (k = .write ∨ k = .exchange)) ∨ (x.getLsbD 4 = true ∧ k ≠ .write)
      ∨ (x.getLsbD 5 = true ∧ ¬ (k = .read ∨ k = .exchange)) ∨ (x.getLsbD 6 = true ∧ k ≠ .read)
      ∨ (x.getLsbD 7 = true ∧ k ≠ .checkout) := by
  rw [and_not_ne_zero]
  cases k <;> simp [Fin.exists_fin_succ, allowedOptions]

/-- The drive that a drive field names. -/
theorem driveOf?_eq_some {n : Nat} {v : DriveNo} : driveOf? n = some v ↔ n = v.val := by
  unfold driveOf?
  split_ifs with h
  · simp [Fin.ext_iff]
  · simp
    omega

/-- N is known of a drive whose layout-known mark is set. -/
theorem State.knownSize_eq_some {s : State} {n k : Nat} : s.knownSize n = some k ↔
    ∃ (v : DriveNo) (l : Layout), n = v.val ∧ (s.drive v).layoutKnown = true ∧ (s.drive v).timer.active = some l
      ∧ l.size = k := by
  unfold State.knownSize State.knownGeometry
  cases hv : driveOf? n with
  | none =>
    have no : ∀ v : DriveNo, n ≠ v.val := fun v h => by simp [driveOf?_eq_some.mpr h] at hv
    simp [no]
  | some v =>
    have hn := driveOf?_eq_some.mp hv
    have only : ∀ w : DriveNo, n = w.val ↔ w = v := fun w => by rw [hn, Fin.ext_iff, eq_comm]
    cases hk : (s.drive v).layoutKnown
    · simp [only, hk]
    · cases hl : (s.drive v).timer.active <;> simp [only, hk, hl, Layout.geometry]

/-- The byte-range and buffer tests (R131). -/
theorem rangeTestsFail_iff {f : OrderFields} {k : Kind} {size : Option Nat} :
    rangeTestsFail f k size = true ↔ ∃ n, size = some n ∧
      (((k = .read ∨ k = .write) ∧ ((f.length = 0 ∧ f.offset ≠ 0) ∨ (f.length ≠ 0 ∧ f.count * n < f.offset + f.length)
            ∨ 0x1000000 < f.buffer + (if f.length = 0 then f.count * n else f.length)))
        ∨ (k = .exchange ∧ (0x1000000 < f.buffer + n ∨ 0x1000000 < f.buffer2 + n))) := by
  cases size with
  | none => simp [rangeTestsFail]
  | some n =>
    have span (p : Prop) [Decidable p] (a b c : Nat) :
        (if p then a != 0 else decide (b > c)) = true ↔ (p ∧ a ≠ 0) ∨ (¬ p ∧ c < b) := by
      split_ifs with h <;> simp [h]
    cases k <;> simp [rangeTestsFail, memoryLimit, span, or_assoc]

/-- What BAD_ORDER tests of an order of a known kind (R131, R157, R166). -/
theorem State.badOrder_iff {s : State} {f : OrderFields} {k : Kind} (hk : f.kind? = some k) :
    s.badOrder f = true ↔ (f.options &&& ~~~allowedOptions k) ≠ 0 ∨ (f.verify = true ∧ f.early = true)
      ∨ (¬ (k = .release ∧ f.scope = 1) ∧ (f.count = 0 ∨ 64 < f.count)) ∨ (k = .exchange ∧ f.count ≠ 1)
      ∨ (f.readsDrive = true ∧ 3 < f.drive) ∨ ((k = .flush ∨ k = .snapshot) ∧ 1 < f.scope)
      ∨ (k = .checkout ∧ f.mode ≠ 0 ∧ f.mode ≠ 1) ∨ (k = .release ∧ 1 < f.scope)
      ∨ (k = .format ∧ (3 < f.scope ∨ ((f.scope = 2 ∨ f.scope = 3) ∧ 0x1000000 < f.buffer + 68)))
      ∨ rangeTestsFail f k (s.knownSize f.drive) = true := by
  have count : countOk f.count = false ↔ f.count = 0 ∨ 64 < f.count := by
    simp [countOk]
    omega
  unfold State.badOrder
  rw [hk]
  simp [count, OrderFields.suppliesLayout, memoryLimit, or_assoc, and_assoc, not_and_or, -not_and]

/-- A kind without a code is a bad order (R131). -/
theorem State.badOrder_none {s : State} {f : OrderFields} (hk : f.kind? = none) : s.badOrder f = true := by
  unfold State.badOrder
  rw [hk]

/-- The kind of an order is told by its kind code. -/
theorem OrderFields.kind_number {f : OrderFields} {k : Kind} (hk : f.kind? = some k) : f.kind.toNat = k.number :=
  kindOf_number hk

/-- The kind code of an order tells its kind. -/
theorem OrderFields.kind?_of_number {f : OrderFields} {k : Kind} (h : f.kind.toNat = k.number) : f.kind? = some k := by
  cases hk : f.kind? with
  | none =>
    obtain h0 | h9 := kindOf_eq_none.mp hk
    · rw [h0] at h
      cases k <;> simp [Kind.number] at h
    · cases k <;> simp [Kind.number] at h <;> omega
  | some j =>
    rw [OrderFields.kind_number hk] at h
    cases j <;> cases k <;> cases h <;> rfl

/-! ### The checks in their order (R130) -/

section Checks
variable {s : State} {f : OrderFields} {d : DeskNo}

/-- The first check is BAD_ORDER. -/
theorem State.refusal_badOrder (hb : s.badOrder f = true) : s.refusal f d = some (.badOrder, 0) := by
  simp [State.refusal, hb]

/-- Then the drive state. -/
theorem State.refusal_state (hb : s.badOrder f = false) {code : Code} (hs : s.stateRefusal f = some code) :
    s.refusal f d = some (code, 0) := by
  simp [State.refusal, hb, hs]

/-- Then RANGE. -/
theorem State.refusal_range (hb : s.badOrder f = false) (hs : s.stateRefusal f = none) {n : Nat}
    (hr : s.rangeRefusal f = some n) : s.refusal f d = some (.range, n) := by
  simp [State.refusal, hb, hs, hr]

/-- Then PROTECTED. -/
theorem State.refusal_protected (hb : s.badOrder f = false) (hs : s.stateRefusal f = none)
    (hr : s.rangeRefusal f = none) (hp : s.protectedRefusal f = true) : s.refusal f d = some (.writeProtected, 0) := by
  simp [State.refusal, hb, hs, hr, hp]

/-- Then the write check. -/
theorem State.refusal_locked (hb : s.badOrder f = false) (hs : s.stateRefusal f = none) (hr : s.rangeRefusal f = none)
    (hp : s.protectedRefusal f = false) : s.refusal f d = (s.lockRefusal f d).map (Code.locked, ·) := by
  cases hl : s.lockRefusal f d <;> simp [State.refusal, hb, hs, hr, hp, hl]

/-- An order whose kind does not write meets neither of the last two checks. -/
theorem State.refusal_reader (hb : s.badOrder f = false) (hs : s.stateRefusal f = none) (hr : s.rangeRefusal f = none)
    {k : Kind} (hk : f.kind? = some k) (hw : k.writes = false) : s.refusal f d = none := by
  have hp : s.protectedRefusal f = false := by
    unfold State.protectedRefusal
    rw [hk]
    cases driveOf? f.drive <;> simp [hw]
  have hl : s.lockRefusal f d = none := by simp [State.lockRefusal, hk, hw]
  rw [State.refusal_locked hb hs hr hp, hl, Option.map_none]

/-- The PROTECTED check of a writing kind (R133). -/
theorem State.protectedRefusal_writes {k : Kind} {v : DriveNo} (hk : f.kind? = some k) (hw : k.writes = true)
    (hv : f.drive = v.val) : s.protectedRefusal f = (s.drive v).writeProtect := by
  simp [State.protectedRefusal, hk, driveOf?_eq_some.mpr hv, hw]

/-- The write check passes where no lock refuses its extent, else names the first block of the first that does (R162). -/
theorem State.lockRefusal_writes {k : Kind} (hk : f.kind? = some k) (hw : k.writes = true) {x : Extent}
    (hx : f.extent (s.knownGeometry f.drive) = some x) :
    ((∀ l ∈ s.locks, ¬ (l.extent.overlaps x = true ∧ (l.mode = .share ∨ d ∉ l.holders))) → s.lockRefusal f d = none)
    ∧ ∀ xs l ys, s.locks = xs ++ l :: ys →
        (∀ y ∈ xs, ¬ (y.extent.overlaps x = true ∧ (y.mode = .share ∨ d ∉ y.holders))) →
        (l.extent.overlaps x = true ∧ (l.mode = .share ∨ d ∉ l.holders)) → s.lockRefusal f d = some l.first := by
  have test (l : Lock) : (l.extent.overlaps x && (l.mode == .share || !l.heldBy d)) = true
      ↔ l.extent.overlaps x = true ∧ (l.mode = .share ∨ d ∉ l.holders) := by
    simp [Lock.heldBy]
  have check : s.lockRefusal f d = (s.refusingLock d x).map Lock.first := by simp [State.lockRefusal, hk, hw, hx]
  rw [check]
  refine ⟨fun h => ?_, fun xs l ys hs hxs hl => ?_⟩
  · have none : s.refusingLock d x = none := List.find?_eq_none.mpr fun l hm ht => h l hm ((test l).mp ht)
    rw [none, Option.map_none]
  · have first : s.refusingLock d x = some l :=
      List.find?_eq_some_iff_append.mpr ⟨(test l).mpr hl, xs, ys, hs, fun y hy => by
        rw [Bool.not_eq_true', Bool.eq_false_iff]
        exact fun ht => hxs y hy ((test y).mp ht)⟩
    rw [first, Option.map_some]

/-- What the write check answers is what the order is refused with, once the earlier checks have passed. -/
theorem State.refusal_lockCheck (hb : s.badOrder f = false) (hs : s.stateRefusal f = none)
    (hr : s.rangeRefusal f = none) {k : Kind} {v : DriveNo} (hk : f.kind? = some k) (hw : k.writes = true)
    (hv : f.drive = v.val) (hp : (s.drive v).writeProtect = false) {x : Extent}
    (hx : f.extent (s.knownGeometry f.drive) = some x) :
    ((∀ l ∈ s.locks, ¬ (l.extent.overlaps x = true ∧ (l.mode = .share ∨ d ∉ l.holders))) → s.refusal f d = none)
    ∧ ∀ xs l ys, s.locks = xs ++ l :: ys →
        (∀ y ∈ xs, ¬ (y.extent.overlaps x = true ∧ (y.mode = .share ∨ d ∉ y.holders))) →
        (l.extent.overlaps x = true ∧ (l.mode = .share ∨ d ∉ l.holders)) → s.refusal f d = some (.locked, l.first) := by
  obtain ⟨passes, refuses⟩ := State.lockRefusal_writes (d := d) hk hw hx
  rw [State.refusal_locked hb hs hr ((State.protectedRefusal_writes hk hw hv).trans hp)]
  exact ⟨fun h => by rw [passes h, Option.map_none],
    fun xs l ys hs hxs hl => by rw [refuses xs l ys hs hxs hl, Option.map_some]⟩

/-- The drive-state check of the kinds that meet it (R132). -/
theorem State.stateRefusal_checked (hc : f.stateChecked = true) {v : DriveNo} (hv : f.drive = v.val) :
    ((s.drive v).state = .ready → s.stateRefusal f = none)
    ∧ ((s.drive v).state = .blank → f.kind? = some .format ∧ f.suppliesLayout = true → s.stateRefusal f = none)
    ∧ ((s.drive v).state = .blank → ¬ (f.kind? = some .format ∧ f.suppliesLayout = true) →
        s.stateRefusal f = some .blank)
    ∧ ((s.drive v).state ≠ .blank → (s.drive v).state ≠ .ready → s.stateRefusal f = some .notReady) := by
  unfold State.stateRefusal
  rw [driveOf?_eq_some.mpr hv, hc]
  refine ⟨fun h => by simp [h], fun h hf => by simp [h, hf], fun h hf => by simp [h, hf], fun hb hr => ?_⟩
  cases h : (s.drive v).state <;> simp_all

/-- A kind that does not meet the drive-state check passes it. -/
theorem State.stateRefusal_unchecked (hc : f.stateChecked = false) : s.stateRefusal f = none := by
  simp [State.stateRefusal, hc]

/-- The geometry of a drive whose layout is known. -/
theorem State.knownGeometry_known {v : DriveNo} {l : Layout} (hv : f.drive = v.val)
    (hk : (s.drive v).layoutKnown = true) (hl : (s.drive v).timer.active = some l) :
    s.knownGeometry f.drive = some (l.geometry (s.drive v).headCount) := by
  simp [State.knownGeometry, driveOf?_eq_some.mpr hv, hk, hl]

/-- The geometry of a drive without a known layout. -/
theorem State.knownGeometry_unknown {v : DriveNo} (hv : f.drive = v.val) (hk : (s.drive v).layoutKnown = false) :
    s.knownGeometry f.drive = none := by
  simp [State.knownGeometry, driveOf?_eq_some.mpr hv, hk]

/-- Where the blocks of an order that names blocks of its drive end; an EXCHANGE and a DISCARD name one. -/
theorem State.rangeRefusal_blocks {v : DriveNo} {l : Layout} (hv : f.drive = v.val)
    (hk : (s.drive v).layoutKnown = true) (hl : (s.drive v).timer.active = some l) {k : Kind} (hkind : f.kind? = some k)
    {fits : Prop} (hf : k = .read ∨ k = .write ∨ k = .checkout →
      (fits ↔ f.block + f.count ≤ 77 * (s.drive v).headCount * l.spt))
    (hone : k = .exchange ∨ k = .discard → (fits ↔ f.block < 77 * (s.drive v).headCount * l.spt))
    (names : k = .read ∨ k = .write ∨ k = .checkout ∨ k = .exchange ∨ k = .discard) :
    (fits → s.rangeRefusal f = none)
    ∧ (¬ fits → s.rangeRefusal f = some (max (77 * (s.drive v).headCount * l.spt) f.block)) := by
  unfold State.rangeRefusal
  rw [driveOf?_eq_some.mpr hv, State.knownGeometry_known hv hk hl, hkind]
  obtain rfl | rfl | rfl | rfl | rfl := names
  case inl | inr.inl | inr.inr.inl =>
    rw [hf (by decide)]
    exact ⟨fun h => if_neg (Nat.not_lt.mpr h), fun h => if_pos (Nat.not_le.mp h)⟩
  all_goals
    rw [hone (by decide)]
    exact ⟨fun h => if_neg (Nat.not_le.mpr h), fun h => if_pos (Nat.not_lt.mp h)⟩

/-- The kinds that name no blocks pass RANGE. -/
theorem State.rangeRefusal_none {k : Kind} (hkind : f.kind? = some k)
    (names : k = .flush ∨ k = .release ∨ k = .snapshot) : s.rangeRefusal f = none := by
  unfold State.rangeRefusal
  cases driveOf? f.drive with
  | none => rfl
  | some v => obtain rfl | rfl | rfl := names <;> simp [hkind]

/-- A FORMAT of one track names its track (R166). -/
theorem State.rangeRefusal_format {v : DriveNo} (hv : f.drive = v.val) (hkind : f.kind? = some .format) :
    s.rangeRefusal f = if f.trackScope = true ∧ 77 * (s.drive v).headCount ≤ f.block then some f.block else none := by
  unfold State.rangeRefusal
  rw [driveOf?_eq_some.mpr hv, hkind]
  simp [cylinders]

/-- An order that BAD_ORDER passes has a kind and, but for a RELEASE of scope 1, a count from 1 to 64. -/
theorem State.badOrder_passed (hb : s.badOrder f = false) : ∃ k, f.kind? = some k
    ∧ (k ≠ .release → countOk f.count = true) := by
  cases hk : f.kind? with
  | none => rw [State.badOrder_none hk] at hb; cases hb
  | some k =>
    rw [← Bool.not_eq_true, State.badOrder_iff hk] at hb
    simp only [not_or] at hb
    obtain ⟨-, -, count, -⟩ := hb
    refine ⟨k, rfl, fun hne => ?_⟩
    have range : ¬ (f.count = 0 ∨ 64 < f.count) := fun h => count ⟨fun hr => hne hr.1, h⟩
    simp [countOk]
    omega

/-- The blocks of a WRITE or an EXCHANGE, as the write check takes them (R121, R162). -/
theorem OrderFields.extent_write {k : Kind} (hk : f.kind? = some k) (works : k = .write ∨ k = .exchange)
    (hc : countOk f.count = true) (known : Option Geometry) :
    f.extent known = some ⟨f.drive, f.block, some (if k = .exchange then 1 else f.count)⟩ := by
  obtain rfl | rfl := works <;> simp [OrderFields.extent, hk, hc]

/-- The blocks of a FORMAT (R162). -/
theorem OrderFields.extent_format (hk : f.kind? = some .format) (hc : countOk f.count = true)
    (known : Option Geometry) : f.extent known = some (formatExtent f known) := by
  simp [OrderFields.extent, hk, hc]

end Checks

/-- The byte-range and buffer tests of an order, against the known layout of its drive (R131). -/
theorem State.rangeTests_iff {s : State} {f : OrderFields} {k : Kind} :
    rangeTestsFail f k (s.knownSize f.drive) = true ↔ ∃ (v : DriveNo) (l : Layout), f.drive = v.val
      ∧ (s.drive v).layoutKnown = true ∧ (s.drive v).timer.active = some l
      ∧ (((k = .read ∨ k = .write) ∧ ((f.length = 0 ∧ f.offset ≠ 0)
            ∨ (f.length ≠ 0 ∧ f.count * l.size < f.offset + f.length)
            ∨ 0x1000000 < f.buffer + (if f.length = 0 then f.count * l.size else f.length)))
        ∨ (k = .exchange ∧ (0x1000000 < f.buffer + l.size ∨ 0x1000000 < f.buffer2 + l.size))) := by
  simp only [rangeTestsFail_iff, State.knownSize_eq_some]
  constructor
  · rintro ⟨n, ⟨v, l, hv, hk, hl, rfl⟩, fails⟩
    exact ⟨v, l, hv, hk, hl, fails⟩
  · rintro ⟨v, l, hv, hk, hl, fails⟩
    exact ⟨l.size, ⟨v, l, hv, hk, hl, rfl⟩, fails⟩

/-- The kinds that read the drive field (R131, R157). -/
theorem OrderFields.readsDrive_iff {f : OrderFields} {k : Kind} (hk : f.kind? = some k) :
    f.readsDrive = true ↔ ¬ ((k = .flush ∨ k = .release ∨ k = .snapshot) ∧ f.scope ≠ 0) := by
  unfold OrderFields.readsDrive
  rw [hk]
  cases k <;> simp

/-- Settles O36: each check's own lemma, at the kinds that meet it. -/
theorem refusalOrder : Obligations.RefusalOrder := by
  intro s f d
  refine ⟨?bad, State.refusal_badOrder, ?always, fun v hv hb => ?_⟩
  case bad =>
    cases hk : f.kind? with
    | none => simp only [State.badOrder_none hk, ← or_assoc, kindOf_eq_none.mp hk, true_or]
    | some k =>
      have hn := OrderFields.kind_number hk
      have known : ¬ (f.kind = 0 ∨ 9 < f.kind.toNat) := fun h => by
        rw [OrderFields.kind?, kindOf_eq_none.mpr h] at hk
        cases hk
      rw [State.badOrder_iff hk, optionRefused_iff, OrderFields.readsDrive_iff hk, State.rangeTests_iff,
        ← or_assoc (a := f.kind = 0), or_iff_right known]
      have h34 : f.verify = true ∧ f.early = true ↔ f.options.getLsbD 3 = true ∧ f.options.getLsbD 4 = true := Iff.rfl
      rw [h34, hn]
      cases k <;> simp [Kind.number, or_assoc, and_comm]
  case always =>
    rintro hb kind
    obtain ⟨k, hk, names, unchecked⟩ : ∃ k, f.kind? = some k ∧ (k = .flush ∨ k = .release ∨ k = .snapshot)
        ∧ f.stateChecked = false := by
      obtain h7 | h9 | ⟨h4, scope⟩ := kind
      · have hk : f.kind? = some .release := OrderFields.kind?_of_number h7
        exact ⟨.release, hk, by decide, by simp [OrderFields.stateChecked, hk]⟩
      · have hk : f.kind? = some .snapshot := OrderFields.kind?_of_number h9
        exact ⟨.snapshot, hk, by decide, by simp [OrderFields.stateChecked, hk]⟩
      · have hk : f.kind? = some .flush := OrderFields.kind?_of_number h4
        exact ⟨.flush, hk, by decide, by simp [OrderFields.stateChecked, hk, scope]⟩
    exact State.refusal_reader hb (State.stateRefusal_unchecked unchecked) (State.rangeRefusal_none hk names) hk
      (by obtain rfl | rfl | rfl := names <;> rfl)
  obtain ⟨κ, hκ, count⟩ := State.badOrder_passed hb
  intro works checked hc refuses lockCheck
  have number (n : Nat) : f.kind.toNat = n ↔ κ.number = n := by rw [← OrderFields.kind_number hκ]
  have state (hch : checked) : f.stateChecked = true := by
    simp only [checked, works, number] at hch
    unfold OrderFields.stateChecked
    rw [hκ]
    clear * - hch
    cases κ <;> simp_all [Kind.number]
  have formats : f.kind? = some .format ∧ f.suppliesLayout = true
      ↔ f.kind.toNat = 8 ∧ (f.scope = 2 ∨ f.scope = 3) := by
    rw [number, hκ]
    cases κ <;> simp [Kind.number, OrderFields.suppliesLayout]
  have ready (hr : (s.drive v).state = .ready) : s.stateRefusal f = none := by
    cases hch : f.stateChecked
    · exact State.stateRefusal_unchecked hch
    · exact (State.stateRefusal_checked hch hv).1 hr
  refine ⟨fun hch hs hno => ?_, fun hch hs hr => ?_, fun h4 hs => ?_, fun l hs hk hl => ?layout, fun h8 hs => ?track⟩
  · exact State.refusal_state hb ((State.stateRefusal_checked (state hch) hv).2.2.1 hs (mt formats.mp hno))
  · exact State.refusal_state hb ((State.stateRefusal_checked (state hch) hv).2.2.2 hs hr)
  · have hk := OrderFields.kind?_of_number (k := .flush) h4
    exact State.refusal_reader hb (ready hs) (State.rangeRefusal_none hk (by decide)) hk rfl
  case layout =>
    intro blocks fits
    have range (names : κ = .read ∨ κ = .write ∨ κ = .checkout ∨ κ = .exchange ∨ κ = .discard) :=
      State.rangeRefusal_blocks hv hk hl hκ (fits := fits)
        (by rintro (rfl | rfl | rfl) <;> simp [fits, blocks, number, Kind.number, hc])
        (by rintro (rfl | rfl) <;> simp [fits, blocks, number, Kind.number, hc]) names
    refine ⟨fun hn hno => ?_, fun hn hf => ?_, fun hn hf hp => ?_, fun hn hf hp => ?_⟩
    · refine State.refusal_range hb (ready hs) ((range ?_).2 hno)
      simp only [works, number] at hn
      clear * - hn
      cases κ <;> simp_all [Kind.number]
    · simp only [number] at hn
      obtain ⟨names, reads⟩ : (κ = .read ∨ κ = .write ∨ κ = .checkout ∨ κ = .exchange ∨ κ = .discard)
          ∧ κ.writes = false := by
        clear * - hn
        cases κ <;> simp_all [Kind.number, Kind.writes]
      exact State.refusal_reader hb (ready hs) ((range names).1 hf) hκ reads
    all_goals
      simp only [number] at hn
      have writes : κ = .write ∨ κ = .exchange := by clear * - hn; cases κ <;> simp_all [Kind.number]
      have passed := (range (by obtain rfl | rfl := writes <;> decide)).1 hf
      have isWriter : κ.writes = true := by obtain rfl | rfl := writes <;> rfl
    · exact State.refusal_protected hb (ready hs) passed ((State.protectedRefusal_writes hκ isWriter hv).trans hp)
    · have one : (if f.kind.toNat = 3 then 1 else f.count) = if κ = .exchange then 1 else f.count := by
        obtain rfl | rfl := writes <;> simp [number, Kind.number]
      have counted := count (by rintro rfl; simp at writes)
      show lockCheck ⟨f.drive, f.block, some (if f.kind.toNat = 3 then 1 else f.count)⟩
      rw [one]
      exact State.refusal_lockCheck hb (ready hs) passed hκ isWriter hv hp (OrderFields.extent_write hκ writes counted _)
  case track =>
    intro oneTrack
    have hk : f.kind? = some .format := OrderFields.kind?_of_number h8
    have counted : countOk f.count = true := count (by rintro rfl; rw [hk] at hκ; cases hκ)
    have track : f.trackScope = true ↔ oneTrack := by simp [OrderFields.trackScope, oneTrack]
    have inState : s.stateRefusal f = none := by
      obtain hr | ⟨hbl, supplies⟩ := hs
      · exact ready hr
      · exact (State.stateRefusal_checked (by simp [OrderFields.stateChecked, hk]) hv).2.1 hbl (formats.mpr ⟨h8, supplies⟩)
    have range := State.rangeRefusal_format (s := s) hv hk
    simp only [track] at range
    refine ⟨fun ht hblock => ?_, fun hno => ⟨fun hp => ?_, fun hp => ?_⟩⟩
    · exact State.refusal_range hb inState (range.trans (if_pos ⟨ht, hblock⟩))
    · exact State.refusal_protected hb inState (range.trans (if_neg hno))
        ((State.protectedRefusal_writes hk rfl hv).trans hp)
    · have check {x : Extent} (hx : formatExtent f (s.knownGeometry f.drive) = x) : lockCheck x :=
        State.refusal_lockCheck hb inState (range.trans (if_neg hno)) hk rfl hv hp
          ((OrderFields.extent_format hk counted _).trans (congrArg some hx))
      refine ⟨fun whole => check ?_, fun l ht hkn hl => check ?_⟩
      · obtain ht | hkn := whole
        · unfold formatExtent
          split
          · exact if_neg (mt track.mp ht)
          · rfl
        · rw [State.knownGeometry_unknown hv hkn, formatExtent]
      · rw [State.knownGeometry_known hv hkn hl]
        exact if_pos (track.mpr ht)

end Sys2Proof.Machine

-- ==== Sys2Proof/Proofs/Starts.lean ====
namespace Sys2Proof.Machine

open Sys2Proof

/-! ### A start's header read (R182) -/

/-- A change of every drive by one function. -/
theorem Ctx.forDrives_modDrive (c : Ctx) (k : Drive → Drive) :
    (c.forDrives fun v c => c.modDrive v k) = { c with drives := c.drives.map k } := by
  have drives : (c.forDrives fun v c => c.modDrive v k).drives = c.drives.map k := by
    ext i hi
    have cases : i = 0 ∨ i = 1 ∨ i = 2 ∨ i = 3 := by omega
    obtain rfl | rfl | rfl | rfl := cases <;>
      simp [Ctx.forDrives, List.finRange_succ, Ctx.modDrive, Ctx.setDrive, State.drive]
  calc c.forDrives (fun v c => c.modDrive v k)
      _ = { c with drives := (c.forDrives fun v c => c.modDrive v k).drives } := rfl
      _ = _ := by rw [drives]

theorem Ctx.setCtl_view (c : Ctx) (st : CtlState) : (c.setCtl st).view = { c.view with ctl := st } := by
  unfold Ctx.setCtl
  split
  · next h => rw [← h]; rfl
  · exact Ctx.forDrives_view _ _ fun v c => c.flagPick_view v

/-- A failed start: FAILED with its code, the start and the snapshot timer given up, START_FAIL set (R182). -/
theorem Ctx.failStart_view (c : Ctx) (code : StartCode) : (c.failStart code).view =
    { c.view with
      ctl := .failed, startCode := code, start := .idle, snapTimer := none
      notice := c.notice ||| bitMask startFailBit } := by
  have stopped : (({ c with startCode := code, start := .idle, snapTimer := none } : Ctx).setCtl .failed).view =
      { c.view with ctl := .failed, startCode := code, start := .idle, snapTimer := none } := Ctx.setCtl_view _ _
  have noticed (c1 : Ctx) (n : Nat) : (c1.setNotice n).view = { c1.view with notice := c1.notice ||| bitMask n } := rfl
  have notice := congrArg View.notice stopped
  rw [Ctx.failStart, noticed, stopped]
  exact congrArg (fun n => { c.view with
    ctl := .failed, startCode := code, start := .idle, snapTimer := none, notice := n ||| bitMask startFailBit }) notice

/-- The checks of a header in their order (R182). -/
theorem checkHeader_cases (b : List Byte) :
    (fieldAt b 0 2 ≠ 0x4E42 → checkHeader b = .error .badMark)
    ∧ (fieldAt b 0 2 = 0x4E42 → fieldAt b 2 1 = 0 ∨ 16 < fieldAt b 2 1 → checkHeader b = .error .badDeskCount)
    ∧ (fieldAt b 0 2 = 0x4E42 → 1 ≤ fieldAt b 2 1 → fieldAt b 2 1 ≤ 16 → fieldAt b 3 1 = 0 ∨ 50 < fieldAt b 3 1 →
        checkHeader b = .error .badOverdue)
    ∧ (fieldAt b 0 2 = 0x4E42 → 1 ≤ fieldAt b 2 1 → fieldAt b 2 1 ≤ 16 → 1 ≤ fieldAt b 3 1 → fieldAt b 3 1 ≤ 50 →
        checkHeader b = .ok ⟨fieldAt b 2 1, fieldAt b 3 1, fieldAt b 4 1, byteAt b 5⟩) := by
  have byte (i : Nat) : (byteAt b i).toNat = fieldAt b i 1 := (fieldAt_one b i).symm
  unfold checkHeader
  simp only [tableMark, byte]
  refine ⟨fun h => if_pos h, fun h hc => ?_, fun h h1 h16 ho => ?_, fun h h1 h16 o1 o50 => ?_⟩
  · rw [if_neg (not_not.mpr h), if_pos (by omega)]
  · rw [if_neg (not_not.mpr h), if_neg (by omega), if_pos (by omega)]
  · rw [if_neg (not_not.mpr h), if_neg (by omega), if_neg (by omega)]

/-- Settles O26: each check that fails ends the start with its code, and a good header begins the profile reads. -/
theorem headerReadDone : Obligations.HeaderReadDone := by
  intro s
  refine ⟨fun h r => ?_, fun hc hs => ?_⟩
  · show execHeaderReadDone r s = .next s
    unfold execHeaderReadDone
    split
    · next h1 h2 => exact absurd h (by simp [h1, h2])
    · rfl
  · intro fails
    have exec_data (b : List Byte) (hb : b.length = 64) :
        exec (.headerReadDone (.data b)) s = ((Ctx.of s).headerRead (.data b)).next := by
      show execHeaderReadDone _ s = _
      simp [execHeaderReadDone, hc, hs, wrongLength, hb]
    have failed (code : StartCode) : ((Ctx.of s).failStart code).finish.view = { s.view with
        ctl := .failed, startCode := code, start := .idle, snapTimer := none
        notice := s.notice ||| (1 : Word) <<< 24 } := by
      have view := (Ctx.of s).failStart_view code
      have ctl : ((Ctx.of s).failStart code).ctl = .failed := congrArg View.ctl view
      rw [Ctx.finish_view _ (by rw [ctl]; decide) (by rw [ctl]; decide), view]
      rfl
    have bad (b : List Byte) (hb : b.length = 64) {code : StartCode} (h : checkHeader b = .error code) :
        fails (.data b) code :=
      ⟨_, by rw [exec_data b hb, Ctx.headerRead, h]; rfl, failed code⟩
    refine ⟨⟨_, ?_, failed .headerBusError⟩, fun b hb => ?_⟩
    · show execHeaderReadDone _ s = _
      simp [execHeaderReadDone, hc, hs, wrongLength]
      rfl
    · obtain ⟨mark, count, overdue, good⟩ := checkHeader_cases b
      refine ⟨fun hm => bad b hb (mark hm), fun hm hn => bad b hb (count hm hn),
        fun hm h1 h16 ho => bad b hb (overdue hm h1 h16 ho), fun still hm h1 h16 o1 o50 => ?_⟩
      rw [exec_data b hb, Ctx.headerRead, good hm h1 h16 o1 o50]
      refine congrArg Host.Outcome.next ?_
      dsimp only
      rw [Ctx.forDrives_modDrive]
      exact Ctx.finish_none _ still.1 still.2 rfl rfl rfl

end Sys2Proof.Machine

-- ==== Sys2Proof/Proofs/Steps.lean ====
namespace Sys2Proof.Machine

open Sys2Proof

/-! ### What a change of a frame leaves as it was -/

/-- Of a drive, a change of a frame reports its marks and its record, and nothing else (R176, R180). -/
structure Drive.Reported (writes : Bool) (d d' : Drive) : Prop where
  rest : d' = { d with health := d'.health, recordWrites := d'.recordWrites }
  counters : d'.health.counters = d.health.counters
  recorded : d.recordWrites <+: d'.recordWrites
  silent : writes = false → d'.recordWrites = d.recordWrites

theorem Drive.Reported.refl (b : Bool) (d : Drive) : d.Reported b d := ⟨rfl, rfl, List.prefix_rfl, fun _ => rfl⟩

theorem Drive.Reported.trans {b : Bool} {d d' d'' : Drive} (h : d.Reported b d') (h' : d'.Reported b d'') :
    d.Reported b d'' where
  rest := by rw [h'.rest, h.rest]
  counters := h'.counters.trans h.counters
  recorded := h.recorded.trans h'.recorded
  silent hb := (h'.silent hb).trans (h.silent hb)

/-- The record write of a drive, where the controller state begins one (R113). -/
theorem Ctx.recordWrite_drive (c : Ctx) (v w : DriveNo) (x : Option Bool) :
    (c.recordWrite v x).drive w = if w = v ∧ c.ctl.tableWrites = true then
      { c.drive v with recordWrites := (c.drive v).recordWrites
          ++ [⟨⟨driveRecordAddr c.runBase v, (c.drive v).recordBytes (c.strandedCount v)⟩, x⟩] }
    else c.drive w := by
  unfold Ctx.recordWrite
  by_cases hw : w = v <;> cases hc : c.ctl.tableWrites <;> simp [Ctx.modDrive, Ctx.setDrive_drive, hw]

theorem Ctx.recordWrite_reported (c : Ctx) (v w : DriveNo) (x : Option Bool) :
    (c.drive w).Reported c.ctl.tableWrites ((c.recordWrite v x).drive w) := by
  rw [Ctx.recordWrite_drive]
  split
  · next h =>
    obtain ⟨rfl, hb⟩ := h
    exact ⟨rfl, rfl, List.prefix_append _ _, fun h0 => by rw [hb] at h0; cases h0⟩
  · exact .refl _ _

theorem Ctx.raiseMarks_reported (c : Ctx) (v w : DriveNo) :
    (c.drive w).Reported c.ctl.tableWrites ((c.raiseMarks v).drive w) := by
  unfold Ctx.raiseMarks Ctx.modDrive
  rw [Ctx.setDrive_drive]
  split
  · next h => subst h; exact ⟨rfl, rfl, List.prefix_rfl, fun _ => rfl⟩
  · exact .refl _ _

/-- The two contexts differ in their drives alone. -/
def Ctx.OnlyDrives (c c' : Ctx) : Prop := c' = { c with drives := c'.drives }

theorem Ctx.OnlyDrives.trans {c c' c'' : Ctx} (h : c.OnlyDrives c') (h' : c'.OnlyDrives c'') : c.OnlyDrives c'' := by
  rw [Ctx.OnlyDrives, h', h]

theorem Ctx.recordWrite_onlyDrives (c : Ctx) (v : DriveNo) (x : Option Bool) : c.OnlyDrives (c.recordWrite v x) := by
  unfold Ctx.recordWrite
  split <;> rfl

theorem Ctx.frameReports_onlyDrives (c : Ctx) (n : Nat) (v : DriveNo) : c.OnlyDrives (c.frameReports n v) := by
  have marks : c.OnlyDrives (c.raiseMarks v) := rfl
  unfold Ctx.frameReports
  dsimp only
  split
  · exact marks
  · exact marks.trans (Ctx.recordWrite_onlyDrives _ v none)

theorem Ctx.frameReports_reported (c : Ctx) (n : Nat) (v w : DriveNo) :
    (c.drive w).Reported c.ctl.tableWrites ((c.frameReports n v).drive w) := by
  unfold Ctx.frameReports
  dsimp only
  split
  · exact c.raiseMarks_reported v w
  · exact (c.raiseMarks_reported v w).trans ((c.raiseMarks v).recordWrite_reported v w none)

/-- A frame replaced, before its change is reported at its drives. -/
def Ctx.replaceFrame (c : Ctx) (f : FrameNo) (new : Frame) : Ctx :=
  let c1 : Ctx := { c with
    frames := c.frames.set f.val new
    serve := c.serve || ((c.frame f).held && !new.held) || (new.evictable && !(c.frame f).evictable)
    quiet := if new.isQuiet then c.quiet.map fun q => if q.frame = f then { q with told := true } else q else c.quiet }
  if (c.frame f).newCandidate new then c1.flagPick new.key.drive else c1

/-- A change of a frame is its replacement with the reports of the drives it is, or was, of. -/
theorem Ctx.putFrame_reports (c : Ctx) (f : FrameNo) (new : Frame) :
    let old := c.frame f
    let c1 := if old.held then (c.replaceFrame f new).frameReports (c.strandedCount old.key.drive) old.key.drive
      else c.replaceFrame f new
    c.putFrame f new = if new.held && !(old.held && old.key.drive == new.key.drive) then
      c1.frameReports (c.strandedCount new.key.drive) new.key.drive else c1 := rfl

/-- What the replacement of a frame changes: the frame and the reports to be taken. -/
theorem Ctx.replaceFrame_eq (c : Ctx) (f : FrameNo) (new : Frame) :
    c.replaceFrame f new = { c with
      frames := c.frames.set f.val new
      serve := c.serve || ((c.frame f).held && !new.held) || (new.evictable && !(c.frame f).evictable)
      quiet := if new.isQuiet then c.quiet.map fun q => if q.frame = f then { q with told := true } else q else c.quiet
      picks := if (c.frame f).newCandidate new then (c.flagPick new.key.drive).picks else c.picks } := by
  unfold Ctx.replaceFrame Ctx.flagPick
  dsimp only
  generalize (if new.isQuiet then c.quiet.map fun q => if q.frame = f then { q with told := true } else q else c.quiet)
    = quiet
  split <;> (try split) <;> rfl

theorem Ctx.putFrame_onlyDrives (c : Ctx) (f : FrameNo) (new : Frame) :
    (c.replaceFrame f new).OnlyDrives (c.putFrame f new) := by
  have told {c1 : Ctx} (b : Bool) (n : Nat) (v : DriveNo) (h : (c.replaceFrame f new).OnlyDrives c1) :
      (c.replaceFrame f new).OnlyDrives (if b then c1.frameReports n v else c1) := by
    cases b
    · exact h
    · exact h.trans (c1.frameReports_onlyDrives n v)
  rw [Ctx.putFrame_reports]
  exact told _ _ _ (told _ _ _ rfl)

theorem Ctx.putFrame_reported (c : Ctx) (f : FrameNo) (new : Frame) (w : DriveNo) :
    (c.drive w).Reported c.ctl.tableWrites ((c.putFrame f new).drive w) := by
  have told {c1 : Ctx} (b : Bool) (n : Nat) (v : DriveNo)
      (h : c1.ctl = c.ctl ∧ (c.drive w).Reported c.ctl.tableWrites (c1.drive w)) :
      (if b then c1.frameReports n v else c1).ctl = c.ctl
        ∧ (c.drive w).Reported c.ctl.tableWrites ((if b then c1.frameReports n v else c1).drive w) := by
    cases b
    · exact h
    · exact ⟨(State.view_ctl (c1.frameReports_view n v)).trans h.1,
        h.2.trans (h.1 ▸ c1.frameReports_reported n v w)⟩
  rw [Ctx.putFrame_reports]
  exact (told _ _ _ (told _ _ _ (by rw [c.replaceFrame_eq f new]; exact ⟨rfl, .refl _ _⟩))).2

@[simp] theorem Ctx.putFrame_frames (c : Ctx) (f : FrameNo) (new : Frame) :
    (c.putFrame f new).frames = c.frames.set f.val new := by rw [c.putFrame_onlyDrives f new, c.replaceFrame_eq f new]
@[simp] theorem Ctx.putFrame_fwq (c : Ctx) (f : FrameNo) (new : Frame) : (c.putFrame f new).fwq = c.fwq := by
  rw [c.putFrame_onlyDrives f new, c.replaceFrame_eq f new]
@[simp] theorem Ctx.putFrame_waiters (c : Ctx) (f : FrameNo) (new : Frame) : (c.putFrame f new).waiters = c.waiters := by
  rw [c.putFrame_onlyDrives f new, c.replaceFrame_eq f new]
@[simp] theorem Ctx.putFrame_locks (c : Ctx) (f : FrameNo) (new : Frame) : (c.putFrame f new).locks = c.locks := by
  rw [c.putFrame_onlyDrives f new, c.replaceFrame_eq f new]
@[simp] theorem Ctx.putFrame_channels (c : Ctx) (f : FrameNo) (new : Frame) :
    (c.putFrame f new).channels = c.channels := by rw [c.putFrame_onlyDrives f new, c.replaceFrame_eq f new]
@[simp] theorem Ctx.putFrame_rounds (c : Ctx) (f : FrameNo) (new : Frame) : (c.putFrame f new).rounds = c.rounds := by
  rw [c.putFrame_onlyDrives f new, c.replaceFrame_eq f new]
theorem Ctx.putFrame_picks (c : Ctx) (f : FrameNo) (new : Frame) :
    (c.putFrame f new).picks = if (c.frame f).newCandidate new then (c.flagPick new.key.drive).picks else c.picks := by
  rw [c.putFrame_onlyDrives f new, c.replaceFrame_eq f new]

/-- The frame that a change replaces. -/
theorem Ctx.putFrame_frame (c : Ctx) (f f' : FrameNo) (new : Frame) :
    (c.putFrame f new).frame f' = if f' = f then new else c.frame f' := by
  unfold State.frame
  rw [Ctx.putFrame_frames]
  by_cases h : f' = f
  · subst h; simp
  · have hne : f.val ≠ f'.val := fun he => h (Fin.ext he.symm)
    simp [h, Vector.getElem_set_ne, hne]

/-! ### The steps of the store and the engine -/

/-- What reports may change of an order that no step names: its targets, with what they say of it, and a job slot that
became free. -/
structure Order.Alike (o o' : Order) : Prop where
  rest : o' = { o with targets := o'.targets, highest := o'.highest, failure := o'.failure, phase := o'.phase }
  phase : o'.phase = o.phase ∨ (o.phase = .busy ∧ o'.phase = .slotFree)

theorem Order.Alike.refl (o : Order) : o.Alike o := ⟨rfl, .inl rfl⟩

theorem Order.Alike.trans {o o' o'' : Order} (h : o.Alike o') (h' : o'.Alike o'') : o.Alike o'' where
  rest := by rw [h'.rest, h.rest]
  phase := by
    obtain h1 | ⟨hb, hf⟩ := h.phase
    · obtain h2 | ⟨hb, hf⟩ := h'.phase
      · exact .inl (h2.trans h1)
      · exact .inr ⟨h1 ▸ hb, hf⟩
    · obtain h2 | ⟨hb', _⟩ := h'.phase
      · exact .inr ⟨hb, h2.trans hf⟩
      · rw [hf] at hb'; cases hb'

theorem Order.Alike.stage {o o' : Order} (h : o.Alike o') : o'.stage = o.stage := by rw [h.rest]
theorem Order.Alike.fields {o o' : Order} (h : o.Alike o') : o'.fields = o.fields := by rw [h.rest]
theorem Order.Alike.result {o o' : Order} (h : o.Alike o') : o'.result = o.result := by rw [h.rest]
theorem Order.Alike.tracks {o o' : Order} (h : o.Alike o') : o'.tracks = o.tracks := by rw [h.rest]
theorem Order.Alike.track {o o' : Order} (h : o.Alike o') : o'.track = o.track := by rw [h.rest]

/-- A change of a frame brings no new key to it but that of a READY drive with a known layout (R64). -/
def Ctx.KeyOk (c : Ctx) (f : FrameNo) (new : Frame) : Prop :=
  new.held = true → ((c.frame f).held = true ∧ new.key = (c.frame f).key)
    ∨ ((c.drive new.key.drive).layoutKnown = true ∧ (c.drive new.key.drive).state = .ready)

/-- From `c'` to `c''` the queues moved, in steps that began in `c`: no CHECKOUT waits that did not wait at first, no new entry
of the Frame Wait Queue came but of an order that `N` names, where frames change freely, and no lock moved where no CHECKOUT
waited at first. -/
structure Ctx.QueuesMoved (N : EntryNo → Prop) (F : Frame → Frame → Prop) (c c' c'' : Ctx) : Prop where
  rest : c'' = { c' with
    fwq := c''.fwq, quiet := c''.quiet, waiters := c''.waiters, locks := c''.locks, serve := c''.serve }
  fwq : ∀ w ∈ c''.fwq, (N w.order ∧ ∀ a b, F a b) ∨ ∃ x ∈ c'.fwq, x.order = w.order
  waiters : ∀ w ∈ c''.waiters, w ∈ c.waiters
  locks : c.waiters = [] → c''.locks = c'.locks

/-- What the store, the Order Engine and the Lock Table do in their own steps: frames change as `F` allows, the orders that
`N` names change, the others hear reports, and the queues move. An order comes into FILL, or into the Frame Wait Queue, where
frames change freely alone: steps that only end orders set none going. -/
inductive Steps (N : EntryNo → Prop) (F : Frame → Frame → Prop) (c : Ctx) : Ctx → Prop
  | refl : Steps N F c c
  | frame {c' : Ctx} (f : FrameNo) (new : Frame) : Steps N F c c' → F (c'.frame f) new → c'.KeyOk f new →
      Steps N F c (c'.putFrame f new)
  | order {c' : Ctx} (e : EntryNo) (o : Order) : Steps N F c c' → N e → (o.stage = .fill → ∀ a b, F a b) →
      Steps N F c (c'.setOrder e o)
  | report {c' : Ctx} (e : EntryNo) (o o' : Order) : Steps N F c c' → c'.order? e = some o → o.Alike o' →
      Steps N F c (c'.setOrder e o')
  | queues {c' c'' : Ctx} : Steps N F c c' → c.QueuesMoved N F c' c'' → Steps N F c c''

section Steps
variable {N : EntryNo → Prop} {F : Frame → Frame → Prop} {c c' c'' : Ctx}

/-- No CHECKOUT comes to wait, and no lock moves where none waits. -/
theorem Steps.waiters (h : Steps N F c c') :
    (∀ w ∈ c'.waiters, w ∈ c.waiters) ∧ (c.waiters = [] → c'.locks = c.locks) := by
  induction h with
  | refl => exact ⟨fun _ h => h, fun _ => rfl⟩
  | frame f new _ _ _ ih => simpa using ih
  | order e o _ _ _ ih => exact ih
  | report e o o' _ _ _ ih => exact ih
  | queues _ hq ih => exact ⟨hq.waiters, fun h0 => (hq.locks h0).trans (ih.2 h0)⟩

theorem Steps.waiters_nil (h : Steps N F c c') (h0 : c.waiters = []) : c'.waiters = [] :=
  List.eq_nil_iff_forall_not_mem.mpr fun w hm => by simpa [h0] using h.waiters.1 w hm

theorem Steps.trans (h : Steps N F c c') (h' : Steps N F c' c'') : Steps N F c c'' := by
  induction h' with
  | refl => exact h
  | frame f new _ hF hK ih => exact ih.frame f new hF hK
  | order e o _ hN hO ih => exact ih.order e o hN hO
  | report e o o' _ ho ha ih => exact ih.report e o o' ho ha
  | queues _ hq ih =>
    exact ih.queues ⟨hq.rest, hq.fwq, fun w hw => h.waiters.1 w (hq.waiters w hw),
      fun h0 => hq.locks (h.waiters_nil h0)⟩

/-- The steps leave all that no order and no frame changes. -/
theorem Steps.view (h : Steps N F c c') : c'.view = c.view := by
  induction h with
  | refl => rfl
  | frame f new _ _ _ ih => exact (Ctx.putFrame_view _ f new).trans ih
  | order e o _ _ _ ih => exact ih
  | report e o o' _ _ _ ih => exact ih
  | queues _ hq ih => rw [hq.rest]; exact ih

/-- The steps leave the channels and the release rounds. -/
theorem Steps.channels (h : Steps N F c c') : c'.channels = c.channels ∧ c'.rounds = c.rounds := by
  induction h with
  | refl => exact ⟨rfl, rfl⟩
  | frame f new _ _ _ ih => simpa using ih
  | order e o _ _ _ ih => exact ih
  | report e o o' _ _ _ ih => exact ih
  | queues _ hq ih => rw [hq.rest]; exact ih

/-- Of a drive, the steps report its marks and its record. -/
theorem Steps.drive (h : Steps N F c c') (v : DriveNo) : (c.drive v).Reported c.ctl.tableWrites (c'.drive v) := by
  induction h with
  | refl => exact .refl _ _
  | frame f new hs _ _ ih =>
    have ctl := State.view_ctl hs.view
    exact ih.trans (ctl ▸ Ctx.putFrame_reported _ f new v)
  | order e o _ _ _ ih => exact ih
  | report e o o' _ _ _ ih => exact ih
  | queues _ hq ih => rw [hq.rest]; exact ih

/-- A relation of frames that holds at every change holds from the first to the last. -/
theorem Steps.frame_rel (h : Steps N F c c') {R : Frame → Frame → Prop} (refl : ∀ a, R a a)
    (trans : ∀ a b d, R a b → R b d → R a d) (hF : ∀ a b, F a b → R a b) (f : FrameNo) : R (c.frame f) (c'.frame f) := by
  induction h with
  | refl => exact refl _
  | frame g new _ hf _ ih =>
    rw [Ctx.putFrame_frame]
    split
    · next he => subst he; exact trans _ _ _ ih (hF _ _ hf)
    · exact ih
  | order e o _ _ _ ih => exact ih
  | report e o o' _ _ _ ih => exact ih
  | queues _ hq ih => rw [hq.rest]; exact ih

/-- No frame comes to be held for a drive that is not READY. -/
theorem Steps.keys (h : Steps N F c c') {v : DriveNo} (hv : (c.drive v).state ≠ .ready)
    (none : ∀ f, (c.frame f).held = true → (c.frame f).key.drive ≠ v) :
    ∀ f, (c'.frame f).held = true → (c'.frame f).key.drive ≠ v := by
  induction h with
  | refl => exact none
  | frame g new hs _ hK ih =>
    intro f
    rw [Ctx.putFrame_frame]
    split
    · next he =>
      subst he
      intro hh hd
      obtain ⟨hold, hk⟩ | ⟨_, hready⟩ := hK hh
      · exact ih f hold (hk ▸ hd)
      · have same := State.view_drive hs.view v
        rw [hd] at hready
        exact hv ((congrArg DriveView.state same).symm.trans hready)
    · exact ih f
  | order e o _ _ _ ih => exact ih
  | report e o o' _ _ _ ih => exact ih
  | queues _ hq ih => rw [hq.rest]; exact ih

/-- No pick point comes from frame changes that make no candidate. -/
theorem Steps.picks (h : Steps N F c c') (hF : ∀ a b, F a b → a.newCandidate b = false) : c'.picks = c.picks := by
  induction h with
  | refl => rfl
  | frame f new _ hf _ ih => rw [Ctx.putFrame_picks, hF _ _ hf]; exact ih
  | order e o _ _ _ ih => exact ih
  | report e o o' _ _ _ ih => exact ih
  | queues _ hq ih => rw [hq.rest]; exact ih

/-- An order that no step names hears reports alone. -/
theorem Steps.order? (h : Steps N F c c') {e : EntryNo} (he : ¬ N e) :
    (∀ o, c.order? e = some o → ∃ o', c'.order? e = some o' ∧ o.Alike o') ∧ (c.order? e = none → c'.order? e = none) := by
  induction h with
  | refl => exact ⟨fun o ho => ⟨o, ho, .refl o⟩, fun h => h⟩
  | frame f new _ _ _ ih =>
    rw [State.order?_of_table (Ctx.putFrame_table _ f new) e]
    exact ih
  | order e' o1 _ hN _ ih =>
    have hne : e ≠ e' := fun h => he (h ▸ hN)
    simp only [Ctx.setOrder_order?, if_neg hne]
    exact ih
  | @report c1 e' o1 o2 _ ho1 ha ih =>
    rw [Ctx.setOrder_order?]
    by_cases hee : e = e'
    · subst hee
      refine ⟨fun o ho => ?_, fun h => ?_⟩
      · obtain ⟨o', ho', alike⟩ := ih.1 o ho
        rw [ho1] at ho'
        cases ho'
        exact ⟨o2, if_pos rfl, alike.trans ha⟩
      · rw [ih.2 h] at ho1; cases ho1
    · rw [if_neg hee]
      exact ih
  | @queues c1 c2 _ hq' ih =>
    have table : c2.order? e = c1.order? e := by rw [hq'.rest]; rfl
    rw [table]
    exact ih

/-- No entry of the Frame Wait Queue comes but of an order that a step names. -/
theorem Steps.queued (h : Steps N F c c') : ∀ w ∈ c'.fwq, (N w.order ∧ ∀ a b, F a b) ∨ ∃ x ∈ c.fwq, x.order = w.order := by
  induction h with
  | refl => exact fun w hw => .inr ⟨w, hw, rfl⟩
  | frame f new _ _ _ ih => simpa using ih
  | order e o _ _ _ ih => exact ih
  | report e o o' _ _ _ ih => exact ih
  | queues _ hq ih =>
    intro w hw
    obtain hN | ⟨x, hx, hxe⟩ := hq.fwq w hw
    · exact .inl hN
    · rw [← hxe]
      exact ih x hx

theorem Steps.fwq (h : Steps N F c c') : ∀ w ∈ c'.fwq, N w.order ∨ ∃ x ∈ c.fwq, x.order = w.order := fun w hw =>
  (h.queued w hw).imp And.left id

/-- Where steps do not change frames freely, they bring no order into FILL: what holds of those there, and stands over reports,
holds of those there at the end. -/
theorem Steps.fills (h : Steps N F c c') (hF : ¬ ∀ a b, F a b) {Q : Order → Prop} (hQ : ∀ o o' : Order, o.Alike o' → Q o → Q o')
    (hf : ∀ e o, c.order? e = some o → o.stage = .fill → Q o) : ∀ e o, c'.order? e = some o → o.stage = .fill → Q o := by
  induction h with
  | refl => exact hf
  | frame f new _ _ _ ih =>
    intro e o
    rw [State.order?_of_table (Ctx.putFrame_table _ f new) e]
    exact ih e o
  | order e' o1 _ _ h1 ih =>
    intro e o
    rw [Ctx.setOrder_order?]
    split
    · intro h hs; cases h; exact absurd (h1 hs) hF
    · exact ih e o
  | report e' o1 o2 _ h1 ha ih =>
    intro e o
    rw [Ctx.setOrder_order?]
    split
    · intro h hs; cases h; exact hQ _ _ ha (ih e' o1 h1 (ha.stage ▸ hs))
    · exact ih e o
  | @queues c1 c2 _ hq ih =>
    intro e o
    have table : c2.order? e = c1.order? e := by rw [hq.rest]; rfl
    rw [table]
    exact ih e o

/-- Nor does an entry of the Frame Wait Queue come. -/
theorem Steps.fwq_nil (h : Steps N F c c') (hF : ¬ ∀ a b, F a b) (hq : c.fwq = []) : c'.fwq = [] :=
  List.eq_nil_iff_forall_not_mem.mpr fun w hw => by
    obtain ⟨_, ho⟩ | ⟨x, hx, _⟩ := h.queued w hw
    · exact hF ho
    · rw [hq] at hx; cases hx

theorem Steps.noneFill (h : Steps N F c c') (hF : ¬ ∀ a b, F a b) (hf : ∀ e o, c.order? e = some o → o.stage ≠ .fill)
    (hq : c.fwq = []) : (∀ e o, c'.order? e = some o → o.stage ≠ .fill) ∧ c'.fwq = [] :=
  ⟨h.fills hF (Q := fun _ => False) (fun _ _ _ h => h) hf, h.fwq_nil hF hq⟩

/-- No order comes to be able to go on. -/
theorem Steps.readyOrder_none (h : Steps N F c c') (hF : ¬ ∀ a b, F a b) (hr : c.readyOrder? = none) : c'.readyOrder? = none := by
  rw [State.readyOrder_none_iff] at hr ⊢
  exact h.fills hF (fun o o' a hw => by rw [a.rest]; exact hw) hr

theorem Steps.notQueued (h : Steps N F c c') {e : EntryNo} (he : ¬ N e) (hq : c.notQueued e) : c'.notQueued e := by
  refine ⟨fun w hw hwe => ?_, fun w hw => hq.2 w (h.waiters.1 w hw)⟩
  obtain hN | ⟨x, hx, hxe⟩ := h.fwq w hw
  · exact he (hwe ▸ hN)
  · exact hq.1 x hx (hxe.trans hwe)

end Steps

end Sys2Proof.Machine

-- ==== Sys2Proof/Proofs/Works.lean ====
namespace Sys2Proof.Machine

open Sys2Proof

/-! ### What the operations of the store and the engine do, as steps -/

/-- An order that its targets do not end: one not in SETTLE, or a FORMAT in its drain (R170). -/
def Order.Steady (o : Order) : Prop := o.stage = .settle → o.isFormat = true

/-- An order that goes on by no report: one that has ended, or a FORMAT in its drain or at its tracks. -/
def Order.Parked (o : Order) : Prop :=
  o.stage = .finish ∨ (o.isFormat = true ∧ (o.stage = .settle ∨ o.stage = .job))

theorem Order.Parked.steady {o : Order} (h : o.Parked) : o.Steady := fun hs => by
  obtain hf | ⟨hf, _⟩ := h
  · rw [hf] at hs; cases hs
  · exact hf

theorem Order.Parked.not_fill {o : Order} (h : o.Parked) : o.stage ≠ .fill := by
  rintro hs
  obtain hf | ⟨_, hf | hf⟩ := h <;> rw [hf] at hs <;> cases hs

theorem Order.isFormat_iff (o : Order) : o.isFormat = true ↔ o.fields.kind? = some .format := by
  simp [Order.isFormat]

theorem Order.Alike.isFormat {o o' : Order} (h : o.Alike o') : o'.isFormat = o.isFormat := by
  rw [Order.isFormat, Order.isFormat, h.fields]

theorem Order.Alike.parked {o o' : Order} (h : o.Alike o') (hp : o.Parked) : o'.Parked := by
  rw [Order.Parked, h.stage, h.isFormat]
  exact hp

theorem Order.Alike.steady {o o' : Order} (h : o.Alike o') (hp : o.Steady) : o'.Steady := by
  rw [Order.Steady, h.stage, h.isFormat]
  exact hp

/-- Every entry that `N` does not name waits for no lock, nor, where `Q` holds, for a frame, and its order, if any, is one of
those that `P` says. -/
def Ctx.Covers (N : EntryNo → Prop) (P : Order → Prop) (Q : Prop) (c : Ctx) : Prop :=
  ∀ e, ¬ N e → (∀ w ∈ c.waiters, w.order ≠ e) ∧ (Q → ∀ w ∈ c.fwq, w.order ≠ e) ∧ ∀ o, c.order? e = some o → P o

/-- From `c` to `c'` by steps, where the entries that `N` does not name are covered by `P` and `Q`. -/
def Works (N : EntryNo → Prop) (P : Order → Prop) (Q : Prop) (F : Frame → Frame → Prop) (c c' : Ctx) : Prop :=
  (∀ o o' : Order, o.Alike o' → P o → P o') → c.Covers N P Q → Steps N F c c'

section Works
variable {N : EntryNo → Prop} {P : Order → Prop} {Q : Prop} {F : Frame → Frame → Prop} {c c' c'' : Ctx}

theorem Steps.covers (h : Steps N F c c') (hP : ∀ o o' : Order, o.Alike o' → P o → P o') (hc : c.Covers N P Q) :
    c'.Covers N P Q := fun e he => by
  obtain ⟨unlocked, unqueued, here⟩ := hc e he
  obtain ⟨here', none⟩ := h.order? he
  refine ⟨fun w hw => unlocked w (h.waiters.1 w hw), fun hQ w hw hwe => ?_, fun o ho => ?_⟩
  · obtain hN | ⟨x, hx, hxe⟩ := h.fwq w hw
    · exact he (hwe ▸ hN)
    · exact unqueued hQ x hx (hxe.trans hwe)
  · cases h0 : c.order? e with
    | none => rw [none h0] at ho; cases ho
    | some o0 =>
      obtain ⟨o1, ho1, alike⟩ := here' o0 h0
      rw [ho1] at ho
      cases ho
      exact hP _ _ alike (here o0 h0)

theorem Works.refl (c : Ctx) : Works N P Q F c c := fun _ _ => .refl

theorem Works.trans (h : Works N P Q F c c') (h' : Works N P Q F c' c'') : Works N P Q F c c'' := fun hP hc =>
  (h hP hc).trans (h' hP ((h hP hc).covers hP hc))

theorem Works.setOrder (c : Ctx) {e : EntryNo} (o : Order) (he : N e) (hf : o.stage = .fill → ∀ a b, F a b) :
    Works N P Q F c (c.setOrder e o) := fun _ _ => .order e o .refl he hf

theorem Works.modOrder (c : Ctx) {e : EntryNo} (k : Order → Order) (he : N e) (hA : ∀ a b, F a b) :
    Works N P Q F c (c.modOrder e k) := by
  unfold Ctx.modOrder
  split
  · exact .setOrder c _ he fun _ => hA
  · exact .refl c

theorem Works.report (c : Ctx) {e : EntryNo} {o o' : Order} (ho : c.order? e = some o) (ha : o.Alike o') :
    Works N P Q F c (c.setOrder e o') := fun _ _ => .report e o o' .refl ho ha

theorem Works.queues (h : c.QueuesMoved N F c c') : Works N P Q F c c' := fun _ _ => .queues .refl h

/-- A change of a frame that keeps its key, or frees it. -/
theorem Works.putFrame (c : Ctx) {f : FrameNo} {new : Frame} (hF : F (c.frame f) new)
    (hk : new.held = true → (c.frame f).held = true ∧ new.key = (c.frame f).key) :
    Works N P Q F c (c.putFrame f new) := fun _ _ => .frame f new .refl hF fun h => .inl (hk h)

theorem Works.modFrame (c : Ctx) (f : FrameNo) (k : Frame → Frame) (hF : F (c.frame f) (k (c.frame f)))
    (hk : (k (c.frame f)).held = true → (c.frame f).held = true ∧ (k (c.frame f)).key = (c.frame f).key) :
    Works N P Q F c (c.modFrame f k) := .putFrame c hF hk

/-- An entry is named, or holds no order but what `P` says. -/
theorem Works.at (e : EntryNo) (named : N e → Works N P Q F c c')
    (covered : (∀ o, c.order? e = some o → P o) → Works N P Q F c c') : Works N P Q F c c' := fun hP hc => by
  by_cases he : N e
  · exact named he hP hc
  · exact covered (hc e he).2.2 hP hc

theorem Works.foldl {α : Type} (k : Ctx → α → Ctx) (l : List α) (h : ∀ c a, a ∈ l → Works N P Q F c (k c a)) :
    ∀ c, Works N P Q F c (l.foldl k c) := by
  induction l with
  | nil => exact fun c => .refl c
  | cons a l ih =>
    exact fun c => (h c a (List.mem_cons_self ..)).trans (ih (fun c b hb => h c b (List.mem_cons_of_mem _ hb)) _)

theorem Works.forEntries (c : Ctx) (k : EntryNo → Ctx → Ctx) (h : ∀ e c, Works N P Q F c (k e c)) :
    Works N P Q F c (c.forEntries k) := Works.foldl (fun c e => k e c) _ (fun c e _ => h e c) c

theorem Works.forFrames (c : Ctx) (k : FrameNo → Ctx → Ctx) (h : ∀ f c, Works N P Q F c (k f c)) :
    Works N P Q F c (c.forFrames k) := Works.foldl (fun c f => k f c) _ (fun c f _ => h f c) c

/-! #### The end of an order -/

section Ends
variable (hU : ∀ (fr : Frame) (n : Nat), F fr { fr with uses := n })
include hU

theorem Works.dropUse (c : Ctx) (f : FrameNo) : Works N P Q F c (c.dropUse f) := .putFrame c (hU _ _) fun h => ⟨h, rfl⟩

theorem Ctx.finishOrder_steps (c : Ctx) {e : EntryNo} (code : Code) (n : Nat) (he : N e) :
    Steps N F c (c.finishOrder e code n) := by
  unfold Ctx.finishOrder
  split
  · exact .refl
  · next o _ =>
    split
    · exact .refl
    · have used : Steps N F c (match o.frame with | some f => c.dropUse f | none => c) := by
        cases o.frame with
        | none => exact .refl
        | some f => exact .frame f _ .refl (hU _ _) fun h => .inl ⟨h, rfl⟩
      have left {c1 : Ctx} (h : Steps N F c c1) : Steps N F c { c1 with
          fwq := c1.fwq.filter fun w => w.order ≠ e
          quiet := c1.quiet.filter fun q => q.order ≠ e
          waiters := c1.waiters.filter fun w => w.order ≠ e } :=
        h.queues ⟨rfl, fun w hw => .inr ⟨w, List.mem_of_mem_filter hw, rfl⟩,
          fun w hw => h.waiters.1 w (List.mem_of_mem_filter hw), fun _ => rfl⟩
      exact (left used).order e _ he fun h => nomatch h

theorem Works.finishOrder (c : Ctx) {e : EntryNo} (code : Code) (n : Nat) (he : N e) :
    Works N P Q F c (c.finishOrder e code n) := fun _ _ => c.finishOrder_steps hU code n he

theorem reexamineOne_steps {acc : Ctx × List Waiter} {w : Waiter} (hw : N w.order) (h0 : c.waiters ≠ [])
    (h : Steps N F c acc.1) : Steps N F c (reexamineOne acc w).1 := by
  obtain ⟨c1, kept⟩ := acc
  unfold reexamineOne
  dsimp only at h ⊢
  split
  · exact h.trans (c1.finishOrder_steps hU _ _ hw)
  · split
    · split
      · next locks _ =>
        have granted : Steps N F c { c1 with locks := locks } :=
          h.queues ⟨rfl, fun w hw => .inr ⟨w, hw, rfl⟩, h.waiters.1, fun h => absurd h h0⟩
        exact granted.trans (Ctx.finishOrder_steps hU _ _ _ hw)
      · exact h
    · exact h

omit hU in
/-- What a re-examination keeps are entries that it walked. -/
theorem reexamineOne_kept {acc : Ctx × List Waiter} {w x : Waiter} (hx : x ∈ (reexamineOne acc w).2) :
    x ∈ acc.2 ∨ x = w := by
  obtain ⟨c1, kept⟩ := acc
  unfold reexamineOne at hx
  dsimp only at hx
  repeat' split at hx
  all_goals simp_all

theorem Works.reexamine (c : Ctx) : Works N P Q F c c.reexamine := fun _ hc => by
  have walk : ∀ (l : List Waiter) (acc : Ctx × List Waiter), (∀ w ∈ l, w ∈ c.waiters) → (∀ w ∈ acc.2, w ∈ c.waiters) →
      Steps N F c acc.1 → Steps N F c (l.foldl reexamineOne acc).1 ∧ ∀ w ∈ (l.foldl reexamineOne acc).2, w ∈ c.waiters := by
    intro l
    induction l with
    | nil => exact fun acc _ hk h => ⟨h, hk⟩
    | cons w l ih =>
      intro acc hl hk h
      have hw := hl w (List.mem_cons_self ..)
      have named : N w.order := by_contra fun hn => (hc _ hn).1 w hw rfl
      refine ih _ (fun x hx => hl x (List.mem_cons_of_mem _ hx)) (fun x hx => ?_)
        (reexamineOne_steps hU named (List.ne_nil_of_mem hw) h)
      obtain hx | rfl := reexamineOne_kept hx
      · exact hk x hx
      · exact hw
  obtain ⟨steps, kept⟩ := walk c.waiters (c, []) (fun _ h => h) (by simp) .refl
  unfold Ctx.reexamine
  exact steps.queues ⟨rfl, fun w hw => .inr ⟨w, hw, rfl⟩, kept, fun _ => rfl⟩

theorem Works.endOrder (c : Ctx) {e : EntryNo} (code : Code) (n : Nat) (he : N e) :
    Works N P Q F c (c.endOrder e code n) := by
  have ended : Works N P Q F c (c.finishOrder e code n) := .finishOrder hU c code n he
  unfold Ctx.endOrder
  split
  · exact .refl c
  · split
    · exact .refl c
    · dsimp only
      split
      · split
        · exact ended.trans (.reexamine hU _)
        · exact ended
      · exact ended

omit hU in
/-- The end of an order that has ended does nothing. -/
theorem Ctx.endOrder_finished (c : Ctx) (e : EntryNo) (code : Code) (n : Nat)
    (h : ∀ o, c.order? e = some o → o.stage = .finish) : c.endOrder e code n = c := by
  unfold Ctx.endOrder
  split
  · rfl
  · next o ho => rw [if_pos (h o ho)]

theorem Works.endWaiters (c : Ctx) (test : Waiter → Bool) (code : Code) : Works N P Q F c (c.endWaiters test code) :=
  fun hP hc => by
    have named : ∀ w ∈ c.waiters, N w.order := fun w hw => by_contra fun hn => (hc _ hn).1 w hw rfl
    exact Works.foldl _ _ (fun c1 w hw => .finishOrder hU c1 code 0 (named w (List.mem_of_mem_filter hw))) c hP hc

/-! #### Reports to targets -/

theorem Works.settleCheck (hS : ∀ o, P o → o.Steady) (c : Ctx) (e : EntryNo) : Works N P Q F c (c.settleCheck e) := by
  refine .at e (fun he => ?_) fun steady => ?_
  · unfold Ctx.settleCheck
    repeat' split
    all_goals first | exact .refl c | exact .endOrder hU c _ _ he
  · have same : c.settleCheck e = c := by
      unfold Ctx.settleCheck
      split
      · rfl
      · next o ho =>
        split
        · rfl
        · next hs =>
          have hf := (o.isFormat_iff).mp (hS o (steady o ho) (not_not.mp hs))
          rw [hf]
    rw [same]
    exact .refl c

omit hU in
theorem Order.noteFailure_alike (o : Order) : o.Alike o.noteFailure := by
  unfold Order.noteFailure
  split <;> exact ⟨rfl, .inl rfl⟩

theorem Works.reportTargets (hS : ∀ o, P o → o.Steady) (c : Ctx) (f : FrameNo) (n a : Nat)
    (change : Target → TargetState) : Works N P Q F c (c.reportTargets f n a change) := by
  refine .forEntries c _ fun e c => ?_
  split
  · exact .refl c
  · next o ho =>
    dsimp only
    split
    · refine (Works.report c ho ?_).trans (.settleCheck hU hS _ e)
      generalize ho1 : ({ o with targets := _, highest := _ } : Order) = o1
      have told : o.Alike o1 := by rw [← ho1]; exact ⟨rfl, .inl rfl⟩
      split
      · exact told.trans o1.noteFailure_alike
      · exact told
    · exact .refl c

theorem Works.sectorSettled (hS : ∀ o, P o → o.Steady) (c : Ctx) (f : FrameNo) (n : Nat) (w : Word) (a : Nat) :
    Works N P Q F c (c.sectorSettled f n w a) := .reportTargets hU hS c _ _ _ _

theorem Works.sectorStranded (hS : ∀ o, P o → o.Steady) (c : Ctx) (f : FrameNo) (n : Nat) (x : StrandCause) (a : Nat) :
    Works N P Q F c (c.sectorStranded f n x a) := .reportTargets hU hS c _ _ _ _

end Ends

/-! #### Reports to the orders that wait -/

section Reports
variable (hQ : ∀ o, P o → o.Parked) (hA : ∀ a b, F a b)
include hQ

/-- An order in FILL is one that the steps name. -/
theorem Works.filling (e : EntryNo) {o : Order} (ho : c.order? e = some o) (hf : o.stage = .fill)
    (named : N e → Works N P Q F c c') : Works N P Q F c c' :=
  .at e named fun covered => absurd hf (hQ o (covered o ho)).not_fill

omit hQ in
theorem Order.waitsOn_fill {o : Order} {f : FrameNo} {n : Nat} (h : o.waitsOn f n = true) : o.stage = .fill := by
  simp only [Order.waitsOn, Bool.and_eq_true, beq_iff_eq] at h
  exact h.1

include hA

theorem Works.sectorFilled (c : Ctx) (f : FrameNo) (n a : Nat) : Works N P Q F c (c.sectorFilled f n a) := by
  refine .forEntries c _ fun e c => ?_
  split
  · exact .refl c
  · next o ho =>
    split
    · next hw => exact .filling hQ e ho (Order.waitsOn_fill hw) fun he => .setOrder c _ he fun _ => hA
    · exact .refl c

theorem Works.readFailed (c : Ctx) (f : FrameNo) (n a : Nat) (x : Outcome) : Works N P Q F c (c.readFailed f n a x) := by
  refine .forEntries c _ fun e c => ?_
  split
  · exact .refl c
  · next o ho =>
    split
    · next hw => exact .filling hQ e ho (Order.waitsOn_fill hw) fun he => .setOrder c _ he fun _ => hA
    · exact .refl c

omit hQ in
theorem Works.unreadable (c : Ctx) {e : EntryNo} (b : Nat) (x : Bool) (he : N e) : Works N P Q F c (c.unreadable e b x) := by
  unfold Ctx.unreadable
  repeat' split
  all_goals first
    | exact .refl c
    | exact .setOrder c _ he fun _ => hA
    | exact .endOrder (fun _ _ => hA _ _) c _ _ he

theorem Works.sectorBad (c : Ctx) (f : FrameNo) (n a : Nat) : Works N P Q F c (c.sectorBad f n a) := by
  refine .forEntries c _ fun e c => ?_
  split
  · exact .refl c
  · next o ho =>
    split
    · next hw =>
      split
      · exact .refl c
      · exact .filling hQ e ho (Order.waitsOn_fill hw) fun he => (Works.setOrder c _ he fun _ => hA).trans (.unreadable hA _ _ _ he)
    · exact .refl c

theorem Works.frameDiscarded (c : Ctx) (f : FrameNo) : Works N P Q F c (c.frameDiscarded f) := by
  refine .forEntries c _ fun e c => ?_
  split
  · exact .refl c
  · next o ho =>
    split
    · exact .refl c
    · split
      · exact .report c ho ⟨rfl, .inl rfl⟩
      · next hk =>
        refine .at e (fun he => .endOrder (fun _ _ => hA _ _) c _ _ he) fun covered => ?_
        obtain hf | ⟨hf, _⟩ := hQ o (covered o ho)
        · rw [c.endOrder_finished e _ _ fun o' ho' => by rw [ho] at ho'; cases ho'; exact hf]
          exact .refl c
        · exact absurd (o.isFormat_iff.mp hf) hk

/-! #### Wants and steps at a frame -/

omit hQ in
/-- A change of the records of a frame alone. -/
theorem Works.modSector (c : Ctx) (f : FrameNo) (n : Nat) (k : Sector → Sector) : Works N P Q F c (c.modSector f n k) :=
  .putFrame c (hA _ _) fun h => ⟨h, rfl⟩

omit hQ in
theorem Works.want (c : Ctx) (f : FrameNo) (n : Nat) (a b : Bool) : Works N P Q F c (c.want f n a b).2 := by
  unfold Ctx.want
  dsimp only
  split
  · exact .putFrame c (hA _ _) fun h => ⟨h, rfl⟩
  · exact .refl c

omit hQ in
theorem Works.wantBlock (c : Ctx) {e : EntryNo} (b : Nat) (he : N e) : Works N P Q F c (c.wantBlock e b) := by
  unfold Ctx.wantBlock
  split
  · exact .refl c
  · next o _ =>
    split
    · next f _ _ =>
      have wanted : Works N P Q F c (c.want f (o.geometry.sector b) o.fields.fresh o.fields.rush).2 := .want hA c _ _ _ _
      dsimp only
      split
      · exact wanted
      · exact wanted.trans (.modOrder _ _ he hA)
      · exact wanted.trans (.unreadable hA _ _ _ he)
    · exact .refl c

omit hQ in
theorem Works.wantBlocks (c : Ctx) {e : EntryNo} (bs : List Nat) (he : N e) : Works N P Q F c (c.wantBlocks e bs) :=
  Works.foldl _ _ (fun c b _ => .wantBlock hA c b he) c

omit hQ in
theorem Works.copyOut {c c1 : Ctx} {f : FrameNo} {a n : Nat} {x : Option Byte} {bytes : List Byte} {given : List Nat}
    (h : c.copyOut f a n x = .ok (bytes, given, c1)) : Works N P Q F c c1 := by
  unfold Ctx.copyOut at h
  dsimp only at h
  split at h
  · cases h
    exact .putFrame c (hA _ _) fun h => ⟨h, rfl⟩
  · cases h

theorem Works.mergeBytes (c : Ctx) (f : FrameNo) (a : Nat) (bytes : List Byte) (x y : Bool) :
    Works N P Q F c (c.mergeBytes f a bytes x y).2 := by
  unfold Ctx.mergeBytes
  dsimp only
  refine Works.trans (Works.putFrame c (hA _ _) ?_) (.foldl _ _ (fun c n _ => .sectorFilled hQ hA c f n 0) _)
  exact fun h => ⟨h, rfl⟩

theorem Works.merge {c c1 : Ctx} {f : FrameNo} {a : Nat} {bytes : List Byte} {x y : Bool} {touched : List Touched}
    (h : c.merge f a bytes x y = .ok (touched, c1)) : Works N P Q F c c1 := by
  have merged := Works.mergeBytes (N := N) (Q := Q) hQ hA c f a bytes x y
  unfold Ctx.merge at h
  dsimp only at h
  split at h
  · injection h with h
    rw [h] at merged
    exact merged
  · cases h

theorem Works.exchange {c c1 : Ctx} {f : FrameNo} {a : Nat} {bytes old : List Byte} {z : Option Byte} {x y : Bool}
    {given : List Nat} {touched : List Touched}
    (h : c.exchange f a bytes z x y = .ok (old, given, touched, c1)) : Works N P Q F c c1 := by
  have merged := Works.mergeBytes (N := N) (Q := Q) hQ hA c f a bytes x y
  unfold Ctx.exchange at h
  dsimp only at h
  split at h
  · cases h
    exact merged
  · cases h

/-! #### Frames for orders -/

omit hQ in
theorem Works.grantHeld (c : Ctx) {e : EntryNo} (f : FrameNo) (he : N e) : Works N P Q F c (c.grantHeld e f) :=
  (Works.modFrame c f _ (hA _ _) fun h => ⟨h, rfl⟩).trans (.modOrder _ _ he hA)

omit hQ in
/-- A frame is allocated for a key that the store does not refuse. -/
theorem Works.grantNew (c : Ctx) {e : EntryNo} {f : FrameNo} {k : Key} {g : Half} (he : N e)
    (ok : c.frameRefusal k.drive g = none) : Works N P Q F c (c.grantNew e f k) := by
  have served : (c.drive k.drive).layoutKnown = true ∧ (c.drive k.drive).state = .ready := by
    simp only [State.frameRefusal] at ok
    split at ok
    · cases ok
    · next h => simpa using h
  unfold Ctx.grantNew
  dsimp only
  split
  · exact .refl c
  · exact Works.trans (fun _ _ => .frame f _ .refl (hA _ _) fun _ => .inr served) (.modOrder _ _ he hA)

omit hQ in
theorem Works.requestFrame (c : Ctx) {e : EntryNo} (he : N e) : Works N P Q F c (c.requestFrame e) := by
  have join (w : Waiting) (hw : w.order = e) : Works N P Q F c { c with fwq := c.fwq ++ [w] } :=
    .queues ⟨rfl, fun x hx => by
      obtain hx | hx := List.mem_append.mp hx
      · exact .inr ⟨x, hx, rfl⟩
      · rw [List.mem_singleton.mp hx, hw]; exact .inl ⟨he, hA⟩, fun _ h => h, fun _ => rfl⟩
  have ends := fun code n => Works.endOrder (N := N) (P := P) (Q := Q) (F := F) (fun _ _ => hA _ _) c code n he
  unfold Ctx.requestFrame
  split
  · exact .refl c
  · split
    · exact .refl c
    · split
      · exact ends _ _
      · split
        · exact ends _ _
        · next ok =>
          split
          · exact .grantHeld hA c _ he
          · dsimp only
            split
            · split
              · exact .grantNew hA c he ok
              · exact join _ rfl
            · exact join _ rfl

omit hQ in
theorem Works.startTrack (c : Ctx) {e : EntryNo} (t : Nat) (he : N e) : Works N P Q F c (c.startTrack e t) :=
  (Works.modOrder c _ he hA).trans (.requestFrame hA _ he)

omit hQ in
theorem Works.serveOne {acc : Ctx × Bool} {w : Waiting} (he : N w.order) :
    Works N P Q F acc.1 (serveOne acc w).1 := by
  obtain ⟨c, blocked⟩ := acc
  have gone : Works N P Q F c { c with fwq := c.fwq.filter fun x => x.order ≠ w.order } :=
    .queues ⟨rfl, fun x hx => .inr ⟨x, List.mem_of_mem_filter hx, rfl⟩, fun _ h => h, fun _ => rfl⟩
  unfold Machine.serveOne
  dsimp only
  split
  · exact gone.trans (.endOrder (fun _ _ => hA _ _) _ _ _ he)
  · next ok =>
    split
    · exact gone.trans (.grantHeld hA _ _ he)
    · split
      · exact .refl c
      · split
        · exact gone.trans (.grantNew hA _ he ok)
        · exact .refl c

omit hQ in
/-- The Frame Wait Queue is served: the entries that the steps do not name are not in it. -/
theorem Works.serveQueue (hF : Q) (c : Ctx) : Works N P Q F c c.serveQueue := fun hP hc => by
  have named : ∀ w ∈ c.fwq, N w.order := fun w hw => by_contra fun hn => (hc _ hn).2.1 hF w hw rfl
  have walk : ∀ (l : List Waiting) (acc : Ctx × Bool), (∀ w ∈ l, N w.order) →
      Works N P Q F acc.1 (l.foldl Machine.serveOne acc).1 := by
    intro l
    induction l with
    | nil => exact fun acc _ => .refl acc.1
    | cons w l ih =>
      exact fun acc hl => (Works.serveOne hA (hl w (List.mem_cons_self ..))).trans
        (ih _ fun x hx => hl x (List.mem_cons_of_mem _ hx))
  have start : Works N P Q F c { c with serve := false } :=
    .queues ⟨rfl, fun w hw => .inr ⟨w, hw, rfl⟩, fun _ h => h, fun _ => rfl⟩
  exact start.trans (walk c.fwq ({ c with serve := false }, false) named) hP hc

/-! #### The cascade -/

omit hQ in
theorem Works.concludeWrite (hS : ∀ o, P o → o.Steady) (c : Ctx) {e : EntryNo} (he : N e) :
    Works N P Q F c (c.concludeWrite e) := by
  have ends := fun code n => Works.endOrder (N := N) (P := P) (Q := Q) (F := F) (fun _ _ => hA _ _) c code n he
  unfold Ctx.concludeWrite
  split
  · exact .refl c
  · split
    · exact ends _ _
    · split
      · exact ends _ _
      · exact (Works.setOrder c _ he fun _ => hA).trans (.settleCheck (fun _ _ => hA _ _) hS _ e)

theorem Works.orderStep (c : Ctx) {e : EntryNo} (he : N e) : Works N P Q F c (c.orderStep e) := by
  have hU : ∀ (fr : Frame) (n : Nat), F fr { fr with uses := n } := fun _ _ => hA _ _
  have drop (c : Ctx) (f : FrameNo) (o : Order) : Works N P Q F c ((c.setOrder e o).dropUse f) :=
    (Works.setOrder c o he fun _ => hA).trans (.dropUse hU _ f)
  unfold Ctx.orderStep
  split
  · exact .refl c
  · split
    · dsimp only
      split
      · exact .endOrder hU c _ _ he
      · split
        · split
          · exact .wantBlocks hA c _ he
          · next h => exact (Works.copyOut hA h).trans (drop _ _ _)
        · split
          · exact .wantBlocks hA c _ he
          · next h =>
            split
            · exact ((Works.merge hQ hA h).trans (drop _ _ _)).trans (.startTrack hA _ _ he)
            · exact ((Works.merge hQ hA h).trans (drop _ _ _)).trans
                (.concludeWrite hA (fun o ho => (hQ o ho).steady) _ he)
        · split
          · exact .wantBlocks hA c _ he
          · next h => exact (Works.exchange hQ hA h).trans (drop _ _ _)
        · exact .refl c
    · exact .refl c

theorem Works.advance (c : Ctx) {e : EntryNo} (he : N e) : Works N P Q F c (c.advance e) := by
  unfold Ctx.advance
  split
  · exact .refl c
  · split
    · exact (Works.setOrder c _ he fun _ => hA).trans (.wantBlocks hA _ _ he)
    · exact .orderStep hQ hA c he

omit hQ hA in
/-- An order that can go on is in FILL. -/
theorem State.readyOrder_fill {s : State} {e : EntryNo} (h : s.readyOrder? = some e) :
    ∃ o, s.order? e = some o ∧ o.stage = .fill := by
  have ready := List.find?_some h
  split at ready
  · next o ho => exact ⟨o, ho, by simp at ready; exact ready.1⟩
  · cases ready

theorem Works.cascadeN (hF : Q) : ∀ (n : Nat) (c : Ctx), Works N P Q F c (c.cascadeN n)
  | 0, c => .refl c
  | n + 1, c => by
    unfold Ctx.cascadeN
    split
    · next e h =>
      obtain ⟨o, ho, hf⟩ := State.readyOrder_fill h
      exact (Works.filling hQ e ho hf fun he => .advance hQ hA c he).trans (cascadeN hF n _)
    · split
      · exact (Works.serveQueue hA hF c).trans (cascadeN hF n _)
      · exact .refl c

theorem Works.cascade (hF : Q) (c : Ctx) : Works N P Q F c c.cascade := .cascadeN hQ hA hF _ c

/-! #### Attempts and discards -/

theorem Works.readOutcome (c : Ctx) (k : Key) (n a : Nat) (x : Outcome) (b : List Byte) :
    Works N P Q F c (c.readOutcome k n a x b) := by
  unfold Ctx.readOutcome
  split
  · exact .refl c
  · split
    · exact .refl c
    · split
      · refine Works.trans (Works.putFrame c (hA _ _) ?_) (.sectorFilled hQ hA _ _ _ _)
        exact fun h => ⟨h, rfl⟩
      · split
        · split
          · exact (Works.readFailed hQ hA c _ _ _ _).trans (.modSector hA _ _ _ _)
          · exact ((Works.readFailed hQ hA c _ _ _ _).trans (.modSector hA _ _ _ _)).trans (.sectorBad hQ hA _ _ _ _)
        · exact .modSector hA c _ _ _

theorem Works.settleWrite (c : Ctx) (f : FrameNo) (n a : Nat) : Works N P Q F c (c.settleWrite f n a) := by
  unfold Ctx.settleWrite
  split
  · exact .refl c
  · exact Works.trans (.modSector hA c f n _) (.sectorSettled (fun _ _ => hA _ _) (fun o ho => (hQ o ho).steady) _ _ _ _ _)

theorem Works.strandSector (c : Ctx) (f : FrameNo) (n : Nat) (x : StrandCause) (b : Bool) (a : Nat) :
    Works N P Q F c (c.strandSector f n x b a) := by
  unfold Ctx.strandSector
  split
  · exact .refl c
  · exact Works.trans (.modSector hA c f n _) (.sectorStranded (fun _ _ => hA _ _) (fun o ho => (hQ o ho).steady) _ _ _ _ _)

theorem Works.writeOutcome (c : Ctx) (k : Key) (n a : Nat) (x : Outcome) (w : Half) :
    Works N P Q F c (c.writeOutcome k n a x w) := by
  unfold Ctx.writeOutcome
  split
  · exact .refl c
  · split
    · exact .refl c
    · split
      · dsimp only
        split
        · exact (Works.modSector hA c _ _ _).trans (.modSector hA _ _ _ _)
        · exact (Works.modSector hA c _ _ _).trans (.settleWrite hQ hA _ _ _ _)
      · split
        · split
          · exact .modSector hA c _ _ _
          · exact .strandSector hQ hA c _ _ _ _ _
        · exact .refl c

theorem Works.checkOutcome (c : Ctx) (k : Key) (n a : Nat) (x : Outcome) :
    Works N P Q F c (c.checkOutcome k n a x) := by
  unfold Ctx.checkOutcome
  split
  · exact .refl c
  · split
    · exact .refl c
    · split
      · exact .settleWrite hQ hA c _ _ _
      · split
        · split
          · exact .modSector hA c _ _ _
          · exact .strandSector hQ hA c _ _ _ _ _
        · exact .modSector hA c _ _ _

theorem Works.reportOutcome (c : Ctx) (p : PortNo) (r : Request) (x : Outcome) :
    Works N P Q F c (c.reportOutcome p r x) := by
  unfold Ctx.reportOutcome
  dsimp only
  split
  · exact .readOutcome hQ hA c _ _ _ _ _
  · exact .writeOutcome hQ hA c _ _ _ _ _
  · exact .checkOutcome hQ hA c _ _ _ _
  all_goals exact .refl c

theorem Works.discard (c : Ctx) (k : Key) : Works N P Q F c (c.discard k).2 := by
  unfold Ctx.discard
  split
  · exact .refl c
  · next f _ =>
    split
    · have freed (f : FrameNo) : Works N P Q F c (c.freeFrame f) := by
        refine .modFrame c f _ (hA _ _) fun h => ?_
        exact absurd h Bool.false_ne_true
      have told : Works N P Q F (c.freeFrame f) ((c.freeFrame f).frameDiscarded f) := .frameDiscarded hQ hA _ f
      dsimp only
      exact (freed f).trans told
    · exact .refl c

end Reports

theorem Works.waitQuiet (c : Ctx) (e : EntryNo) (k : Key) : Works N P Q F c (c.waitQuiet e k) := by
  unfold Ctx.waitQuiet
  split
  · exact .queues ⟨rfl, fun w hw => .inr ⟨w, hw, rfl⟩, fun _ h => h, fun _ => rfl⟩
  · exact .refl c

end Works
end Sys2Proof.Machine

-- ==== Sys2Proof/Proofs/Jobs.lean ====
namespace Sys2Proof.Machine

open Sys2Proof

/-! ### What a post and the end of a track job change (R94) -/

/-- Of drive `v` the scheduler and the marks change, of the orders what a freed job slot tells them, and nothing else but the pick
points. -/
structure Ctx.Jobs (v : DriveNo) (c c' : Ctx) : Prop where
  rest : c' = { c with drives := c'.drives, table := c'.table, picks := c'.picks }
  others : ∀ w, w ≠ v → c'.drive w = c.drive w
  drive : c'.drive v = { c.drive v with sched := (c'.drive v).sched, health := (c'.drive v).health }
  counters : (c'.drive v).health.counters = (c.drive v).health.counters
  orders : ∀ e, (∀ o, c.order? e = some o → ∃ o', c'.order? e = some o' ∧ o.Alike o')
    ∧ (c.order? e = none → c'.order? e = none)

section Jobs
variable {v : DriveNo} {c c' c'' : Ctx}

theorem Ctx.Jobs.refl (v : DriveNo) (c : Ctx) : c.Jobs v c :=
  ⟨rfl, fun _ _ => rfl, rfl, rfl, fun _ => ⟨fun o ho => ⟨o, ho, .refl o⟩, fun h => h⟩⟩

theorem Ctx.Jobs.trans (h : c.Jobs v c') (h' : c'.Jobs v c'') : c.Jobs v c'' where
  rest := by rw [h'.rest, h.rest]
  others w hw := (h'.others w hw).trans (h.others w hw)
  drive := by rw [h'.drive, h.drive]
  counters := h'.counters.trans h.counters
  orders e := by
    refine ⟨fun o ho => ?_, fun hn => (h'.orders e).2 ((h.orders e).2 hn)⟩
    obtain ⟨o1, ho1, a1⟩ := (h.orders e).1 o ho
    obtain ⟨o2, ho2, a2⟩ := (h'.orders e).1 o1 ho1
    exact ⟨o2, ho2, a1.trans a2⟩

theorem Ctx.Jobs.channels (h : c.Jobs v c') : c'.channels = c.channels := by rw [h.rest]
theorem Ctx.Jobs.rounds (h : c.Jobs v c') : c'.rounds = c.rounds := by rw [h.rest]
theorem Ctx.Jobs.frames (h : c.Jobs v c') : c'.frames = c.frames := by rw [h.rest]
theorem Ctx.Jobs.ctl (h : c.Jobs v c') : c'.ctl = c.ctl := by rw [h.rest]
theorem Ctx.Jobs.state (h : c.Jobs v c') : (c'.drive v).state = (c.drive v).state := by rw [h.drive]

theorem Ctx.modSched_jobs (c : Ctx) (v : DriveNo) (k : Sched → Sched) : c.Jobs v (c.modSched v k) :=
  ⟨rfl, fun w hw => by rw [Ctx.modSched, Ctx.modDrive, Ctx.setDrive_drive, if_neg hw],
    by simp [Ctx.modSched, Ctx.modDrive], by simp [Ctx.modSched, Ctx.modDrive],
    fun _ => ⟨fun o ho => ⟨o, ho, .refl o⟩, fun h => h⟩⟩

theorem Ctx.raiseMarks_jobs (c : Ctx) (v : DriveNo) : c.Jobs v (c.raiseMarks v) :=
  ⟨rfl, fun w hw => by rw [Ctx.raiseMarks, Ctx.modDrive, Ctx.setDrive_drive, if_neg hw],
    by simp [Ctx.raiseMarks, Ctx.modDrive], by simp [Ctx.raiseMarks, Ctx.modDrive, Health.raise],
    fun _ => ⟨fun o ho => ⟨o, ho, .refl o⟩, fun h => h⟩⟩

theorem Ctx.flagPick_eq (c : Ctx) (v : DriveNo) : c.flagPick v = { c with picks := (c.flagPick v).picks } := by
  unfold Ctx.flagPick
  split <;> rfl

@[simp] theorem Ctx.flagPick_drive (c : Ctx) (v w : DriveNo) : (c.flagPick v).drive w = c.drive w := by
  rw [c.flagPick_eq v]

theorem Ctx.flagPick_jobs (c : Ctx) (v : DriveNo) : c.Jobs v (c.flagPick v) := by
  rw [c.flagPick_eq v]
  exact ⟨rfl, fun _ _ => rfl, rfl, rfl, fun _ => ⟨fun o ho => ⟨o, ho, .refl o⟩, fun h => h⟩⟩

theorem Ctx.postJob_jobs (c : Ctx) (v : DriveNo) (j : Job) : c.Jobs v (c.postJob v j).2 := by
  unfold Ctx.postJob
  dsimp only
  split
  · exact .refl v c
  · split
    · exact .refl v c
    · split
      · split
        · exact .refl v c
        · dsimp only
          exact c.modSched_jobs v _
      · exact ((c.modSched_jobs v _).trans (Ctx.raiseMarks_jobs _ v)).trans (Ctx.flagPick_jobs _ v)

/-- A RECAL post in a drive state that takes none changes nothing. -/
theorem Ctx.recalRequest_untaken (c : Ctx) (v : DriveNo) (h : (c.drive v).state.takesRecal = false) :
    c.recalRequest v = c := by
  simp [Ctx.recalRequest, Ctx.postJob, h]

theorem Ctx.recalRequest_jobs (c : Ctx) (v : DriveNo) : c.Jobs v (c.recalRequest v) := c.postJob_jobs v _

theorem Ctx.postDiscover_jobs (c : Ctx) (v : DriveNo) : c.Jobs v (c.postDiscover v) := c.postJob_jobs v _

theorem Ctx.modOrder_jobs (c : Ctx) (v : DriveNo) (e : EntryNo) (k : Order → Order) (hk : ∀ o : Order, o.Alike (k o)) :
    c.Jobs v (c.modOrder e k) := by
  unfold Ctx.modOrder
  split
  · next o ho =>
    refine ⟨rfl, fun _ _ => rfl, rfl, rfl, fun e' => ?_⟩
    rw [Ctx.setOrder_order?]
    split
    · next he =>
      subst he
      exact ⟨fun o1 ho1 => ⟨k o, rfl, by rw [ho] at ho1; cases ho1; exact hk o⟩, fun h => by rw [ho] at h; cases h⟩
    · exact ⟨fun o ho => ⟨o, ho, .refl o⟩, fun h => h⟩
  · exact .refl v c

theorem Ctx.slotFreeTo_jobs (c : Ctx) (v : DriveNo) (r : Requester) : c.Jobs v (c.slotFreeTo v r) := by
  unfold Ctx.slotFreeTo
  split
  · split
    · exact c.postDiscover_jobs v
    · exact .refl v c
  · refine c.modOrder_jobs v _ _ fun o => ?_
    split
    · next h => exact ⟨rfl, .inr ⟨h, rfl⟩⟩
    · exact .refl o
  all_goals exact .refl v c

/-- A requester told of a free slot leaves the drive as it was, but for discovery's own post. -/
theorem Ctx.slotFreeTo_drive (c : Ctx) (v : DriveNo) (r : Requester)
    (h : r = .driveControl → (c.drive v).state ≠ .discovery) : (c.slotFreeTo v r).drive v = c.drive v := by
  unfold Ctx.slotFreeTo
  split
  · rw [if_neg (h rfl)]
  · unfold Ctx.modOrder
    split <;> rfl
  all_goals rfl

theorem Ctx.slotFrees_jobs (v : DriveNo) (rs : List Requester) :
    ∀ c : Ctx, c.Jobs v (rs.foldl (fun c r => c.slotFreeTo v r) c) := by
  induction rs with
  | nil => exact fun c => .refl v c
  | cons r rs ih => exact fun c => (c.slotFreeTo_jobs v r).trans (ih _)

theorem Ctx.jobEnded_jobs (c : Ctx) (v : DriveNo) : c.Jobs v (c.jobEnded v) :=
  (c.modSched_jobs v _).trans (Ctx.slotFrees_jobs v _ _)

/-- The end of a track job frees the slot, where discovery does not post at once. -/
theorem Ctx.jobEnded_drive (c : Ctx) (v : DriveNo)
    (h : .driveControl ∈ (c.drive v).sched.busy → (c.drive v).state ≠ .discovery) :
    (c.jobEnded v).drive v = { c.drive v with sched := { (c.drive v).sched with job := none, busy := [] } } := by
  have told : ∀ (rs : List Requester) (c : Ctx), (.driveControl ∈ rs → (c.drive v).state ≠ .discovery) →
      (rs.foldl (fun c r => c.slotFreeTo v r) c).drive v = c.drive v := by
    intro rs
    induction rs with
    | nil => exact fun _ _ => rfl
    | cons r rs ih =>
      intro c h
      have first : (c.slotFreeTo v r).drive v = c.drive v :=
        c.slotFreeTo_drive v r fun hr => h (hr ▸ List.mem_cons_self ..)
      rw [List.foldl_cons, ih _ fun hm => by rw [first]; exact h (List.mem_cons_of_mem _ hm), first]
  unfold Ctx.jobEnded
  dsimp only
  rw [told _ _ (by simpa [Ctx.modSched, Ctx.modDrive] using h)]
  simp [Ctx.modSched, Ctx.modDrive]

/-- The job that stands in the slot after a post by discovery, or while none was made: none, or a DISCOVER job. -/
def Sched.noneOrDiscover (x : Sched) : Prop := ∀ j, x.job = some j → j.kind = .discover

theorem Ctx.postDiscover_noneOrDiscover (c : Ctx) (v : DriveNo) (h : (c.drive v).sched.noneOrDiscover) :
    ((c.postDiscover v).drive v).sched.noneOrDiscover := by
  unfold Ctx.postDiscover Ctx.postJob
  dsimp only
  split
  · exact h
  · split
    · exact h
    · split
      · split
        · exact h
        · simpa [Ctx.modSched, Ctx.modDrive, Sched.noneOrDiscover] using h
      · simp [Ctx.modSched, Ctx.raiseMarks, Ctx.modDrive, Sched.noneOrDiscover]

/-- After the end of a track job the slot is free, or discovery has posted. -/
theorem Ctx.jobEnded_noneOrDiscover (c : Ctx) (v : DriveNo) : ((c.jobEnded v).drive v).sched.noneOrDiscover := by
  have told : ∀ (rs : List Requester) (c : Ctx), (c.drive v).sched.noneOrDiscover →
      ((rs.foldl (fun c r => c.slotFreeTo v r) c).drive v).sched.noneOrDiscover := by
    intro rs
    induction rs with
    | nil => exact fun _ h => h
    | cons r rs ih =>
      intro c h
      refine ih _ ?_
      by_cases hr : r = .driveControl ∧ (c.drive v).state = .discovery
      · obtain ⟨rfl, hs⟩ := hr
        have posts : c.slotFreeTo v .driveControl = c.postDiscover v := by simp [Ctx.slotFreeTo, hs]
        simp only [posts]
        exact c.postDiscover_noneOrDiscover v h
      · rw [c.slotFreeTo_drive v r fun h1 h2 => hr ⟨h1, h2⟩]
        exact h
  refine told _ _ ?_
  simp [Ctx.modSched, Ctx.modDrive, Sched.noneOrDiscover]

end Jobs
end Sys2Proof.Machine

-- ==== Sys2Proof/Proofs/Picks.lean ====
namespace Sys2Proof.Machine

open Sys2Proof

/-! ### What release rounds and picks do, as steps -/

theorem bestOf_mem {xs : List Ranked} {b : Ranked} (h : bestOf xs = some b) : b ∈ xs := by
  have key : ∀ (l : List Ranked) (best : Option Ranked), (∀ y, best = some y → y ∈ xs) → (∀ y ∈ l, y ∈ xs) →
      ∀ y, l.foldl (fun best x => match best with
        | none => some x
        | some b => if keysBefore x.keys b.keys then some x else some b) best = some y → y ∈ xs := by
    intro l
    induction l with
    | nil => exact fun _ hb _ => hb
    | cons x l ih =>
      intro best hb hl
      refine ih _ (fun y hy => ?_) fun y hy => hl y (List.mem_cons_of_mem _ hy)
      have here := hl x (List.mem_cons_self ..)
      dsimp only at hy
      split at hy
      · cases hy; exact here
      · next b hbest =>
        split at hy
        · cases hy; exact here
        · exact hb y (by rw [← hy])
  exact key xs none (by simp) (fun _ h => h) b h

/-- What a pick chooses is a served candidate, on the drive's cylinder or to be moved to (R99). -/
theorem State.pick_served {s : State} {v : DriveNo} {t : Option Place} {x : Cand} :
    (s.pick v t = .move x → x ∈ s.served v ∧ x.place.cylinder ≠ (s.drive v).cylinder)
      ∧ ∀ cost overdue armPick, s.pick v t = .file x cost overdue armPick → x ∈ s.served v := by
  have best {on : Bool} {l : List Cand} {b : Ranked} (hl : ∀ y ∈ l, y ∈ s.served v)
      (hb : bestOf (l.map (s.rank v on t)) = some b) : b.cand ∈ s.served v := by
    obtain ⟨y, hy, rfl⟩ := List.mem_map.mp (bestOf_mem hb)
    exact hl y hy
  unfold State.pick
  dsimp only
  split
  · simp
  · split
    · simp
    · split
      · simp
      · next b hb =>
        have served : b.cand ∈ s.served v := by
          refine best (fun y hy => ?_) hb
          split at hy
          · exact hy
          · exact List.mem_of_mem_filter hy
        split
        · exact ⟨fun h => (nomatch h), fun _ _ _ h => by cases h; exact served⟩
        · next hon => exact ⟨fun h => by cases h; exact ⟨served, by simpa using hon⟩, fun _ _ _ h => (nomatch h)⟩

/-- A RECAL job comes first in a pick (R98). -/
theorem State.pick_recal {s : State} {v : DriveNo} {t : Option Place} (h : s.pick v t = .recal) :
    ∃ x ∈ s.served v, x.kind = .recal := by
  unfold State.pick at h
  dsimp only at h
  split at h
  · cases h
  · split at h
    · next hr => simpa using hr
    · split at h
      · cases h
      · split at h <;> cases h

theorem State.pick_nothing {s : State} {v : DriveNo} {t : Option Place} (h : s.served v = []) :
    s.pick v t = .nothing := by
  simp [State.pick, h]

/-- A RECAL candidate is the drive's track job, pending (R93). -/
theorem State.served_recal {s : State} {v : DriveNo} (h : ∃ x ∈ s.served v, x.kind = .recal) :
    ∃ j, (s.drive v).sched.job = some j ∧ j.kind = .recal := by
  obtain ⟨x, hx, hk⟩ := h
  have cand := List.mem_of_mem_filter hx
  unfold State.cands at cand
  obtain hf | hj := List.mem_append.mp cand
  · obtain ⟨l, hl, hxl⟩ := List.mem_flatten.mp hf
    obtain ⟨fr, _, rfl⟩ := List.mem_map.mp hl
    unfold Frame.cands at hxl
    obtain ⟨i, _, hi⟩ := List.mem_filterMap.mp hxl
    split at hi
    · cases hi
    · next y _ =>
      obtain ⟨k, hck, rfl⟩ := Option.map_eq_some_iff.mp hi
      unfold candKind at hck
      split at hck <;> cases hck <;> cases hk
  · split at hj
    · next j hj' =>
      split at hj
      · cases hj
      · exact ⟨j, hj', by rw [List.mem_singleton.mp hj] at hk; exact hk⟩
    · cases hj

/-- A pick of a RECAL job is acted on (R103). -/
def Ctx.recalPick (c : Ctx) (v : DriveNo) : Ctx :=
  let c1 := (c.withdraw v).modSched v fun x => { x with
    state := .recalibrating, idle := 0, job := x.job.map fun j => { j with running := true } }
  c1.startRecal v (some (c1.drive v).cylinder)

/-- A pick of a candidate on another cylinder is acted on (R99). -/
def Ctx.movePick (c : Ctx) (v : DriveNo) (x : Cand) : Ctx :=
  let c1 := (c.leaveQuiet v).modSched v fun y => { y with state := .moving, target := some x.place }
  let c2 := if (c1.drive v).unloaded then c1.loadRequest v else c1
  c2.startSeek v x.place.cylinder false

/-- A pick of a candidate on the drive's cylinder is acted on, but for its filing (R99 to R101). -/
def Ctx.filePick (c : Ctx) (v : DriveNo) (x : Cand) (armPick : Bool) : Ctx :=
  let c1 := (c.leaveQuiet v).modSched v fun y => { y with target := if armPick then some x.place else y.target }
  if (c1.drive v).unloaded then c1.loadRequest v else c1

/-- A release round closes (R42). -/
def Ctx.closeRound (c : Ctx) (p : PortNo) : Ctx :=
  c.setChan p { c.chan p with pendLow := none, pendHigh := none, roundOpen := false }

/-- Release rounds of the ports `ps`, and picks, in turn. -/
inductive Picked (ps : List PortNo) (c : Ctx) : Ctx → Prop
  | refl : Picked ps c c
  | lists {c' : Ctx} (picks : List DriveNo) (rounds : List PortNo) : Picked ps c c' →
      Picked ps c { c' with picks := picks, rounds := rounds }
  | quiet {c' : Ctx} (v : DriveNo) : Picked ps c c' → Picked ps c (c'.modSched v fun x => { x with state := .quiet })
  | recal {c' : Ctx} (v : DriveNo) : Picked ps c c' → (∃ x ∈ c'.served v, x.kind = .recal) → (c'.drive v).arm = .free →
      Picked ps c (c'.recalPick v)
  | move {c' : Ctx} (v : DriveNo) (x : Cand) : Picked ps c c' → x ∈ c'.served v →
      x.place.cylinder ≠ (c'.drive v).cylinder → (c'.drive v).arm = .free → Picked ps c (c'.movePick v x)
  | file {c' : Ctx} (v : DriveNo) (x : Cand) (armPick : Bool) (r : Request) : Picked ps c c' → x ∈ c'.served v →
      r.drive = v → r.kind = x.kind → Picked ps c ((c'.filePick v x armPick).fileRequest r)
  | close {c' : Ctx} (p : PortNo) : Picked ps c c' → p ∈ ps → Picked ps c (c'.closeRound p)
  | grant {c' : Ctx} (p : PortNo) (r : Request) : Picked ps c c' → p ∈ ps →
      (c'.chan p).pendLow = some r ∨ (c'.chan p).pendHigh = some r → Picked ps c ((c'.closeRound p).grant p r)

section Picked
variable {ps : List PortNo} {c c' : Ctx}

theorem Picked.pickN : ∀ (n : Nat) {c' : Ctx} (v : DriveNo) (t : Option Place), Picked ps c c' → Picked ps c (c'.pickN n v t)
  | 0, _, _, _, h => h
  | n + 1, c', v, t, h => by
    unfold Ctx.pickN
    dsimp only
    split
    · exact h.quiet v
    · next hp =>
      split
      · next ha =>
        have act : Picked ps c (c'.recalPick v) := h.recal v (State.pick_recal hp) ha
        split
        · exact Picked.pickN n v none act
        · exact act
      · exact h.quiet v
    · next x hp =>
      split
      · next ha => exact h.move v x (State.pick_served.1 hp).1 (State.pick_served.1 hp).2 ha
      · exact h.quiet v
    · next x cost overdue armPick hp =>
      exact h.file v x armPick _ (State.pick_served.2 cost overdue armPick hp) rfl rfl

theorem Picked.answerRound (h : Picked ps c c') (v : DriveNo) : Picked ps c (c'.answerRound v) := by
  unfold Ctx.answerRound
  dsimp only
  repeat' split
  all_goals first | exact h | exact h.pickN 3 v none

theorem betterAnswer_eq (g : Word) (a b : Request) : betterAnswer g a b = a ∨ betterAnswer g a b = b := by
  unfold betterAnswer
  dsimp only
  repeat' split
  all_goals simp

theorem Picked.releaseRound (h : Picked ps c c') {p : PortNo} (hp : p ∈ ps) : Picked ps c (c'.releaseRound p) := by
  have answers : Picked ps c ((c'.answerRound (lowDrive p)).answerRound (highDrive p)) := (h.answerRound _).answerRound _
  unfold Ctx.releaseRound
  dsimp only
  split
  · exact answers.close p hp
  · next a ha _ => exact answers.grant p a hp (.inl ha)
  · next b _ hb => exact answers.grant p b hp (.inr hb)
  · next a b ha hb =>
    refine answers.grant p _ hp ?_
    obtain he | he := betterAnswer_eq ((c'.answerRound (lowDrive p)).answerRound (highDrive p)).g a b
    · exact .inl (ha.trans (congrArg some he.symm))
    · exact .inr (hb.trans (congrArg some he.symm))

theorem Picked.pickPoint (h : Picked ps c c') (v : DriveNo) : Picked ps c (c'.pickPoint v) := by
  unfold Ctx.pickPoint
  dsimp only
  split
  · exact h.pickN 3 v none
  · exact h

/-- The last part of a command is made of release rounds and picks. -/
theorem Ctx.picksAndRounds_picked (c : Ctx) : Picked c.rounds c c.picksAndRounds := by
  have rounds : ∀ (l : List PortNo) (c' : Ctx), (∀ p ∈ l, p ∈ c.rounds) → Picked c.rounds c c' →
      Picked c.rounds c (l.foldl (fun c p => c.releaseRound p) c') := by
    intro l
    induction l with
    | nil => exact fun _ _ h => h
    | cons p l ih =>
      exact fun c' hl h => ih _ (fun q hq => hl q (List.mem_cons_of_mem _ hq)) (h.releaseRound (hl p (List.mem_cons_self ..)))
  have picks : ∀ (l : List DriveNo) (c' : Ctx), Picked c.rounds c c' →
      Picked c.rounds c (l.foldl (fun c v => c.pickPoint v) c') := by
    intro l
    induction l with
    | nil => exact fun _ h => h
    | cons v l ih => exact fun c' h => ih _ (h.pickPoint v)
  unfold Ctx.picksAndRounds
  dsimp only
  refine picks _ _ ?_
  have first : Picked c.rounds c (c.rounds.foldl (fun c p => c.releaseRound p) { c with rounds := [] }) :=
    rounds _ _ (fun _ h => h) (Picked.lists c.picks [] .refl)
  exact first.lists [] _

end Picked
end Sys2Proof.Machine

-- ==== Sys2Proof/Proofs/PickFacts.lean ====
namespace Sys2Proof.Machine

open Sys2Proof

/-! ### What no release round and no pick changes -/

/-- Of a drive, what no pick changes: its view, the lines of its diskette and its fault, and its record; but a frame or an
ended drain may begin a record write, where the controller state allows it. -/
structure Drive.Kept (writes : Bool) (d d' : Drive) : Prop where
  view : d'.view = d.view
  ready : d'.lines.ready = d.lines.ready
  fault : d'.lines.driveFault = d.lines.driveFault
  recorded : d.recordWrites <+: d'.recordWrites
  silent : writes = false → d'.recordWrites = d.recordWrites

theorem Drive.Kept.refl (b : Bool) (d : Drive) : d.Kept b d := ⟨rfl, rfl, rfl, List.prefix_rfl, fun _ => rfl⟩

theorem Drive.Kept.trans {b : Bool} {d d' d'' : Drive} (h : d.Kept b d') (h' : d'.Kept b d'') : d.Kept b d'' where
  view := h'.view.trans h.view
  ready := h'.ready.trans h.ready
  fault := h'.fault.trans h.fault
  recorded := h.recorded.trans h'.recorded
  silent hb := (h'.silent hb).trans (h.silent hb)

theorem Drive.Kept.of_eq {b : Bool} {d d' : Drive} (view : d'.view = d.view) (ready : d'.lines.ready = d.lines.ready)
    (fault : d'.lines.driveFault = d.lines.driveFault) (writes : d'.recordWrites = d.recordWrites) : d.Kept b d' :=
  ⟨view, ready, fault, by rw [writes], fun _ => writes⟩

theorem Drive.Reported.kept {b : Bool} {d d' : Drive} (h : d.Reported b d') : d.Kept b d' :=
  ⟨by rw [h.rest]; rfl, by rw [h.rest], by rw [h.rest], h.recorded, h.silent⟩

/-- Of a channel, the arbiter's pending requests and the owed marks alone change, and none of them comes. -/
structure Channel.Quieter (h h' : Channel) : Prop where
  rest : h' = { h with pendLow := h'.pendLow, pendHigh := h'.pendHigh, owedLow := h'.owedLow, owedHigh := h'.owedHigh }
  pend : ∀ r, h'.pendLow = some r ∨ h'.pendHigh = some r → h.pendLow = some r ∨ h.pendHigh = some r
  owed : ∀ v, h.owed v = false → h'.owed v = false

theorem Channel.Quieter.refl (h : Channel) : h.Quieter h := ⟨rfl, fun _ h => h, fun _ h => h⟩

theorem Channel.Quieter.trans {h h' h'' : Channel} (a : h.Quieter h') (b : h'.Quieter h'') : h.Quieter h'' where
  rest := by rw [b.rest, a.rest]
  pend r hr := a.pend r (b.pend r hr)
  owed v hv := b.owed v (a.owed v hv)

theorem Channel.Quieter.work {h h' : Channel} (a : h.Quieter h') : h'.work = h.work := by rw [a.rest]
theorem Channel.Quieter.state {h h' : Channel} (a : h.Quieter h') : h'.state = h.state := by rw [a.rest]

/-- What one drive does at its own pick: its arm, its heads, its scheduler and the channel's marks for it. -/
structure Ctx.AtPick (v : DriveNo) (c c' : Ctx) : Prop where
  rest : c' = { c with drives := c'.drives, channels := c'.channels, table := c'.table, picks := c'.picks }
  others : ∀ w, w ≠ v → c'.drive w = c.drive w
  kept : ∀ b, (c.drive v).Kept b (c'.drive v)
  channels : ∀ p, (c.chan p).Quieter (c'.chan p)
  orders : ∀ e, (∀ o, c.order? e = some o → ∃ o', c'.order? e = some o' ∧ o.Alike o')
    ∧ (c.order? e = none → c'.order? e = none)

section AtPick
variable {v : DriveNo} {c c' c'' : Ctx}

theorem Ctx.AtPick.trans (h : c.AtPick v c') (h' : c'.AtPick v c'') : c.AtPick v c'' where
  rest := by rw [h'.rest, h.rest]
  others w hw := (h'.others w hw).trans (h.others w hw)
  kept b := (h.kept b).trans (h'.kept b)
  channels p := (h.channels p).trans (h'.channels p)
  orders e := by
    refine ⟨fun o ho => ?_, fun hn => (h'.orders e).2 ((h.orders e).2 hn)⟩
    obtain ⟨o1, ho1, a1⟩ := (h.orders e).1 o ho
    obtain ⟨o2, ho2, a2⟩ := (h'.orders e).1 o1 ho1
    exact ⟨o2, ho2, a1.trans a2⟩

theorem Ctx.AtPick.refl (v : DriveNo) (c : Ctx) : c.AtPick v c :=
  ⟨rfl, fun _ _ => rfl, fun b => .refl b _, fun _ => .refl _, fun _ => ⟨fun o ho => ⟨o, ho, .refl o⟩, fun h => h⟩⟩

theorem Ctx.Jobs.atPick (h : c.Jobs v c') : c.AtPick v c' where
  rest := by rw [h.rest]
  others := h.others
  kept b := .of_eq (by rw [h.drive]; rfl) (by rw [h.drive]) (by rw [h.drive]) (by rw [h.drive])
  channels p := by
    have same : c'.chan p = c.chan p := by rw [State.chan, h.channels]; rfl
    rw [same]
    exact .refl _
  orders := h.orders

/-- A change of the drive's own record that keeps what no pick changes. -/
theorem Ctx.setDrive_atPick (c : Ctx) (v : DriveNo) (d : Drive) (h : ∀ b, (c.drive v).Kept b d) :
    c.AtPick v (c.setDrive v d) :=
  ⟨rfl, fun w hw => by rw [Ctx.setDrive_drive, if_neg hw], fun b => by rw [Ctx.setDrive_drive, if_pos rfl]; exact h b,
    fun _ => .refl _, fun _ => ⟨fun o ho => ⟨o, ho, .refl o⟩, fun h => h⟩⟩

theorem Ctx.modDrive_atPick (c : Ctx) (v : DriveNo) (k : Drive → Drive) (h : ∀ b, (c.drive v).Kept b (k (c.drive v))) :
    c.AtPick v (c.modDrive v k) := c.setDrive_atPick v _ h

theorem Ctx.modChan_atPick (c : Ctx) (v : DriveNo) (p : PortNo) (k : Channel → Channel)
    (hk : (c.chan p).Quieter (k (c.chan p))) : c.AtPick v (c.modChan p k) := by
  refine ⟨rfl, fun _ _ => rfl, fun b => .refl b _, fun q => ?_, fun _ => ⟨fun o ho => ⟨o, ho, .refl o⟩, fun h => h⟩⟩
  rw [Ctx.modChan, Ctx.setChan_chan]
  split
  · next h => subst h; exact hk
  · exact .refl _

theorem Channel.setPend_quieter (h : Channel) (v : DriveNo) : h.Quieter (h.setPend v none) := by
  unfold Channel.setPend
  split
  · exact ⟨rfl, fun r hr => .inr (by simpa using hr), fun _ h => h⟩
  · exact ⟨rfl, fun r hr => .inl (by simpa using hr), fun _ h => h⟩

theorem Channel.setOwed_quieter (h : Channel) (v : DriveNo) : h.Quieter (h.setOwed v false) := by
  unfold Channel.setOwed
  split
  · refine ⟨rfl, fun r hr => hr, fun w hw => ?_⟩
    unfold Channel.owed at hw ⊢
    split
    · rfl
    · next hl => rw [if_neg hl] at hw; exact hw
  · refine ⟨rfl, fun r hr => hr, fun w hw => ?_⟩
    unfold Channel.owed at hw ⊢
    split
    · next hl => rw [if_pos hl] at hw; exact hw
    · rfl

theorem Ctx.withdraw_atPick (c : Ctx) (v : DriveNo) : c.AtPick v (c.withdraw v) :=
  c.modChan_atPick v _ _ (Channel.setPend_quieter _ v)

theorem Ctx.startSeek_atPick (c : Ctx) (v : DriveNo) (n : Nat) (b : Bool) : c.AtPick v (c.startSeek v n b) := by
  unfold Ctx.startSeek
  dsimp only
  split
  · exact c.setDrive_atPick v _ fun b => .of_eq rfl rfl rfl rfl
  · exact c.setDrive_atPick v _ fun b => .of_eq rfl rfl rfl rfl

theorem Ctx.recalJobDone_atPick (c : Ctx) (v : DriveNo) : c.AtPick v (c.recalJobDone v) := by
  unfold Ctx.recalJobDone
  split
  · split
    · have ended : c.AtPick v ((c.modChan (portOf v) fun h => h.setOwed v false).jobEnded v) :=
        (c.modChan_atPick v _ _ (Channel.setOwed_quieter _ v)).trans (Ctx.jobEnded_jobs _ v).atPick
      dsimp only
      split
      · have quiet := ended.trans (Ctx.modSched_jobs _ v fun x => { x with state := .quiet }).atPick
        split
        · exact quiet
        · exact quiet.trans (Ctx.flagPick_jobs _ v).atPick
      · exact ended
    · exact .refl v c
  · exact .refl v c

theorem Ctx.startRecal_atPick (c : Ctx) (v : DriveNo) (n : Nat) : c.AtPick v (c.startRecal v (some n)) := by
  unfold Ctx.startRecal
  dsimp only
  split
  · have zeroed : c.AtPick v ((c.count v .recal).modDrive v fun d => { d with cylinder := 0, arm := .free }) :=
      (c.modDrive_atPick v _ fun b => .of_eq rfl rfl rfl rfl).trans
        (Ctx.modDrive_atPick _ v _ fun b => .of_eq rfl rfl rfl rfl)
    unfold Ctx.recalSucceeded
    dsimp only
    split
    · exact zeroed.trans (Ctx.recalJobDone_atPick _ v)
    · exact zeroed.trans (Ctx.startSeek_atPick _ v _ _)
  · exact c.setDrive_atPick v _ fun b => .of_eq rfl rfl rfl rfl

theorem Ctx.recalPick_atPick (c : Ctx) (v : DriveNo) : c.AtPick v (c.recalPick v) :=
  ((c.withdraw_atPick v).trans (Ctx.modSched_jobs _ v _).atPick).trans (Ctx.startRecal_atPick _ v _)

theorem Ctx.loadRequest_atPick (c : Ctx) (v : DriveNo) : c.AtPick v (c.loadRequest v) := by
  refine c.modDrive_atPick v _ fun b => ?_
  split
  · exact .of_eq rfl rfl rfl rfl
  · exact .refl b _

/-- The arm target is set and idle heads are asked to load. -/
theorem Ctx.loadIfUnloaded_atPick (c : Ctx) (v : DriveNo) :
    c.AtPick v (if (c.drive v).unloaded then c.loadRequest v else c) := by
  split
  · exact c.loadRequest_atPick v
  · exact .refl v c

theorem Ctx.movePick_atPick (c : Ctx) (v : DriveNo) (x : Cand) : c.AtPick v (c.movePick v x) :=
  (((c.modSched_jobs v _).trans (Ctx.modSched_jobs _ v _)).atPick.trans (Ctx.loadIfUnloaded_atPick _ v)).trans
    (Ctx.startSeek_atPick _ v _ _)

theorem Ctx.filePick_atPick (c : Ctx) (v : DriveNo) (x : Cand) (b : Bool) : c.AtPick v (c.filePick v x b) :=
  ((c.modSched_jobs v _).trans (Ctx.modSched_jobs _ v _)).atPick.trans (Ctx.loadIfUnloaded_atPick _ v)

/-- The grant of a request: the drive's scheduler, and the channel that takes the work. -/
theorem Ctx.grant_drive (c : Ctx) (p : PortNo) (r : Request) (w : DriveNo) :
    (c.grant p r).drive w = if w = r.drive then { c.drive w with sched := { (c.drive w).sched with
        state := .served
        job := if r.kind = .formatTrack ∨ r.kind = .discover then
            (c.drive w).sched.job.map fun j => { j with running := true }
          else (c.drive w).sched.job } }
      else c.drive w := by
  simp only [Ctx.grant, Ctx.modSched, Ctx.modDrive, Ctx.setDrive_drive]
  split
  · next h => subst h; rfl
  · rfl

theorem Ctx.grant_chan_ne (c : Ctx) {p q : PortNo} (r : Request) (h : q ≠ p) : (c.grant p r).chan q = c.chan q := by
  show (c.setChan p _).chan q = _
  rw [Ctx.setChan_chan, if_neg h]

theorem Ctx.grant_chan (c : Ctx) (p : PortNo) (r : Request) :
    ((c.grant p r).chan p).work = some r ∧ ((c.grant p r).chan p).state = .selecting
      ∧ ((c.grant p r).chan p).closed = (c.chan p).closed ∧ ((c.grant p r).chan p).pendLow = (c.chan p).pendLow
      ∧ ((c.grant p r).chan p).pendHigh = (c.chan p).pendHigh
      ∧ ∀ v, ((c.grant p r).chan p).owed v = (c.chan p).owed v := by
  have same (h : Channel) : (c.setChan p h).chan p = h := c.setChan_chan_self p h
  have read {α : Type} (k : Channel → α) : k ((c.grant p r).chan p) = k _ := congrArg k (same _)
  exact ⟨read _, read _, (read _).trans rfl, (read _).trans rfl, (read _).trans rfl, fun v => (read fun h => h.owed v).trans rfl⟩

@[simp] theorem Ctx.grant_table (c : Ctx) (p : PortNo) (r : Request) : (c.grant p r).table = c.table := rfl
@[simp] theorem Ctx.closeRound_table (c : Ctx) (p : PortNo) : (c.closeRound p).table = c.table := rfl
@[simp] theorem Ctx.fileRequest_table (c : Ctx) (r : Request) : (c.fileRequest r).table = c.table := by
  unfold Ctx.fileRequest
  dsimp only
  split <;> rfl

theorem Ctx.closeRound_chan (c : Ctx) (p q : PortNo) :
    (c.closeRound p).chan q = if q = p then { c.chan p with pendLow := none, pendHigh := none, roundOpen := false }
      else c.chan q := c.setChan_chan p q _

end AtPick

/-! ### What holds over all release rounds and picks of a command -/

section Picked
variable {ps : List PortNo} {c c' : Ctx}

/-- Of an order, release rounds and picks tell a freed job slot alone. -/
theorem Picked.orders (h : Picked ps c c') (e : EntryNo) :
    (∀ o, c.order? e = some o → ∃ o', c'.order? e = some o' ∧ o.Alike o') ∧ (c.order? e = none → c'.order? e = none) := by
  have step {c1 c2 : Ctx} {v : DriveNo} (a : c1.AtPick v c2)
      (ih : (∀ o, c.order? e = some o → ∃ o', c1.order? e = some o' ∧ o.Alike o') ∧ (c.order? e = none → c1.order? e = none)) :
      (∀ o, c.order? e = some o → ∃ o', c2.order? e = some o' ∧ o.Alike o') ∧ (c.order? e = none → c2.order? e = none) := by
    refine ⟨fun o ho => ?_, fun hn => (a.orders e).2 (ih.2 hn)⟩
    obtain ⟨o1, ho1, a1⟩ := ih.1 o ho
    obtain ⟨o2, ho2, a2⟩ := (a.orders e).1 o1 ho1
    exact ⟨o2, ho2, a1.trans a2⟩
  induction h with
  | refl => exact ⟨fun o ho => ⟨o, ho, .refl o⟩, fun h => h⟩
  | lists _ _ _ ih => exact ih
  | quiet v _ ih => exact step (Ctx.modSched_jobs _ v _).atPick ih
  | recal v _ _ _ ih => exact step (Ctx.recalPick_atPick _ v) ih
  | move v x _ _ _ _ ih => exact step (Ctx.movePick_atPick _ v x) ih
  | file v x b r _ _ _ _ ih =>
    rw [State.order?_of_table (Ctx.fileRequest_table _ r) e]
    exact step (Ctx.filePick_atPick _ v x b) ih
  | close p _ _ ih => exact ih
  | @grant c1 p r _ _ _ ih =>
    rw [State.order?_of_table (Ctx.grant_table (c1.closeRound p) p r) e]
    exact ih

/-- Of a drive, release rounds and picks keep the view, the lines and the record. -/
theorem Picked.kept (h : Picked ps c c') (w : DriveNo) (b : Bool) : (c.drive w).Kept b (c'.drive w) := by
  have step {c1 c2 : Ctx} {v : DriveNo} (a : c1.AtPick v c2) (ih : (c.drive w).Kept b (c1.drive w)) :
      (c.drive w).Kept b (c2.drive w) := by
    by_cases hw : w = v
    · subst hw; exact ih.trans (a.kept b)
    · rw [a.others w hw]; exact ih
  have granted {c1 : Ctx} (p : PortNo) (r : Request) (ih : (c.drive w).Kept b (c1.drive w)) :
      (c.drive w).Kept b ((c1.grant p r).drive w) := by
    rw [Ctx.grant_drive]
    split
    · exact ih.trans (.of_eq rfl rfl rfl rfl)
    · exact ih
  induction h with
  | refl => exact .refl b _
  | lists _ _ _ ih => exact ih
  | quiet v _ ih => exact step (Ctx.modSched_jobs _ v _).atPick ih
  | recal v _ _ _ ih => exact step (Ctx.recalPick_atPick _ v) ih
  | move v x _ _ _ _ ih => exact step (Ctx.movePick_atPick _ v x) ih
  | file v x a r _ _ _ _ ih =>
    have filed := step (Ctx.filePick_atPick _ v x a) ih
    have asked := step (Ctx.modSched_jobs _ r.drive fun x => { x with state := .filed }).atPick filed
    unfold Ctx.fileRequest
    dsimp only
    split
    · exact granted _ r asked
    · exact asked
  | close p _ _ ih => exact ih
  | grant p r _ _ _ ih => exact granted p r ih

/-! #### Track jobs -/

theorem Ctx.startSeek_drive (c : Ctx) (v : DriveNo) (n : Nat) (b : Bool) :
    (c.startSeek v n b).drive v = { c.drive v with
      cylinder := ((c.startSeek v n b).drive v).cylinder, lines := ((c.startSeek v n b).drive v).lines
      arm := ((c.startSeek v n b).drive v).arm } := by
  unfold Ctx.startSeek
  dsimp only
  split <;> simp [Ctx.modDrive]

theorem Ctx.loadIfUnloaded_drive (c : Ctx) (v : DriveNo) :
    (if (c.drive v).unloaded then c.loadRequest v else c).drive v = { c.drive v with
      heads := ((if (c.drive v).unloaded then c.loadRequest v else c).drive v).heads } := by
  split
  · unfold Ctx.loadRequest Ctx.modDrive
    rw [Ctx.setDrive_drive, if_pos rfl]
    dsimp only
    split <;> rfl
  · rfl

theorem Ctx.loadIfUnloaded_store (c : Ctx) (v : DriveNo) :
    (if (c.drive v).unloaded then c.loadRequest v else c).store = c.store := by
  split <;> rfl

theorem Ctx.loadIfUnloaded_view (c : Ctx) (v : DriveNo) :
    (if (c.drive v).unloaded then c.loadRequest v else c).view = c.view := by
  split
  · exact c.loadRequest_view v
  · rfl

theorem Ctx.filePick_drive (c : Ctx) (v : DriveNo) (x : Cand) (b : Bool) :
    (c.filePick v x b).drive v = { c.drive v with
      heads := ((c.filePick v x b).drive v).heads
      sched := { (c.drive v).sched with idle := 0, target := if b then some x.place else (c.drive v).sched.target } } := by
  unfold Ctx.filePick
  dsimp only
  rw [Ctx.loadIfUnloaded_drive]
  simp [Ctx.leaveQuiet, Ctx.modSched, Ctx.modDrive]

theorem Ctx.movePick_drive (c : Ctx) (v : DriveNo) (x : Cand) :
    (c.movePick v x).drive v = { c.drive v with
      cylinder := ((c.movePick v x).drive v).cylinder, lines := ((c.movePick v x).drive v).lines
      arm := ((c.movePick v x).drive v).arm, heads := ((c.movePick v x).drive v).heads
      sched := { (c.drive v).sched with state := .moving, idle := 0, target := some x.place } } := by
  unfold Ctx.movePick
  dsimp only
  rw [Ctx.startSeek_drive, Ctx.loadIfUnloaded_drive]
  simp [Ctx.leaveQuiet, Ctx.modSched, Ctx.modDrive]

/-- The held job of a drive, the requesters that wait for the slot and the counters stand, but for a job that begins to run. -/
def Drive.SameJob (d d' : Drive) : Prop :=
  (d'.sched.job = d.sched.job ∨ d'.sched.job = d.sched.job.map fun j => { j with running := true })
    ∧ d'.sched.busy = d.sched.busy ∧ d'.health.counters = d.health.counters

theorem Drive.SameJob.trans {d d' d'' : Drive} (h : d.SameJob d') (h' : d'.SameJob d'') : d.SameJob d'' := by
  obtain ⟨j, b, n⟩ := h
  obtain ⟨j', b', n'⟩ := h'
  refine ⟨?_, b'.trans b, n'.trans n⟩
  obtain j | j := j <;> obtain j' | j' := j' <;> rw [j', j]
  · exact .inl rfl
  · exact .inr rfl
  · exact .inr rfl
  · exact .inr (by cases d.sched.job <;> rfl)

theorem Drive.SameJob.refl (d : Drive) : d.SameJob d := ⟨.inl rfl, rfl, rfl⟩

theorem Drive.SameJob.none {d d' : Drive} (h : d.SameJob d') (hn : d.sched.job = none) : d'.sched.job = none := by
  obtain ⟨j | j, _⟩ := h <;> rw [j, hn]
  rfl

theorem Drive.SameJob.some {d d' : Drive} (h : d.SameJob d') {j : Job} (hj : d.sched.job = some j) :
    ∃ b, d'.sched.job = some { j with running := b } := by
  obtain ⟨h | h, _⟩ := h <;> rw [h, hj]
  · exact ⟨_, rfl⟩
  · exact ⟨true, rfl⟩

/-- A job that is no RECAL job, or an empty job slot, stands over all release rounds and picks, and with it the counters. -/
theorem Picked.sameJob (h : Picked ps c c') {v : DriveNo} (hn : ∀ j, (c.drive v).sched.job = some j → j.kind ≠ .recal) :
    (c.drive v).SameJob (c'.drive v) := by
  have step {c1 c2 : Ctx} {w : DriveNo} (a : c1.AtPick w c2) (ih : (c.drive v).SameJob (c1.drive v))
      (here : w = v → (c1.drive v).SameJob (c2.drive v)) : (c.drive v).SameJob (c2.drive v) := by
    by_cases hw : v = w
    · exact ih.trans (here hw.symm)
    · rw [a.others v hw]; exact ih
  have granted {c1 : Ctx} (p : PortNo) (r : Request) (ih : (c.drive v).SameJob (c1.drive v)) :
      (c.drive v).SameJob ((c1.grant p r).drive v) := by
    rw [Ctx.grant_drive]
    split
    · refine ih.trans ⟨?_, rfl, rfl⟩
      dsimp only
      split
      · exact .inr rfl
      · exact .inl rfl
    · exact ih
  induction h with
  | refl => exact .refl _
  | lists _ _ _ ih => exact ih
  | quiet w _ ih =>
    refine step (Ctx.modSched_jobs _ w _).atPick ih ?_
    rintro rfl
    simp [Ctx.modSched, Ctx.modDrive, Drive.SameJob]
  | recal w _ hr _ ih =>
    refine step (Ctx.recalPick_atPick _ w) ih ?_
    rintro rfl
    obtain ⟨j, hj, hk⟩ := State.served_recal hr
    exfalso
    obtain ⟨h | h, _⟩ := ih
    · exact hn j (h ▸ hj) hk
    · rw [h] at hj
      obtain ⟨j', hj', rfl⟩ := Option.map_eq_some_iff.mp hj
      exact hn j' hj' hk
  | move w x _ _ _ _ ih =>
    refine step (Ctx.movePick_atPick _ w x) ih ?_
    rintro rfl
    rw [Ctx.movePick_drive]
    exact ⟨.inl rfl, rfl, rfl⟩
  | file w x a r _ _ _ _ ih =>
    have filed := step (Ctx.filePick_atPick _ w x a) ih (by
      rintro rfl
      rw [Ctx.filePick_drive]
      exact ⟨.inl rfl, rfl, rfl⟩)
    have asked := step (Ctx.modSched_jobs _ r.drive fun x => { x with state := .filed }).atPick filed (by
      rintro rfl
      simp [Ctx.modSched, Ctx.modDrive, Drive.SameJob])
    unfold Ctx.fileRequest
    dsimp only
    split
    · exact granted _ r asked
    · exact asked
  | close p _ _ ih => exact ih
  | grant p r _ _ _ ih => exact granted p r ih

/-! #### Channels -/

/-- An owed mark that is clear stays so (R52). -/
theorem Picked.owed (h : Picked ps c c') {p : PortNo} {v : DriveNo} (hv : (c.chan p).owed v = false) :
    (c'.chan p).owed v = false := by
  have granted {c1 : Ctx} (q : PortNo) (r : Request) (ih : (c1.chan p).owed v = false) :
      ((c1.grant q r).chan p).owed v = false := by
    by_cases hp : p = q
    · subst hp; rw [(c1.grant_chan p r).2.2.2.2.2]; exact ih
    · rw [Ctx.grant_chan_ne _ _ hp]; exact ih
  have closed {c1 : Ctx} (q : PortNo) (ih : (c1.chan p).owed v = false) : ((c1.closeRound q).chan p).owed v = false := by
    rw [Ctx.closeRound_chan]
    split
    · next h => subst h; exact ih
    · exact ih
  induction h with
  | refl => exact hv
  | lists _ _ _ ih => exact ih
  | quiet w _ ih => exact ih
  | recal w _ _ _ ih => exact ((Ctx.recalPick_atPick _ w).channels p).owed v ih
  | move w x _ _ _ _ ih => exact ((Ctx.movePick_atPick _ w x).channels p).owed v ih
  | @file c1 w x a r _ _ _ _ ih =>
    have filed := ((Ctx.filePick_atPick c1 w x a).channels p).owed v ih
    unfold Ctx.fileRequest
    dsimp only
    split
    · exact granted _ r filed
    · rw [Ctx.modChan, Ctx.setChan_chan]
      split
      · next h =>
        subst h
        unfold Channel.setPend
        split <;> exact filed
      · exact filed
  | close q _ _ ih => exact closed q ih
  | grant q r _ _ _ ih => exact granted q r (closed q ih)

/-- A channel at work whose port has no release round goes on with it. -/
theorem Picked.working (h : Picked ps c c') {p : PortNo} (hp : p ∉ ps) (hs : (c.chan p).state ≠ .idle) :
    c'.chan p = { c.chan p with
      pendLow := (c'.chan p).pendLow, pendHigh := (c'.chan p).pendHigh
      owedLow := (c'.chan p).owedLow, owedHigh := (c'.chan p).owedHigh } := by
  have step {c1 c2 : Ctx} {w : DriveNo} (a : c1.AtPick w c2) (ih : c1.chan p = { c.chan p with
      pendLow := (c1.chan p).pendLow, pendHigh := (c1.chan p).pendHigh
      owedLow := (c1.chan p).owedLow, owedHigh := (c1.chan p).owedHigh }) : c2.chan p = { c.chan p with
      pendLow := (c2.chan p).pendLow, pendHigh := (c2.chan p).pendHigh
      owedLow := (c2.chan p).owedLow, owedHigh := (c2.chan p).owedHigh } := by
    rw [(a.channels p).rest, ih]
  induction h with
  | refl => rfl
  | lists _ _ _ ih => exact ih
  | quiet w _ ih => exact ih
  | recal w _ _ _ ih => exact step (Ctx.recalPick_atPick _ w) ih
  | move w x _ _ _ _ ih => exact step (Ctx.movePick_atPick _ w x) ih
  | @file c1 w x a r _ _ _ _ ih =>
    have filed := step (Ctx.filePick_atPick c1 w x a) ih
    unfold Ctx.fileRequest
    dsimp only
    split
    · next hi =>
      have hne : p ≠ portOf r.drive := by
        rintro rfl
        have := hi.1
        rw [filed] at this
        exact hs this
      rw [Ctx.grant_chan_ne _ _ hne]
      exact filed
    · rw [Ctx.modChan, Ctx.setChan_chan]
      split
      · next h =>
        subst h
        unfold Channel.setPend
        split
        · rw [show ((c1.filePick w x a).modSched r.drive _).chan _ = _ from filed]
        · rw [show ((c1.filePick w x a).modSched r.drive _).chan _ = _ from filed]
      · exact filed
  | close q _ hq ih =>
    rw [Ctx.closeRound_chan, if_neg fun he : p = q => hp (he ▸ hq)]
    exact ih
  | grant q r _ hq _ ih =>
    have hne : p ≠ q := fun h => hp (h ▸ hq)
    rw [Ctx.grant_chan_ne _ _ hne, Ctx.closeRound_chan, if_neg hne]
    exact ih

/-- A channel whose gate is closed keeps it closed, and the time of its last close. -/
theorem Picked.gate (h : Picked ps c c') {p : PortNo} (hs : (c.chan p).gateOpen = false) :
    (c'.chan p).gateOpen = false ∧ (c'.chan p).closed = (c.chan p).closed := by
  have step {c1 c2 : Ctx} {w : DriveNo} (a : c1.AtPick w c2)
      (ih : (c1.chan p).gateOpen = false ∧ (c1.chan p).closed = (c.chan p).closed) :
      (c2.chan p).gateOpen = false ∧ (c2.chan p).closed = (c.chan p).closed := by
    rw [(a.channels p).rest]
    exact ih
  have granted {c1 : Ctx} (q : PortNo) (r : Request)
      (ih : (c1.chan p).gateOpen = false ∧ (c1.chan p).closed = (c.chan p).closed) :
      ((c1.grant q r).chan p).gateOpen = false ∧ ((c1.grant q r).chan p).closed = (c.chan p).closed := by
    by_cases hp : p = q
    · subst hp
      obtain ⟨_, hsel, hcl, _⟩ := c1.grant_chan p r
      exact ⟨by rw [Channel.gateOpen, hsel]; rfl, hcl.trans ih.2⟩
    · rw [Ctx.grant_chan_ne _ _ hp]; exact ih
  have closed {c1 : Ctx} (q : PortNo) (ih : (c1.chan p).gateOpen = false ∧ (c1.chan p).closed = (c.chan p).closed) :
      ((c1.closeRound q).chan p).gateOpen = false ∧ ((c1.closeRound q).chan p).closed = (c.chan p).closed := by
    rw [Ctx.closeRound_chan]
    split
    · next h => subst h; exact ih
    · exact ih
  induction h with
  | refl => exact ⟨hs, rfl⟩
  | lists _ _ _ ih => exact ih
  | quiet w _ ih => exact ih
  | recal w _ _ _ ih => exact step (Ctx.recalPick_atPick _ w) ih
  | move w x _ _ _ _ ih => exact step (Ctx.movePick_atPick _ w x) ih
  | @file c1 w x a r _ _ _ _ ih =>
    have filed := step (Ctx.filePick_atPick c1 w x a) ih
    unfold Ctx.fileRequest
    dsimp only
    split
    · exact granted _ r filed
    · rw [Ctx.modChan, Ctx.setChan_chan]
      split
      · next h =>
        subst h
        unfold Channel.setPend
        split <;> exact filed
      · exact filed
  | close q _ _ ih => exact closed q ih
  | grant q r _ _ _ ih => exact granted q r (closed q ih)

/-! #### A drive that serves nothing -/

/-- What nothing served at a drive leaves: no request of it is made or granted, and its scheduler at most becomes QUIET. -/
structure Ctx.Idle (ps : List PortNo) (v : DriveNo) (c c' : Ctx) : Prop where
  drive : ∃ x, (x = (c.drive v).sched.state ∨ x = .quiet)
    ∧ c'.drive v = { c.drive v with sched := { (c.drive v).sched with state := x } }
  work : ∀ p r, (c'.chan p).work = some r → r.drive = v → (c.chan p).work = some r
  pend : ∀ p ∈ ps, ∀ r, (c'.chan p).pendLow = some r ∨ (c'.chan p).pendHigh = some r → r.drive ≠ v

theorem Picked.store (h : Picked ps c c') : c'.store = c.store := by
  induction h with
  | refl => rfl
  | lists _ _ _ ih => exact ih
  | quiet w _ ih => exact ih
  | recal w _ _ _ ih => exact (Ctx.startRecal_store _ _ _).trans ih
  | move w x _ _ _ _ ih =>
    exact ((Ctx.startSeek_store _ _ _ _).trans (Ctx.loadIfUnloaded_store _ _)).trans ih
  | file w x a r _ _ _ _ ih =>
    exact ((Ctx.fileRequest_store _ _).trans (Ctx.loadIfUnloaded_store _ _)).trans ih
  | close p _ _ ih => exact ih
  | grant p r _ _ _ ih => exact (Ctx.grant_store _ _ _).trans ih

theorem Picked.view (h : Picked ps c c') : c'.view = c.view := by
  induction h with
  | refl => rfl
  | lists _ _ _ ih => exact ih
  | quiet w _ ih => exact (Ctx.modSched_view _ _ _).trans ih
  | recal w _ _ _ ih =>
    refine (Ctx.startRecal_view _ _ _).trans (Eq.trans ?_ ih)
    simp
  | move w x _ _ _ _ ih =>
    refine ((Ctx.startSeek_view _ _ _ _).trans (Ctx.loadIfUnloaded_view _ _)).trans (Eq.trans ?_ ih)
    simp
  | file w x a r _ _ _ _ ih =>
    refine ((Ctx.fileRequest_view _ _).trans (Ctx.loadIfUnloaded_view _ _)).trans (Eq.trans ?_ ih)
    simp
  | close p _ _ ih => exact ih
  | grant p r _ _ _ ih => exact (Ctx.grant_view _ _ _).trans ih

/-- The served candidates of a drive are those of its frames, its state, the controller state and its job. -/
theorem State.served_eq {s t : State} {v : DriveNo} (frames : t.frames = s.frames) (ctl : t.ctl = s.ctl)
    (state : (t.drive v).state = (s.drive v).state) (job : (t.drive v).sched.job = (s.drive v).sched.job) :
    t.served v = s.served v := by
  simp [State.served, State.cands, State.framesOf, frames, ctl, state, job]

theorem Picked.idle (h : Picked ps c c') {v : DriveNo} (hv : c.served v = [])
    (hp : ∀ p ∈ ps, (c.chan p).pendLow = none ∧ (c.chan p).pendHigh = none) : c.Idle ps v c' := by
  have still {c1 : Ctx} (hview : c1.view = c.view) (hstore : c1.store = c.store) (ih : c.Idle ps v c1) :
      c1.served v = [] := by
    obtain ⟨x, _, hd⟩ := ih.drive
    rw [State.served_eq (congrArg StoreView.frames hstore) (State.view_ctl hview) (by rw [hd]) (by rw [hd])]
    exact hv
  have step {c1 c2 : Ctx} {w : DriveNo} (a : c1.AtPick w c2) (ih : c.Idle ps v c1) (hw : w ≠ v) : c.Idle ps v c2 :=
    ⟨by rw [a.others v hw.symm]; exact ih.drive,
      fun p r hr hd => ih.work p r (by rw [← (a.channels p).work]; exact hr) hd,
      fun p hq r hr => ih.pend p hq r ((a.channels p).pend r hr)⟩
  have closed {c1 : Ctx} (q : PortNo) (ih : c.Idle ps v c1) : c.Idle ps v (c1.closeRound q) := by
    refine ⟨ih.drive, fun p r hr hd => ih.work p r ?_ hd, fun p hq r hr => ?_⟩
    · rw [Ctx.closeRound_chan] at hr
      split at hr
      · next h => subst h; exact hr
      · exact hr
    · rw [Ctx.closeRound_chan] at hr
      split at hr
      · simp at hr
      · exact ih.pend p hq r hr
  have granted {c1 : Ctx} (q : PortNo) (r : Request) (ih : c.Idle ps v c1) (hr : r.drive ≠ v) : c.Idle ps v (c1.grant q r) := by
    refine ⟨by rw [Ctx.grant_drive, if_neg (Ne.symm hr)]; exact ih.drive, fun p r' hr' hd => ?_, fun p hq r' hr' => ?_⟩
    · by_cases hpq : p = q
      · subst hpq
        rw [(c1.grant_chan p r).1] at hr'
        cases hr'
        exact absurd hd hr
      · rw [Ctx.grant_chan_ne _ _ hpq] at hr'
        exact ih.work p r' hr' hd
    · by_cases hpq : p = q
      · subst hpq
        rw [(c1.grant_chan p r).2.2.2.1, (c1.grant_chan p r).2.2.2.2.1] at hr'
        exact ih.pend p hq r' hr'
      · rw [Ctx.grant_chan_ne _ _ hpq] at hr'
        exact ih.pend p hq r' hr'
  induction h with
  | refl => exact ⟨⟨_, .inl rfl, rfl⟩, fun _ _ h _ => h, fun p hq r hr => by simp [hp p hq] at hr⟩
  | lists _ _ _ ih => exact ⟨ih.drive, ih.work, ih.pend⟩
  | quiet w _ ih =>
    by_cases hw : w = v
    · subst hw
      refine ⟨⟨.quiet, .inr rfl, ?_⟩, ih.work, ih.pend⟩
      obtain ⟨x, _, hd⟩ := ih.drive
      simp [Ctx.modSched, Ctx.modDrive, hd]
    · exact step (Ctx.modSched_jobs _ w _).atPick ih hw
  | recal w h1 hr _ ih =>
    refine step (Ctx.recalPick_atPick _ w) ih ?_
    rintro rfl
    obtain ⟨x, hx, _⟩ := hr
    simp [still h1.view h1.store ih] at hx
  | move w x h1 hx _ _ ih =>
    refine step (Ctx.movePick_atPick _ w x) ih ?_
    rintro rfl
    simp [still h1.view h1.store ih] at hx
  | @file c1 w x a r h1 hx hrw _ ih =>
    have hw : w ≠ v := by
      rintro rfl
      simp [still h1.view h1.store ih] at hx
    have filed := step (Ctx.filePick_atPick c1 w x a) ih hw
    have hrv : r.drive ≠ v := hrw ▸ hw
    have asked := step (Ctx.modSched_jobs (c1.filePick w x a) r.drive fun x => { x with state := .filed }).atPick filed hrv
    unfold Ctx.fileRequest
    dsimp only
    split
    · exact granted _ r asked hrv
    · refine ⟨asked.drive, fun p r' hr' hd => ?_, fun p hq r' hr' => ?_⟩
      · rw [Ctx.modChan, Ctx.setChan_chan] at hr'
        split at hr'
        · next h =>
          subst h
          refine asked.work _ r' ?_ hd
          unfold Channel.setPend at hr'
          split at hr' <;> exact hr'
        · exact asked.work p r' hr' hd
      · rw [Ctx.modChan, Ctx.setChan_chan] at hr'
        split at hr'
        · next h =>
          subst h
          unfold Channel.setPend at hr'
          split at hr'
          · obtain h1 | h1 := hr'
            · cases h1; exact hrv
            · exact asked.pend _ hq r' (.inr h1)
          · obtain h1 | h1 := hr'
            · exact asked.pend _ hq r' (.inl h1)
            · cases h1; exact hrv
        · exact asked.pend p hq r' hr'
  | close q _ _ ih => exact closed q ih
  | grant q r _ hq hr ih => exact granted q r (closed q ih) (ih.pend q hq r hr)

end Picked
end Sys2Proof.Machine

-- ==== Sys2Proof/Proofs/Endings.lean ====
namespace Sys2Proof.Machine

open Sys2Proof

/-! ### What a turn of the controller changes: its state, the desks, the heads and the drive records -/

/-- The tests that end a start, a drain or a shed change the controller's own parts, the desks, and of a drive its heads, which
may be unloaded, and its record, which may be written. -/
structure Ctx.Turns (c c' : Ctx) : Prop where
  rest : c' = { c with
    ctl := c'.ctl, header := c'.header, start := c'.start, snapTimer := c'.snapTimer, notice := c'.notice
    orphans := c'.orphans, desks := c'.desks, drives := c'.drives, picks := c'.picks }
  drive : ∀ v, c'.drive v = { c.drive v with heads := (c'.drive v).heads, recordWrites := (c'.drive v).recordWrites }
  heads : ∀ v, (c'.drive v).heads = (c.drive v).heads ∨ (c'.drive v).heads = .unloaded
  recorded : ∀ v, (c.drive v).recordWrites <+: (c'.drive v).recordWrites

section Turns
variable {c c' c'' : Ctx}

theorem Ctx.Turns.refl (c : Ctx) : c.Turns c := ⟨rfl, fun _ => rfl, fun _ => .inl rfl, fun _ => List.prefix_rfl⟩

theorem Ctx.Turns.trans (h : c.Turns c') (h' : c'.Turns c'') : c.Turns c'' where
  rest := by rw [h'.rest, h.rest]
  drive v := by rw [h'.drive, h.drive]
  heads v := by
    obtain a | a := h'.heads v
    · rw [a]; exact h.heads v
    · exact .inr a
  recorded v := (h.recorded v).trans (h'.recorded v)

/-- A turn that leaves the drives. -/
theorem Ctx.Turns.of_drives (rest : c' = { c with
    ctl := c'.ctl, header := c'.header, start := c'.start, snapTimer := c'.snapTimer, notice := c'.notice
    orphans := c'.orphans, desks := c'.desks, drives := c'.drives, picks := c'.picks }) (h : c'.drives = c.drives) :
    c.Turns c' := by
  have drive (v : DriveNo) : c'.drive v = c.drive v := by rw [State.drive, h]; rfl
  exact ⟨rest, fun v => by rw [drive], fun v => .inl (by rw [drive]), fun v => by rw [drive]⟩

theorem Ctx.Turns.foldl {α : Type} (k : Ctx → α → Ctx) (h : ∀ (c : Ctx) a, c.Turns (k c a)) (l : List α) :
    ∀ c : Ctx, c.Turns (l.foldl k c) := by
  induction l with
  | nil => exact fun c => .refl c
  | cons a l ih => exact fun c => (h c a).trans (ih _)

theorem Ctx.flagPick_turns (c : Ctx) (v : DriveNo) : c.Turns (c.flagPick v) := by
  rw [c.flagPick_eq v]
  exact .of_drives rfl rfl

theorem Ctx.setCtl_turns (c : Ctx) (st : CtlState) : c.Turns (c.setCtl st) := by
  have entered : c.Turns { c with ctl := st } := .of_drives rfl rfl
  unfold Ctx.setCtl
  split
  · exact .refl c
  · exact entered.trans (.foldl _ (fun c v => c.flagPick_turns v) _ _)

theorem Ctx.modDesk_turns (c : Ctx) (d : DeskNo) (k : Desk → Desk) : c.Turns (c.modDesk d k) := .of_drives rfl rfl

theorem Ctx.entryWrite_turns (c : Ctx) (d : DeskNo) : c.Turns (c.entryWrite d) := by
  unfold Ctx.entryWrite Ctx.beginEntryWrite
  repeat' split
  all_goals exact .of_drives rfl rfl

theorem Ctx.setUpDesk_turns (c : Ctx) (d : DeskNo) : c.Turns (c.setUpDesk d) := by
  unfold Ctx.setUpDesk
  split
  · exact (c.modDesk_turns d _).trans (Ctx.entryWrite_turns _ d)
  · exact c.modDesk_turns d _

theorem Ctx.attendDesk_turns (c : Ctx) (d : DeskNo) : c.Turns (c.attendDesk d) := by
  unfold Ctx.attendDesk
  split
  · exact ((c.modDesk_turns d _).trans (Ctx.entryWrite_turns _ d)).trans (Ctx.modDesk_turns _ d _)
  · exact c.modDesk_turns d _
  all_goals exact .refl c

theorem Ctx.recordWrite_turns (c : Ctx) (v : DriveNo) (x : Option Bool) : c.Turns (c.recordWrite v x) := by
  refine ⟨?_, fun w => ?_, fun w => .inl ?_, fun w => (c.recordWrite_reported v w x).recorded⟩
  · unfold Ctx.recordWrite
    split <;> rfl
  · rw [Ctx.recordWrite_drive]
    split
    · next h => rw [h.1]
    · rfl
  · rw [Ctx.recordWrite_drive]
    split
    · next h => rw [h.1]
    · rfl

theorem Ctx.writeAllRecords_turns (c : Ctx) : c.Turns c.writeAllRecords :=
  .foldl _ (fun c v => c.recordWrite_turns v none) _ c

theorem Ctx.unloadRequest_turns (c : Ctx) (v : DriveNo) : c.Turns (c.unloadRequest v) := by
  have drive (w : DriveNo) : (c.unloadRequest v).drive w = if w = v then { c.drive v with heads := .unloaded } else c.drive w :=
    c.setDrive_drive v w _
  refine ⟨rfl, fun w => ?_, fun w => ?_, fun w => ?_⟩ <;> rw [drive] <;> split
  · next h => rw [h]
  · rfl
  · exact .inr rfl
  · exact .inl rfl
  · next h => rw [h]
  · exact List.prefix_rfl

theorem Ctx.unloadAll_turns (c : Ctx) : c.Turns c.unloadAll := .foldl _ (fun c v => c.unloadRequest_turns v) _ c

theorem Ctx.enterRunning_turns (c : Ctx) (h : Header) : c.Turns (c.enterRunning h) := by
  have begun : c.Turns { c with
      header := some h, start := .idle, orphans := c.orphans.map fun x => { x with counts := false } } := .of_drives rfl rfl
  have desks := ((begun.trans (Ctx.setCtl_turns _ .running)).trans
    (.foldl _ (fun c d => c.setUpDesk_turns d) (List.finRange 16) _)).trans (Ctx.writeAllRecords_turns _)
  exact desks.trans (.of_drives rfl rfl)

theorem Ctx.resumeRunning_turns (c : Ctx) : c.Turns c.resumeRunning := by
  refine ((c.setCtl_turns .running).trans (Ctx.writeAllRecords_turns _)).trans (.foldl _ (fun c d => ?_) _ _)
  dsimp only
  split
  · exact c.attendDesk_turns d
  · exact .refl c

theorem Ctx.enterStopped_turns (c : Ctx) : c.Turns c.enterStopped :=
  (c.setCtl_turns .stopped).trans (.of_drives rfl rfl)

theorem Ctx.startCheck_turns (c : Ctx) : c.Turns c.startCheck := by
  unfold Ctx.startCheck
  split
  · split
    · exact .refl c
    · split
      · exact c.enterStopped_turns
      · split
        · exact .refl c
        · exact c.enterRunning_turns _
  · exact .refl c

theorem Ctx.testDone_turns (c : Ctx) : c.Turns c.testDone := by
  unfold Ctx.testDone
  split
  · exact c.unloadAll_turns.trans (Ctx.enterStopped_turns _)
  · split
    · have told : c.unloadAll.Turns (c.unloadAll.setNotice safeBit) := .of_drives rfl rfl
      have safe : c.Turns ((c.unloadAll.setNotice safeBit).setCtl .safe) :=
        (c.unloadAll_turns.trans told).trans (Ctx.setCtl_turns _ .safe)
      dsimp only
      split
      · exact safe
      · unfold Ctx.leaveSafe
        split
        · exact safe.trans (Ctx.resumeRunning_turns _)
        · exact safe.trans (Ctx.enterStopped_turns _)
    · exact .refl c

theorem Ctx.Turns.kept (h : c.Turns c') (v : DriveNo) : (c.drive v).Kept true (c'.drive v) :=
  ⟨by rw [h.drive]; rfl, by rw [h.drive], by rw [h.drive], h.recorded v, fun h => nomatch h⟩

/-- The tests at the end of a command write a record in DRAINING and SHEDDING alone. -/
theorem Ctx.testDone_kept (c : Ctx) (v : DriveNo) : (c.drive v).Kept c.ctl.tableWrites (c.testDone.drive v) := by
  by_cases h : c.ctl = .draining ∨ c.ctl = .shedding
  · have writes : c.ctl.tableWrites = true := by obtain h | h := h <;> rw [h] <;> rfl
    rw [writes]
    exact c.testDone_turns.kept v
  · rw [Ctx.testDone_id c (fun h1 => h (.inl h1)) fun h2 => h (.inr h2)]
    exact .refl _ _

end Turns

/-! ### The end of a command -/

/-- The cascade is made of steps of the store and the engine. -/
theorem Ctx.cascade_steps (c : Ctx) : Steps (fun _ => True) (fun _ _ => True) c c.cascade :=
  Works.cascade (P := Order.Parked) (Q := True) (fun _ h => h) (fun _ _ => trivial) trivial c (fun _ _ a h => a.parked h)
    fun _ he => absurd trivial he

/-- Orders that have ended, or that go on by no report, stand over the cascade. -/
theorem Ctx.cascade_steps_covered {N : EntryNo → Prop} {c : Ctx} (h : c.Covers N Order.Parked True) :
    Steps N (fun _ _ => True) c c.cascade :=
  Works.cascade (fun _ h => h) (fun _ _ => trivial) trivial c (fun _ _ a h => a.parked h) h

/-- Of a drive, the end of a command keeps its view, its lines and its record but for what it adds to it. -/
theorem Ctx.finish_kept (c : Ctx) (v : DriveNo) : (c.drive v).Kept c.ctl.tableWrites (c.finish.drive v) := by
  have cascaded := (c.cascade_steps.drive v).kept
  have tested := c.cascade.testDone_kept v
  rw [State.view_ctl c.cascade_view] at tested
  exact (cascaded.trans tested).trans (c.cascade.testDone.picksAndRounds_picked.kept v _)

/-- The release rounds of a command find no request that was made before them. -/
def Ctx.Cleared (c : Ctx) : Prop := ∀ p ∈ c.rounds, (c.chan p).pendLow = none ∧ (c.chan p).pendHigh = none

/-- Before the release rounds of a command its channels stand as its own part left them. -/
theorem Ctx.tested_channels (c : Ctx) :
    c.cascade.testDone.channels = c.channels ∧ c.cascade.testDone.rounds = c.rounds := by
  have turned := c.cascade.testDone_turns
  exact ⟨by rw [turned.rest]; exact c.cascade_steps.channels.1, by rw [turned.rest]; exact c.cascade_steps.channels.2⟩

theorem Ctx.tested_chan (c : Ctx) (p : PortNo) : c.cascade.testDone.chan p = c.chan p := by
  rw [State.chan, c.tested_channels.1]; rfl

theorem Ctx.finish_picked (c : Ctx) : Picked c.rounds c.cascade.testDone c.cascade.testDone.picksAndRounds := by
  have picked := c.cascade.testDone.picksAndRounds_picked
  rwa [c.tested_channels.2] at picked

/-- Of a drive, the cascade and the tests at the end of a command change its heads, its marks and its record alone. -/
theorem Ctx.tested_drive (c : Ctx) (v : DriveNo) :
    c.cascade.testDone.drive v = { c.drive v with
      heads := (c.cascade.testDone.drive v).heads, health := (c.cascade.testDone.drive v).health
      recordWrites := (c.cascade.testDone.drive v).recordWrites }
    ∧ ((c.cascade.testDone.drive v).heads = (c.drive v).heads ∨ (c.cascade.testDone.drive v).heads = .unloaded)
    ∧ (c.cascade.testDone.drive v).health.counters = (c.drive v).health.counters := by
  have told := c.cascade_steps.drive v
  have turned := c.cascade.testDone_turns
  refine ⟨by rw [turned.drive, told.rest], ?_, by rw [turned.drive]; exact told.counters⟩
  obtain h | h := turned.heads v
  · exact .inl (by rw [h, told.rest])
  · exact .inr h

theorem Ctx.finish_sameJob (c : Ctx) {v : DriveNo} (hn : ∀ j, (c.drive v).sched.job = some j → j.kind ≠ .recal) :
    (c.drive v).SameJob (c.finish.drive v) := by
  obtain ⟨drive, _, counters⟩ := c.tested_drive v
  have tested : (c.drive v).SameJob (c.cascade.testDone.drive v) := ⟨.inl (by rw [drive]), by rw [drive], counters⟩
  refine tested.trans (c.finish_picked.sameJob fun j hj => hn j ?_)
  rwa [drive] at hj

theorem Ctx.finish_owed (c : Ctx) {p : PortNo} {v : DriveNo} (h : (c.chan p).owed v = false) :
    (c.finish.chan p).owed v = false := c.finish_picked.owed (by rw [c.tested_chan]; exact h)

theorem Ctx.finish_working (c : Ctx) {p : PortNo} (hp : p ∉ c.rounds) (hs : (c.chan p).state ≠ .idle) :
    c.finish.chan p = { c.chan p with
      pendLow := (c.finish.chan p).pendLow, pendHigh := (c.finish.chan p).pendHigh
      owedLow := (c.finish.chan p).owedLow, owedHigh := (c.finish.chan p).owedHigh } := by
  have working := c.finish_picked.working hp (by rw [c.tested_chan]; exact hs)
  rw [c.tested_chan] at working
  exact working

theorem Ctx.finish_gate (c : Ctx) {p : PortNo} (hs : (c.chan p).gateOpen = false) :
    (c.finish.chan p).gateOpen = false ∧ (c.finish.chan p).closed = (c.chan p).closed := by
  have gate := c.finish_picked.gate (p := p) (by rw [c.tested_chan]; exact hs)
  rw [c.tested_chan] at gate
  exact gate

/-- The drive's state serves no kind of work (R95). -/
def Drive.down (d : Drive) : Prop := ∀ k, d.state.serves k = false

theorem State.served_down {s : State} {v : DriveNo} (h : (s.drive v).down) : s.served v = [] := by
  unfold State.served
  rw [List.filter_eq_nil_iff]
  intro x _
  simp [h x.kind]

/-- At a drive that serves nothing the end of a command leaves the arm, the lines and the scheduler, which at most becomes QUIET;
its port takes up no work for it. -/
theorem Ctx.finish_down (c : Ctx) {v : DriveNo} (hv : (c.drive v).down) (hc : c.Cleared) :
    (∃ x, (x = (c.drive v).sched.state ∨ x = .quiet)
      ∧ c.finish.drive v = { c.drive v with
          heads := (c.finish.drive v).heads, health := (c.finish.drive v).health
          recordWrites := (c.finish.drive v).recordWrites, sched := { (c.drive v).sched with state := x } })
    ∧ ((c.finish.drive v).heads = (c.drive v).heads ∨ (c.finish.drive v).heads = .unloaded)
    ∧ (c.finish.drive v).health.counters = (c.drive v).health.counters
    ∧ ∀ p r, (c.finish.chan p).work = some r → r.drive = v → (c.chan p).work = some r := by
  obtain ⟨drive, heads, counters⟩ := c.tested_drive v
  have down : (c.cascade.testDone.drive v).down := by rw [drive]; exact hv
  have idle := c.finish_picked.idle (State.served_down down) fun p hp => by rw [c.tested_chan]; exact hc p hp
  obtain ⟨⟨x, hx, hd⟩, work, _⟩ := idle
  have final : c.finish.drive v = { c.cascade.testDone.drive v with
    sched := { (c.cascade.testDone.drive v).sched with state := x } } := hd
  refine ⟨⟨x, ?_, ?_⟩, ?_, ?_, fun p r hr hd => ?_⟩
  · rwa [drive] at hx
  · rw [final, drive]
  · rw [final]; exact heads
  · rw [final]; exact counters
  · rw [← c.tested_chan]; exact work p r hr hd

/-- An order that goes on by no report hears reports alone at the end of a command, and stays out of the queues. -/
theorem Ctx.finish_order (c : Ctx) {e : EntryNo} {o : Order} (ho : c.order? e = some o) (hp : o.Parked)
    (hq : c.notQueued e) : (∃ o', c.finish.order? e = some o' ∧ o.Alike o') ∧ c.finish.notQueued e := by
  have covers : c.Covers (· ≠ e) Order.Parked True := fun e' he => by
    obtain rfl := not_not.mp he
    exact ⟨hq.2, fun _ => hq.1, fun o' ho' => by rw [ho] at ho'; cases ho'; exact hp⟩
  have steps := Ctx.cascade_steps_covered covers
  obtain ⟨o1, ho1, a1⟩ := (steps.order? (e := e) (by simp)).1 o ho
  have turned := c.cascade.testDone_turns
  have table : c.cascade.testDone.order? e = c.cascade.order? e :=
    State.order?_of_table (by rw [turned.rest]) e
  obtain ⟨o2, ho2, a2⟩ := (c.finish_picked.orders e).1 o1 (table.trans ho1)
  have queued := steps.notQueued (e := e) (by simp) hq
  have store := c.finish_picked.store
  refine ⟨⟨o2, ho2, a1.trans a2⟩, ?_⟩
  have fwq : c.finish.fwq = c.cascade.fwq := (congrArg StoreView.fwq store).trans (by rw [turned.rest]; rfl)
  have waiters : c.finish.waiters = c.cascade.waiters := (congrArg StoreView.waiters store).trans (by rw [turned.rest]; rfl)
  rw [State.notQueued, fwq, waiters]
  exact queued

/-- The result of an order that has ended stands (R154). -/
theorem Ctx.finish_ended (c : Ctx) {e : EntryNo} {o : Order} (ho : c.order? e = some o) (hs : o.stage = .finish)
    (hq : c.notQueued e) :
    ∃ o', c.finish.order? e = some o' ∧ o'.stage = .finish ∧ o'.result = o.result ∧ o'.tracks = o.tracks := by
  obtain ⟨⟨o', ho', a⟩, _⟩ := c.finish_order ho (.inl hs) hq
  exact ⟨o', ho', a.stage.trans hs, a.result, a.tracks⟩

end Sys2Proof.Machine

-- ==== Sys2Proof/Proofs/Falls.lean ====
namespace Sys2Proof.Machine

open Sys2Proof

/-! ### What is left of a drive that serves nothing while its work is taken away (R60, R61, R105, R169, R173) -/

/-- No frame is held for the drive. -/
def Ctx.NoFrameOf (c : Ctx) (v : DriveNo) : Prop := ∀ f, (c.frame f).held = true → (c.frame f).key.drive ≠ v

/-- From `c` to `c'` drive `v` changes in its scheduler, its counters of attempts, its marks and its record alone; orders that `N`
does not name hear reports alone. -/
structure Ctx.Leaves (v : DriveNo) (N : EntryNo → Prop) (c c' : Ctx) : Prop where
  g : c'.g = c.g
  ctl : c'.ctl = c.ctl
  base : c'.runBase = c.runBase
  drive : c'.drive v = { c.drive v with
    sched := (c'.drive v).sched, health := (c'.drive v).health, recordWrites := (c'.drive v).recordWrites }
  recals : (c'.drive v).health.counters[7] = (c.drive v).health.counters[7]
  recorded : (c.drive v).recordWrites <+: (c'.drive v).recordWrites
  silent : c.ctl.tableWrites = false → (c'.drive v).recordWrites = (c.drive v).recordWrites
  cleared : c.Cleared → c'.Cleared
  orders : ∀ e, ¬ N e → (∀ o, c.order? e = some o → ∃ o', c'.order? e = some o' ∧ o.Alike o')
    ∧ (c.order? e = none → c'.order? e = none)
  fwq : ∀ w ∈ c'.fwq, N w.order ∨ ∃ x ∈ c.fwq, x.order = w.order
  waiters : ∀ w ∈ c'.waiters, w ∈ c.waiters
  locks : c.waiters = [] → c'.locks = c.locks
  frameless : (c.drive v).state ≠ .ready → c.NoFrameOf v → c'.NoFrameOf v

theorem Drive.down.not_ready {d : Drive} (h : d.down) : d.state ≠ .ready := fun hs => by
  have := h .read
  rw [hs] at this
  cases this

theorem Drive.down.not_formatting {d : Drive} (h : d.down) : d.state ≠ .formatting := fun hs => by
  have := h .read
  rw [hs] at this
  cases this

theorem Drive.down.not_discovery {d : Drive} (h : d.down) : d.state ≠ .discovery := fun hs => by
  have := h .discover
  rw [hs] at this
  cases this

theorem Drive.down.takesRecal {d : Drive} (h : d.down) : d.state.takesRecal = false := by
  have := h .recal
  revert this
  cases d.state <;> simp [DriveState.serves, DriveState.takesRecal]

theorem Ctx.blankIncomplete_away (c : Ctx) {v : DriveNo} (h : (c.drive v).state ≠ .formatting) : c.blankIncomplete v = c := by
  rw [Ctx.blankIncomplete, if_neg h]

theorem Ctx.discoveryReport_away (c : Ctx) {v : DriveNo} (x : Density) (l : Option (List Heard))
    (h : (c.drive v).state ≠ .discovery) : c.discoveryReport v x l = c := by
  unfold Ctx.discoveryReport
  dsimp only
  rw [if_pos h]

section Leaves
variable {v : DriveNo} {N : EntryNo → Prop} {c c' c'' : Ctx}

theorem Ctx.Leaves.trans (h : c.Leaves v N c') (h' : c'.Leaves v N c'') : c.Leaves v N c'' where
  g := h'.g.trans h.g
  ctl := h'.ctl.trans h.ctl
  base := h'.base.trans h.base
  drive := by rw [h'.drive, h.drive]
  recals := h'.recals.trans h.recals
  recorded := h.recorded.trans h'.recorded
  silent hb := (h'.silent (by rw [h.ctl]; exact hb)).trans (h.silent hb)
  cleared hc := h'.cleared (h.cleared hc)
  orders e he := by
    refine ⟨fun o ho => ?_, fun hn => (h'.orders e he).2 ((h.orders e he).2 hn)⟩
    obtain ⟨o1, ho1, a1⟩ := (h.orders e he).1 o ho
    obtain ⟨o2, ho2, a2⟩ := (h'.orders e he).1 o1 ho1
    exact ⟨o2, ho2, a1.trans a2⟩
  fwq w hw := by
    obtain hN | ⟨x, hx, hxe⟩ := h'.fwq w hw
    · exact .inl hN
    · rw [← hxe]; exact h.fwq x hx
  waiters w hw := h.waiters w (h'.waiters w hw)
  locks h0 := (h'.locks (List.eq_nil_iff_forall_not_mem.mpr fun w hw => by simpa [h0] using h.waiters w hw)).trans (h.locks h0)
  frameless hs hn := h'.frameless (by rw [h.drive]; exact hs) (h.frameless hs hn)

theorem Ctx.Leaves.down (h : c.Leaves v N c') (hd : (c.drive v).down) : (c'.drive v).down := by
  rw [h.drive]; exact hd

theorem Ctx.Leaves.notQueued (h : c.Leaves v N c') {e : EntryNo} (he : ¬ N e) (hq : c.notQueued e) : c'.notQueued e := by
  refine ⟨fun w hw hwe => ?_, fun w hw => hq.2 w (h.waiters w hw)⟩
  obtain hN | ⟨x, hx, hxe⟩ := h.fwq w hw
  · exact he (hwe ▸ hN)
  · exact hq.1 x hx (hxe.trans hwe)

theorem Ctx.Leaves.covers {P : Order → Prop} (h : c.Leaves v N c') (hP : ∀ o o' : Order, o.Alike o' → P o → P o')
    (hc : c.Covers N P False) : c'.Covers N P False := fun e he => by
  obtain ⟨unlocked, _, here⟩ := hc e he
  refine ⟨fun w hw => unlocked w (h.waiters w hw), False.elim, fun o ho => ?_⟩
  cases h0 : c.order? e with
  | none => rw [(h.orders e he).2 h0] at ho; cases ho
  | some o0 =>
    obtain ⟨o1, ho1, alike⟩ := (h.orders e he).1 o0 h0
    rw [ho1] at ho
    cases ho
    exact hP _ _ alike (here o0 h0)

/-- A change that leaves the orders and the queues. -/
theorem Ctx.Leaves.of_parts (g : c'.g = c.g) (ctl : c'.ctl = c.ctl) (base : c'.runBase = c.runBase)
    (table : c'.table = c.table) (fwq : c'.fwq = c.fwq) (waiters : c'.waiters = c.waiters) (locks : c'.locks = c.locks)
    (frames : c'.frames = c.frames)
    (drive : c'.drive v = { c.drive v with
      sched := (c'.drive v).sched, health := (c'.drive v).health, recordWrites := (c'.drive v).recordWrites })
    (recals : (c'.drive v).health.counters[7] = (c.drive v).health.counters[7])
    (recorded : (c.drive v).recordWrites <+: (c'.drive v).recordWrites)
    (silent : c.ctl.tableWrites = false → (c'.drive v).recordWrites = (c.drive v).recordWrites)
    (cleared : c.Cleared → c'.Cleared) : c.Leaves v N c' :=
  ⟨g, ctl, base, drive, recals, recorded, silent, cleared, fun e _ => by
    rw [State.order?_of_table table e]
    exact ⟨fun o ho => ⟨o, ho, .refl o⟩, fun h => h⟩, fun w hw => .inr ⟨w, fwq ▸ hw, rfl⟩, fun w hw => waiters ▸ hw, fun _ => locks, fun _ hn f => by
    have same : c'.frame f = c.frame f := by rw [State.frame, frames]; rfl
    rw [same]
    exact hn f⟩

theorem Ctx.Leaves.refl (v : DriveNo) (N : EntryNo → Prop) (c : Ctx) : c.Leaves v N c :=
  .of_parts rfl rfl rfl rfl rfl rfl rfl rfl rfl rfl List.prefix_rfl (fun _ => rfl) fun h => h

theorem Ctx.Cleared.of_eq (hc : c.Cleared) (channels : c'.channels = c.channels) (rounds : c'.rounds = c.rounds) :
    c'.Cleared := fun p hp => by
  have same : c'.chan p = c.chan p := by rw [State.chan, channels]; rfl
  rw [same]
  exact hc p (rounds ▸ hp)

theorem Steps.leaves {F : Frame → Frame → Prop} (h : Steps N F c c') (v : DriveNo) : c.Leaves v N c' where
  g := State.view_g h.view
  ctl := State.view_ctl h.view
  base := congrArg View.runBase h.view
  drive := by rw [(h.drive v).rest]
  recals := by rw [(h.drive v).counters]
  recorded := (h.drive v).recorded
  silent := (h.drive v).silent
  cleared hc := hc.of_eq h.channels.1 h.channels.2
  orders e he := h.order? he
  fwq := h.fwq
  waiters := h.waiters.1
  locks := h.waiters.2
  frameless := h.keys

theorem Ctx.Jobs.leaves {w : DriveNo} (h : c.Jobs w c') (v : DriveNo) : c.Leaves v N c' := by
  have drive : c'.drive v = { c.drive v with
      sched := (c'.drive v).sched, health := (c'.drive v).health, recordWrites := (c'.drive v).recordWrites }
      ∧ (c'.drive v).health.counters = (c.drive v).health.counters ∧ (c'.drive v).recordWrites = (c.drive v).recordWrites := by
    by_cases hv : v = w
    · subst hv
      exact ⟨by rw [h.drive], h.counters, by rw [h.drive]⟩
    · rw [h.others v hv]
      exact ⟨rfl, rfl, rfl⟩
  obtain ⟨drive, counters, writes⟩ := drive
  refine ⟨by rw [h.rest], by rw [h.rest], by rw [h.rest], drive, by rw [counters], by rw [writes], fun _ => writes,
    fun hc => hc.of_eq h.channels h.rounds, fun e _ => h.orders e, fun w hw => .inr ⟨w, ?_, rfl⟩, fun w hw => ?_, fun _ => by rw [h.rest], fun _ hn f => ?_⟩
  · rw [h.rest] at hw; exact hw
  · rw [h.rest] at hw; exact hw
  · have same : c'.frame f = c.frame f := by rw [State.frame, h.frames]; rfl
    rw [same]
    exact hn f

theorem Ctx.flagPick_leaves (c : Ctx) (v w : DriveNo) (N : EntryNo → Prop) : c.Leaves v N (c.flagPick w) :=
  (c.flagPick_jobs w).leaves v

/-- A change of a channel that makes no request. -/
theorem Ctx.setChan_leaves (c : Ctx) (v : DriveNo) (N : EntryNo → Prop) (p : PortNo) (h : Channel)
    (hp : (c.chan p).pendLow = none ∧ (c.chan p).pendHigh = none → h.pendLow = none ∧ h.pendHigh = none) :
    c.Leaves v N (c.setChan p h) := by
  refine .of_parts rfl rfl rfl rfl rfl rfl rfl rfl rfl rfl List.prefix_rfl (fun _ => rfl) fun hc q hq => ?_
  rw [Ctx.setChan_chan]
  split
  · next he => subst he; exact hp (hc q hq)
  · exact hc q hq

theorem Ctx.closeGate_leaves (c : Ctx) (v : DriveNo) (N : EntryNo → Prop) (p : PortNo) :
    c.Leaves v N (c.modChan p fun h => h.closeGate c.g) := by
  refine c.setChan_leaves v N p _ fun h => ?_
  dsimp only
  rw [Channel.closeGate_eq]
  exact h

/-- A change of another drive. -/
theorem Ctx.setDrive_leaves (c : Ctx) {v w : DriveNo} (N : EntryNo → Prop) (d : Drive) (hw : v ≠ w) :
    c.Leaves v N (c.setDrive w d) := by
  have same : (c.setDrive w d).drive v = c.drive v := c.setDrive_drive_ne w v d hw
  exact .of_parts rfl rfl rfl rfl rfl rfl rfl rfl (by rw [same]) (by rw [same]) (by rw [same]) (fun _ => by rw [same]) fun h => h

theorem Ctx.recordWrite_leaves (c : Ctx) (v w : DriveNo) (N : EntryNo → Prop) (x : Option Bool) :
    c.Leaves v N (c.recordWrite w x) := by
  have told := c.recordWrite_reported w v x
  have rest := c.recordWrite_onlyDrives w x
  have view := c.recordWrite_view w x
  exact .of_parts (State.view_g view) (State.view_ctl view) (congrArg View.runBase view) (by simp) (by rw [rest]) (by rw [rest])
    (by rw [rest]) (by rw [rest])
    (by rw [told.rest]) (by rw [told.counters]) told.recorded told.silent fun hc => hc.of_eq (by rw [rest]) (by rw [rest])

/-- A change of state of another drive. -/
theorem Ctx.setDriveState_leaves (c : Ctx) {v w : DriveNo} (N : EntryNo → Prop) (st : DriveState) (x : Cause) (hw : v ≠ w) :
    c.Leaves v N (c.setDriveState w st x) := by
  unfold Ctx.setDriveState
  dsimp only
  split
  · exact .refl v N c
  · have written := (c.setDrive_leaves N { c.drive w with state := st, cause := x } hw).trans
      (Ctx.recordWrite_leaves _ v w N (some ((c.drive w).state ≠ st && st == .ready)))
    split
    · exact written
    · exact written.trans (Ctx.flagPick_leaves _ v w N)

/-- A drive that serves nothing is not FORMATTING: its diskette format leaves it as it is (R173). -/
theorem Ctx.blankIncomplete_leaves (c : Ctx) (v w : DriveNo) (N : EntryNo → Prop) (hd : (c.drive v).down) :
    c.Leaves v N (c.blankIncomplete w) := by
  unfold Ctx.blankIncomplete
  split
  · next h =>
    have hw : v ≠ w := by
      rintro rfl
      exact hd.not_formatting h
    exact (c.setDrive_leaves N _ hw).trans (Ctx.setDriveState_leaves _ N _ _ hw)
  · exact .refl v N c

theorem Ctx.toIdle_leaves (c : Ctx) (v : DriveNo) (N : EntryNo → Prop) (p : PortNo) : c.Leaves v N (c.toIdle p) := by
  unfold Ctx.toIdle
  dsimp only
  split
  · exact ((c.setChan_leaves v N p _ fun _ => ⟨rfl, rfl⟩).trans ((Ctx.modSched_jobs _ (lowDrive p) _).leaves v)).trans
      ((Ctx.modSched_jobs _ (highDrive p) _).leaves v)
  · refine (c.setChan_leaves v N p _ fun _ => ⟨rfl, rfl⟩).trans
      (.of_parts rfl rfl rfl rfl rfl rfl rfl rfl rfl rfl List.prefix_rfl (fun _ => rfl) fun hc q hq => ?_)
    by_cases hqp : q = p
    · subst hqp
      exact ⟨by show ((c.setChan _ _).chan _).pendLow = _; rw [Ctx.setChan_chan_self]; rfl,
        by show ((c.setChan _ _).chan _).pendHigh = _; rw [Ctx.setChan_chan_self]; rfl⟩
    · refine hc q ?_
      dsimp only at hq
      split at hq
      · exact hq
      · obtain hq | hq := List.mem_append.mp hq
        · exact hq
        · exact absurd (List.mem_singleton.mp hq) hqp

/-- The counters of attempts are not that of recalibrations (R53). -/
theorem Ctx.countOutcome_leaves (c : Ctx) (v : DriveNo) (N : EntryNo → Prop) (r : Request) (x : Outcome) :
    c.Leaves v N (c.countOutcome r x) := by
  have one (c : Ctx) (k : Counter) (hk : k ≠ .recal) : c.Leaves v N (c.count r.drive k) := by
    by_cases hv : v = r.drive
    · subst hv
      have same : (c.count r.drive k).drive r.drive = { c.drive r.drive with health := (c.drive r.drive).health.count k } :=
        Ctx.setDrive_drive_self ..
      refine .of_parts rfl rfl rfl rfl rfl rfl rfl rfl (by rw [same]) ?_ (by rw [same]) (fun _ => by rw [same]) fun h => h
      rw [same]
      cases k <;> first | exact absurd rfl hk | (unfold Health.count; dsimp only; split <;> simp [Counter.index])
    · exact c.setDrive_leaves N _ hv
  have counters : ∀ k ∈ c.outcomeCounters r x, k ≠ .recal := by
    intro k hk
    rintro rfl
    simp only [State.outcomeCounters, List.mem_append] at hk
    obtain (hk | hk) | hk := hk
    · split at hk <;> simp at hk
    · split at hk <;> simp at hk
    · split at hk <;> simp only [List.mem_append, List.not_mem_nil] at hk <;> obtain hk | hk := hk <;>
        split at hk <;> simp at hk
  have all : ∀ (l : List Counter) (c : Ctx), (∀ k ∈ l, k ≠ .recal) →
      c.Leaves v N (l.foldl (fun c k => c.count r.drive k) c) := by
    intro l
    induction l with
    | nil => exact fun c _ => .refl v N c
    | cons k l ih =>
      exact fun c hl => (one c k (hl k (List.mem_cons_self ..))).trans (ih _ fun k hk => hl k (List.mem_cons_of_mem _ hk))
  exact all _ c counters

/-! #### The channel's work is cut -/

/-- The end of a FORMAT's job that is taken away. -/
inductive JobEnd.cut : JobEnd → Prop
  | fault : JobEnd.cut .fault
  | mediaLost : JobEnd.cut .mediaLost

/-- The orders that `N` does not name go on by no report. -/
def Ctx.Unnamed (N : EntryNo → Prop) (c : Ctx) : Prop := c.Covers N Order.Parked False

/-- What is left under the cover of the orders that the operations do not name. -/
def Ctx.Leaving (v : DriveNo) (N : EntryNo → Prop) (c c' : Ctx) : Prop :=
  (c.drive v).down → c.Unnamed N → c.Leaves v N c'

theorem Ctx.Leaves.leaving (h : c.Leaves v N c') : c.Leaving v N c' := fun _ _ => h

theorem Ctx.Leaving.trans (h : c.Leaving v N c') (h' : c'.Leaving v N c'') : c.Leaving v N c'' := fun hd hc =>
  (h hd hc).trans (h' ((h hd hc).down hd) ((h hd hc).covers (fun _ _ a h => a.parked h) hc))

theorem Works.leaving {F : Frame → Frame → Prop} (h : Works N Order.Parked False F c c') (v : DriveNo) : c.Leaving v N c' :=
  fun _ hc => (h (fun _ _ a h => a.parked h) hc).leaves v

theorem Ctx.blankIncomplete_leaving (c : Ctx) (v w : DriveNo) (N : EntryNo → Prop) : c.Leaving v N (c.blankIncomplete w) :=
  fun hd _ => c.blankIncomplete_leaves v w N hd

theorem Ctx.endOrder_leaving (c : Ctx) (v : DriveNo) {e : EntryNo} (code : Code) (n : Nat)
    (he : N e ∨ ∀ o, c.order? e = some o → o.stage = .finish) : c.Leaving v N (c.endOrder e code n) := by
  obtain he | he := he
  · exact (Works.endOrder (F := fun _ _ => True) (fun _ _ => trivial) c code n he).leaving v
  · rw [c.endOrder_finished e code n he]
    exact (Ctx.Leaves.refl v N c).leaving

theorem State.format?_some {s : State} {e : EntryNo} {o : Order} {w : DriveNo} (h : s.format? e = some (o, w)) :
    s.order? e = some o ∧ o.isFormat = true ∧ o.stage ≠ .finish ∧ driveOf? o.fields.drive = some w := by
  unfold State.format? at h
  split at h
  · next o' ho =>
    split at h
    · next hf =>
      obtain ⟨w', hw, he⟩ := Option.map_eq_some_iff.mp h
      cases he
      simp only [Bool.and_eq_true, bne_iff_ne, ne_eq] at hf
      exact ⟨ho, hf.1, hf.2, hw⟩
    · cases h
  · cases h

/-- An order that has ended is no FORMAT in flight. -/
theorem State.format?_finished {s : State} {e : EntryNo} (h : ∀ o, s.order? e = some o → o.stage = .finish) :
    s.format? e = none := by
  cases hf : s.format? e with
  | none => rfl
  | some x =>
    obtain ⟨o, w⟩ := x
    obtain ⟨ho, _, hs, _⟩ := State.format?_some hf
    exact absurd (h o ho) hs

/-- A FORMAT whose job is taken away ends, and its diskette format leaves a drive still FORMATTING (R169, R173). -/
theorem Ctx.formatJobEnd_leaving (c : Ctx) (v : DriveNo) {e : EntryNo} {x : JobEnd} (hx : x.cut)
    (he : N e ∨ ∀ o, c.order? e = some o → o.stage = .finish) : c.Leaving v N (c.formatJobEnd e x) := by
  obtain he | he := he
  · have ends (c : Ctx) (code : Code) (n : Nat) : c.Leaving v N (c.endOrder e code n) := c.endOrder_leaving v code n (.inl he)
    unfold Ctx.formatJobEnd Ctx.disketteJobEnd
    split
    · exact (Ctx.Leaves.refl v N c).leaving
    · split
      · exact (Ctx.Leaves.refl v N c).leaving
      · split
        · cases hx <;> exact ends _ _ _
        · cases hx <;> exact (c.blankIncomplete_leaving v _ N).trans (ends _ _ _)
  · rw [Ctx.formatJobEnd, State.format?_finished he]
    exact (Ctx.Leaves.refl v N c).leaving

theorem Ctx.formatJobEnd_channels (c : Ctx) (e : EntryNo) {x : JobEnd} (hx : x.cut) :
    (c.formatJobEnd e x).channels = c.channels := by
  have ends (c : Ctx) (code : Code) (n : Nat) : (c.endOrder e code n).channels = c.channels := by
    have steps := Works.endOrder (N := fun _ => True) (P := fun _ => True) (Q := False) (F := fun _ _ => True)
      (fun _ _ => trivial) c code n (e := e) trivial
    exact (steps (fun _ _ _ _ => trivial) fun _ h => absurd trivial h).channels.1
  have blank (c : Ctx) (w : DriveNo) : (c.blankIncomplete w).channels = c.channels := by
    unfold Ctx.blankIncomplete Ctx.setDriveState
    dsimp only
    split
    · split
      · rfl
      · split
        · rw [Ctx.recordWrite_onlyDrives]; rfl
        · rw [Ctx.flagPick_eq, Ctx.recordWrite_onlyDrives]; rfl
    · rfl
  unfold Ctx.formatJobEnd Ctx.disketteJobEnd
  split
  · rfl
  · split
    · rfl
    · split
      · cases hx <;> exact ends _ _ _
      · cases hx <;> exact (ends _ _ _).trans (blank _ _)

/-- The FORMAT whose running job holds the slot of a drive is one that `N` names, or has ended. -/
def Ctx.JobNamed (N : EntryNo → Prop) (v : DriveNo) (c : Ctx) : Prop :=
  ∀ j e, (c.drive v).sched.job = some j → j.requester = .format e → N e ∨ ∀ o, c.order? e = some o → o.stage = .finish

/-- An order that has ended stays so. -/
theorem Ctx.Leaves.ended (h : c.Leaves v N c') {e : EntryNo}
    (he : N e ∨ ∀ o, c.order? e = some o → o.stage = .finish) : N e ∨ ∀ o, c'.order? e = some o → o.stage = .finish := by
  by_cases hN : N e
  · exact .inl hN
  · refine .inr fun o' ho' => ?_
    cases h0 : c.order? e with
    | none => rw [(h.orders e hN).2 h0] at ho'; cases ho'
    | some o =>
      obtain ⟨o1, ho1, a⟩ := (h.orders e hN).1 o h0
      rw [ho1] at ho'
      cases ho'
      exact a.stage.trans (he.resolve_left hN o h0)

/-- A track job of the current work is taken away (R58, R169, R173). -/
theorem Ctx.trackJobEnd_leaving (c : Ctx) (v : DriveNo) (p : PortNo) (r : Request) {x : JobEnd} (hx : x.cut)
    (hn : c.JobNamed N r.drive) : c.Leaving v N (c.trackJobEnd p r x) := by
  have gate : c.Leaving v N (c.modChan p fun h => h.closeGate c.g) := (c.closeGate_leaves v N p).leaving
  have idle (c : Ctx) : c.Leaving v N (c.toIdle p) := (c.toIdle_leaves v N p).leaving
  unfold Ctx.trackJobEnd
  dsimp only
  split
  · next j hj =>
    have ended := (gate.trans ((Ctx.jobEnded_jobs _ r.drive).leaves v).leaving).trans (idle _)
    split
    · next hk =>
      split
      · next e hr =>
        intro hd hc
        have sofar := ended hd hc
        exact sofar.trans (Ctx.formatJobEnd_leaving _ v hx (sofar.ended (hn j e hj hr)) (sofar.down hd)
          (sofar.covers (fun _ _ a h => a.parked h) hc))
      · exact ended.trans (Ctx.blankIncomplete_leaving _ v _ N)
      all_goals exact ended
    · exact gate.trans (idle _)
  · exact gate.trans (idle _)

/-- A sector attempt that is taken away ends, and its channel returns to IDLE (R50, R60, R61). -/
theorem Ctx.endAttempt_leaving (c : Ctx) (p : PortNo) (x : Outcome) (hx : x.keepsBurst = false)
    (hr : ∀ r, (c.chan p).work = some r → r.drive = v) : c.Leaving v N (c.endAttempt p x) := by
  unfold Ctx.endAttempt
  split
  · exact (Ctx.Leaves.refl v N c).leaving
  · next r hw =>
    obtain rfl := hr r hw
    have gate : c.Leaving r.drive N (c.modChan p fun h => h.closeGate c.g) := (c.closeGate_leaves r.drive N p).leaving
    have owes (c : Ctx) : c.Leaving r.drive N (c.oweRecal p r x) := fun hd hc => by
      unfold Ctx.oweRecal
      split
      · have marked : c.Leaves r.drive N (c.modChan p fun h => h.setOwed r.drive true) := by
          refine c.setChan_leaves r.drive N p _ fun h => ?_
          unfold Channel.setOwed
          split <;> exact h
        rw [Ctx.recalRequest_untaken _ _ ?_]
        · exact marked
        · exact (marked.down hd).takesRecal
      · exact .refl r.drive N c
    have reports (c : Ctx) : c.Leaving r.drive N (c.reportOutcome p r x) :=
      (Works.reportOutcome (F := fun _ _ => True) (fun _ h => h) (fun _ _ => trivial) c p r x).leaving r.drive
    dsimp only
    rw [hx]
    exact (((gate.trans (Ctx.countOutcome_leaves _ r.drive N r x).leaving).trans (owes _)).trans (reports _)).trans
      (Ctx.toIdle_leaves _ r.drive N p).leaving

/-- A DISCOVER job that is taken away has nothing to conclude, at a drive that is not in DISCOVERY (R21). -/
theorem Ctx.listenEnd_leaving (c : Ctx) (p : PortNo) (r : Request) (x : Option (List Heard)) :
    c.Leaving r.drive N (c.listenEnd p r x) := fun hd hc => by
  have idle : c.Leaves r.drive N ((c.jobEnded r.drive).toIdle p) :=
    ((c.jobEnded_jobs r.drive).leaves r.drive).trans (Ctx.toIdle_leaves _ r.drive N p)
  rw [Ctx.listenEnd, Ctx.discoveryReport_away _ _ _ (idle.down hd).not_discovery]
  exact idle

/-- The current work of a drive that serves nothing is cut (R60, R61). -/
theorem Ctx.cutWork_leaving (c : Ctx) (v : DriveNo) {x : Outcome} {y : JobEnd} (hx : x.keepsBurst = false) (hy : y.cut)
    (hn : c.JobNamed N v) : c.Leaving v N (c.cutWork v x y) := by
  unfold Ctx.cutWork
  dsimp only
  split
  · exact (Ctx.Leaves.refl v N c).leaving
  · next r hw =>
    split
    · exact (Ctx.Leaves.refl v N c).leaving
    · next hv =>
      obtain rfl := not_not.mp hv
      split
      · exact c.endAttempt_leaving _ x hx fun r' hr' => by rw [hw] at hr'; cases hr'; rfl
      · split
        · exact c.listenEnd_leaving _ r none
        · exact c.trackJobEnd_leaving r.drive _ r hy hn

theorem Ctx.withdraw_leaves (c : Ctx) (v : DriveNo) (N : EntryNo → Prop) : c.Leaves v N (c.withdraw v) := by
  refine c.setChan_leaves v N _ _ fun h => ?_
  unfold Channel.setPend
  split
  · exact ⟨rfl, h.2⟩
  · exact ⟨h.1, rfl⟩

theorem Ctx.toIdle_chan (c : Ctx) (p : PortNo) : ((c.toIdle p).chan p).work = none ∧ ((c.toIdle p).chan p).state = .idle := by
  unfold Ctx.toIdle
  dsimp only
  split
  · have same : ((c.setChan p ((c.chan p).idled false)).clearHolds p).chan p = (c.chan p).idled false :=
      c.setChan_chan_self p _
    rw [same]
    exact ⟨rfl, rfl⟩
  · have same : ((c.setChan p ((c.chan p).idled true)).chan p) = (c.chan p).idled true := c.setChan_chan_self p _
    exact ⟨(congrArg Channel.work same).trans rfl, (congrArg Channel.state same).trans rfl⟩

theorem State.chan_of_channels {s t : State} (h : s.channels = t.channels) (p : PortNo) : s.chan p = t.chan p := by
  rw [State.chan, h]; rfl

/-- A drive whose work was cut is at work no more. -/
theorem Ctx.cutWork_work (c : Ctx) (v : DriveNo) {x : Outcome} {y : JobEnd} (hx : x.keepsBurst = false) (hy : y.cut)
    (hd : (c.drive v).down) : ∀ r, ((c.cutWork v x y).chan (portOf v)).work = some r → r.drive ≠ v := by
  have idle (c : Ctx) : ∀ r, ((c.toIdle (portOf v)).chan (portOf v)).work = some r → r.drive ≠ v := fun r hr => by
    rw [(c.toIdle_chan (portOf v)).1] at hr
    cases hr
  unfold Ctx.cutWork
  dsimp only
  split
  · next hw => intro r hr; rw [hw] at hr; cases hr
  · next r hw =>
    split
    · next hv => intro r' hr'; rw [hw] at hr'; cases hr'; exact hv
    · next hv =>
      obtain rfl := not_not.mp hv
      split
      · unfold Ctx.endAttempt
        rw [hw]
        dsimp only
        rw [hx]
        exact idle _
      · split
        · have left : c.Leaves r.drive (fun _ => True) ((c.jobEnded r.drive).toIdle (portOf r.drive)) :=
            ((c.jobEnded_jobs r.drive).leaves r.drive).trans (Ctx.toIdle_leaves _ r.drive _ _)
          rw [Ctx.listenEnd, Ctx.discoveryReport_away _ _ _ (left.down hd).not_discovery]
          exact idle _
        · unfold Ctx.trackJobEnd
          dsimp only
          split
          · split
            · have left : c.Leaves r.drive (fun _ => True)
                  (((c.modChan (portOf r.drive) fun h => h.closeGate c.g).jobEnded r.drive).toIdle (portOf r.drive)) :=
                ((c.closeGate_leaves r.drive _ _).trans ((Ctx.jobEnded_jobs _ r.drive).leaves r.drive)).trans
                  (Ctx.toIdle_leaves _ r.drive _ _)
              split
              · rw [State.chan_of_channels (Ctx.formatJobEnd_channels _ _ hy)]
                exact idle _
              · rw [Ctx.blankIncomplete_away _ (left.down hd).not_formatting]
                exact idle _
              all_goals exact idle _
            · exact idle _
          · exact idle _

end Leaves
end Sys2Proof.Machine

-- ==== Sys2Proof/Proofs/Faults.lean ====
namespace Sys2Proof.Machine

open Sys2Proof

/-! ### A change of state and its record write (R113, R114) -/

/-- What the record of a drive shows: no part but these. -/
theorem Drive.recordBytes_eq {d d' : Drive} (n : Nat) (state : d.state = d'.state) (cause : d.cause = d'.cause)
    (generation : d.generation = d'.generation) (headCount : d.headCount = d'.headCount)
    (protect : d.writeProtect = d'.writeProtect) (cylinder : d.cylinder = d'.cylinder)
    (known : d.layoutKnown = d'.layoutKnown) (active : d.timer.active = d'.timer.active) (p16 : d.timer.p16 = d'.timer.p16)
    (snapshot : d.health.snapshot = d'.health.snapshot) : d.recordBytes n = d'.recordBytes n := by
  simp only [Drive.recordBytes, snapshotBytes, state, cause, generation, headCount, protect, cylinder, known, active, p16,
    snapshot]

/-- A drive in another state or with another cause. -/
def Drive.entering (d : Drive) (st : DriveState) (x : Cause) : Drive := { d with state := st, cause := x }

/-- A change of state or cause at its drive: the state, the cause and the record write. -/
theorem Ctx.setDriveState_drive (c : Ctx) (v : DriveNo) (st : DriveState) (x : Cause)
    (h : ¬ ((c.drive v).state = st ∧ (c.drive v).cause = x)) :
    (c.setDriveState v st x).drive v = { (c.drive v).entering st x with
      recordWrites := (c.drive v).recordWrites ++ if c.ctl.tableWrites then
          [⟨⟨driveRecordAddr c.runBase v, ((c.drive v).entering st x).recordBytes (c.strandedCount v)⟩,
            some (decide ((c.drive v).state ≠ st) && st == .ready)⟩]
        else [] } := by
  have written := (c.modDrive v fun d => { d with state := st, cause := x }).recordWrite_drive v v
    (some (decide ((c.drive v).state ≠ st) && st == .ready))
  have changed : (c.modDrive v fun d => { d with state := st, cause := x }).drive v
      = (c.drive v).entering st x := Ctx.setDrive_drive_self ..
  have counted : (c.modDrive v fun d => { d with state := st, cause := x }).strandedCount v = c.strandedCount v := rfl
  rw [changed, counted] at written
  unfold Ctx.setDriveState
  dsimp only
  rw [if_neg h]
  have same {c1 c2 : Ctx} (hc : c2 = c1 ∨ c2 = c1.flagPick v) : c2.drive v = c1.drive v := by
    obtain rfl | rfl := hc
    · rfl
    · exact c1.flagPick_drive v v
  rw [same (c1 := (c.modDrive v fun d => { d with state := st, cause := x }).recordWrite v
      (some (decide ((c.drive v).state ≠ st) && st == .ready))) (by split <;> simp), written]
  cases hb : c.ctl.tableWrites <;> simp [Ctx.modDrive, hb, Drive.entering]

/-- What a change of state leaves beside the drive: a pick point may come. -/
theorem Ctx.setDriveState_rest (c : Ctx) (v : DriveNo) (st : DriveState) (x : Cause) :
    c.setDriveState v st x = { c with
      drives := (c.setDriveState v st x).drives, picks := (c.setDriveState v st x).picks } := by
  unfold Ctx.setDriveState
  dsimp only
  split
  · rfl
  · split
    · rw [(c.modDrive v _).recordWrite_onlyDrives v _]; rfl
    · rw [Ctx.flagPick_eq, (c.modDrive v _).recordWrite_onlyDrives v _]; rfl

theorem Ctx.setDriveState_other (c : Ctx) {v w : DriveNo} (st : DriveState) (x : Cause) (h : w ≠ v) :
    (c.setDriveState v st x).drive w = c.drive w := by
  have changed : (c.modDrive v fun d => { d with state := st, cause := x }).drive w = c.drive w :=
    c.setDrive_drive_ne v w _ h
  unfold Ctx.setDriveState
  dsimp only
  split
  · rfl
  · split
    · rw [Ctx.recordWrite_drive, if_neg fun hw => h hw.1, changed]
    · rw [Ctx.flagPick_drive, Ctx.recordWrite_drive, if_neg fun hw => h hw.1, changed]

theorem CtlState.tableWrites_iff {x : CtlState} :
    x.tableWrites = true ↔ x = .running ∨ x = .draining ∨ x = .shedding ∨ x = .safe := by
  cases x <;> simp [CtlState.tableWrites]

theorem CtlState.tableWrites_false {x : CtlState} (h : x = .stopped ∨ x = .starting ∨ x = .failed) : x.tableWrites = false := by
  obtain rfl | rfl | rfl := h <;> rfl

/-- A change of state that stands in the record at the end of the command. -/
theorem Ctx.recordsChange_of {s t : State} {c : Ctx} {v : DriveNo} {st : DriveState} {x : Cause} {d : Drive} {n : Nat}
    {ready : Bool} (ctl : c.ctl = s.ctl) (base : c.runBase = s.runBase)
    (before : (c.drive v).recordWrites = (s.drive v).recordWrites) (counted : c.strandedCount v = n)
    (changes : ¬ ((c.drive v).state = st ∧ (c.drive v).cause = x))
    (bytes : ((c.drive v).entering st x).recordBytes n = d.recordBytes n)
    (entered : (decide ((c.drive v).state ≠ st) && st == .ready) = ready)
    (later : ((c.setDriveState v st x).drive v).recordWrites <+: (t.drive v).recordWrites)
    (silent : s.ctl.tableWrites = false → (t.drive v).recordWrites = ((c.setDriveState v st x).drive v).recordWrites) :
    s.recordsChange t v d n ready := by
  rw [c.setDriveState_drive v st x changes] at later silent
  dsimp only at later silent
  rw [before, counted, bytes, entered, ctl, base] at later
  rw [before, ctl] at silent
  refine ⟨fun h => ?_, fun h => ?_⟩
  · rw [CtlState.tableWrites_iff.mpr h, if_pos rfl] at later
    exact later
  · have hb := CtlState.tableWrites_false h
    rw [silent hb, hb]
    simp

/-! ### The entry to FAULT (R8, R61, R105, R169, R173) -/

section Leaves
variable {v : DriveNo} {N : EntryNo → Prop} {c c' : Ctx}

/-- A FORMAT at the entry of its drive to FAULT, under the name of the orders that end (R169, R173). -/
theorem Ctx.formatAtFault_leaving (c : Ctx) (v w : DriveNo) {e : EntryNo}
    (he : N e ∨ ∀ o, c.order? e = some o → o.stage = .finish) : c.Leaving v N (c.formatAtFault e w) := by
  unfold Ctx.formatAtFault
  split
  · exact (Ctx.Leaves.refl v N c).leaving
  · split
    · exact (Ctx.Leaves.refl v N c).leaving
    · split
      · exact c.endOrder_leaving v _ _ he
      · exact c.endOrder_leaving v _ _ he
      · exact c.endOrder_leaving v _ _ he
      · exact c.endOrder_leaving v _ _ he
      · split
        · exact (Ctx.Leaves.refl v N c).leaving
        · exact c.endOrder_leaving v _ _ he

theorem Ctx.endOrder_steps (c : Ctx) (e : EntryNo) (code : Code) (n : Nat) :
    Steps (fun _ => True) (fun _ _ => True) c (c.endOrder e code n) :=
  Works.endOrder (P := fun _ => True) (Q := False) (fun _ _ => trivial) c code n trivial (fun _ _ _ _ => trivial)
    fun _ h => absurd trivial h

/-- The FORMATs of a drive that fall at its entry to FAULT are ended as orders are. -/
theorem Ctx.formatsAtFault_steps (c : Ctx) (v : DriveNo) :
    Steps (fun _ => True) (fun _ _ => True) c (c.formatsAtFault v) := by
  have one (c : Ctx) (e : EntryNo) : Steps (fun _ => True) (fun _ _ => True) c (c.formatAtFault e v) := by
    unfold Ctx.formatAtFault
    split
    · exact .refl
    · split
      · exact .refl
      · split
        · exact c.endOrder_steps _ _ _
        · exact c.endOrder_steps _ _ _
        · exact c.endOrder_steps _ _ _
        · exact c.endOrder_steps _ _ _
        · split
          · exact .refl
          · exact c.endOrder_steps _ _ _
  have all : ∀ (l : List EntryNo) (c : Ctx),
      Steps (fun _ => True) (fun _ _ => True) c (l.foldl (fun c e => c.formatAtFault e v) c) := by
    intro l
    induction l with
    | nil => exact fun _ => .refl
    | cons e l ih => exact fun c => (one c e).trans (ih _)
  exact all _ c

/-- The end of a FORMAT's job that is taken away leaves the scheduler. -/
theorem Ctx.formatJobEnd_sched (c : Ctx) (e : EntryNo) {x : JobEnd} (hx : x.cut) (hd : (c.drive v).down) :
    ((c.formatJobEnd e x).drive v).sched = (c.drive v).sched := by
  have ends (c : Ctx) (code : Code) (n : Nat) : ((c.endOrder e code n).drive v).sched = (c.drive v).sched := by
    rw [((c.endOrder_steps e code n).drive v).rest]
  have blank (w : DriveNo) : ((c.blankIncomplete w).drive v).sched = (c.drive v).sched := by
    by_cases hw : v = w
    · subst hw
      rw [c.blankIncomplete_away hd.not_formatting]
    · unfold Ctx.blankIncomplete
      split
      · rw [Ctx.setDriveState_other _ _ _ hw]
        exact congrArg Drive.sched (c.setDrive_drive_ne w v _ hw)
      · rfl
  unfold Ctx.formatJobEnd Ctx.disketteJobEnd
  split
  · rfl
  · split
    · rfl
    · split
      · cases hx <;> exact ends _ _ _
      · cases hx <;> exact (ends _ _ _).trans (blank _)

/-- The scheduler gives up its work (R105). -/
theorem Ctx.schedDrop_leaves (c : Ctx) (v : DriveNo) {x : JobEnd} (hx : x.cut) (hd : (c.drive v).down) :
    c.Leaves v (fun _ => True) (c.schedDrop v x)
      ∧ ((c.schedDrop v x).drive v).sched.job = none ∧ ((c.schedDrop v x).drive v).sched.target = none
      ∧ ((c.schedDrop v x).drive v).sched.state = .quiet ∧ (c.schedDrop v x).channels = c.channels := by
  have quiet := (c.modSched_jobs v fun x => { x with state := .quiet, target := none }).leaves (N := fun _ => True) v
  have at1 : (c.modSched v fun x => { x with state := .quiet, target := none }).drive v
      = { c.drive v with sched := { (c.drive v).sched with state := .quiet, target := none } } := Ctx.setDrive_drive_self ..
  unfold Ctx.schedDrop
  dsimp only
  split
  · next hj => exact ⟨quiet, hj, by rw [at1], by rw [at1], rfl⟩
  · next j hj =>
    have ended := quiet.trans ((Ctx.jobEnded_jobs _ v).leaves v)
    have at2 := Ctx.jobEnded_drive (c.modSched v fun x => { x with state := .quiet, target := none }) v
      fun _ => (quiet.down hd).not_discovery
    have channels : ((c.modSched v fun x => { x with state := .quiet, target := none }).jobEnded v).channels = c.channels :=
      (Ctx.jobEnded_jobs _ v).channels
    split
    · next e _ =>
      have all (c : Ctx) : c.Unnamed fun _ => True := fun _ h => absurd trivial h
      have told := (Ctx.formatJobEnd_leaving (N := fun _ => True)
        ((c.modSched v fun x => { x with state := .quiet, target := none }).jobEnded v) v hx (e := e) (.inl trivial))
        (ended.down hd) (all _)
      have same := Ctx.formatJobEnd_sched ((c.modSched v fun x => { x with state := .quiet, target := none }).jobEnded v) e hx
        (ended.down hd)
      rw [at2, at1] at same
      exact ⟨ended.trans told, by rw [same], by rw [same], by rw [same],
        (Ctx.formatJobEnd_channels _ e hx).trans channels⟩
    all_goals
      exact ⟨ended, by rw [at2], by rw [at2, at1], by rw [at2, at1], channels⟩

/-- What is left of the drive at its entry to FAULT, once its state has changed (R8). -/
def Ctx.giveUp (c : Ctx) (v : DriveNo) : Ctx := ((c.channelFault v).formatsAtFault v).schedDrop v .fault

theorem Ctx.faultEntry_eq (c : Ctx) (v : DriveNo) (x : Cause) (h : (c.drive v).state ≠ .fault) :
    c.faultEntry v x = ((c.modDrive v fun d => d.enterFault c.g x).setDriveState v .fault x).giveUp v := by
  rw [Ctx.faultEntry, if_neg h]
  rfl

theorem Ctx.unnamed_all (c : Ctx) : c.Unnamed fun _ => True := fun _ h => absurd trivial h

theorem Ctx.channelFault_leaves (c : Ctx) (v : DriveNo) (hd : (c.drive v).down) :
    c.Leaves v (fun _ => True) (c.channelFault v) := by
  have withdrawn := c.withdraw_leaves v fun _ => True
  exact withdrawn.trans ((Ctx.cutWork_leaving (c.withdraw v) v rfl .fault fun _ _ _ _ => .inl trivial) (withdrawn.down hd)
    (Ctx.unnamed_all _))

/-- A drive in FAULT gives up its work: the job, the arm target and the channel's work for it. -/
theorem Ctx.giveUp_leaves (c : Ctx) (v : DriveNo) (hd : (c.drive v).down) :
    c.Leaves v (fun _ => True) (c.giveUp v) ∧ ((c.giveUp v).drive v).sched.job = none
      ∧ ((c.giveUp v).drive v).sched.target = none ∧ ((c.giveUp v).drive v).sched.state = .quiet
      ∧ ∀ r, ((c.giveUp v).chan (portOf v)).work = some r → r.drive ≠ v := by
  have cut := c.channelFault_leaves v hd
  have told : (c.channelFault v).Leaves v (fun _ => True) ((c.channelFault v).formatsAtFault v) :=
    Steps.leaves ((c.channelFault v).formatsAtFault_steps v) v
  have ended := cut.trans told
  have down := ended.down hd
  have stood : ((c.channelFault v).formatsAtFault v).channels = (c.channelFault v).channels :=
    (Steps.channels ((c.channelFault v).formatsAtFault_steps v)).1
  unfold Ctx.giveUp
  generalize (c.channelFault v).formatsAtFault v = c1 at ended down stood ⊢
  obtain ⟨dropped, job, target, quiet, channels⟩ := c1.schedDrop_leaves v .fault down
  refine ⟨ended.trans dropped, job, target, quiet, fun r hr => ?_⟩
  have same : (c1.schedDrop v .fault).channels = (c.channelFault v).channels := channels.trans stood
  rw [State.chan_of_channels same] at hr
  exact Ctx.cutWork_work (c.withdraw v) v rfl .fault ((c.withdraw_leaves v fun _ => True).down hd) r hr

end Leaves
end Sys2Proof.Machine

-- ==== Sys2Proof/Proofs/Loads.lean ====
namespace Sys2Proof.Machine

open Sys2Proof

/-! ### The entry to FAULT to the end of its command, and media loads -/

/-- In FAULT a drive serves nothing (R95). -/
theorem Drive.entering_fault_down (d : Drive) (x : Cause) : (d.entering .fault x).down := fun k => by cases k <;> rfl

/-- A change of state leaves the channels and the release rounds. -/
theorem Ctx.setDriveState_cleared {c : Ctx} (v : DriveNo) (st : DriveState) (x : Cause) (hc : c.Cleared) :
    (c.setDriveState v st x).Cleared :=
  hc.of_eq (by rw [c.setDriveState_rest v st x]) (by rw [c.setDriveState_rest v st x])

theorem Ctx.modDrive_cleared {c : Ctx} (v : DriveNo) (k : Drive → Drive) (hc : c.Cleared) : (c.modDrive v k).Cleared :=
  hc.of_eq rfl rfl

/-- A command begins with no release round. -/
theorem Ctx.of_cleared (s : State) : (Ctx.of s).Cleared := fun _ h => nomatch h

/-- What a change of state has done by the end of its command (R113, R114). -/
structure Ctx.Entered (c : Ctx) (v : DriveNo) (st : DriveState) (x : Cause) (t : State) : Prop where
  view : (t.drive v).view = ((c.drive v).entering st x).view
  ready : (t.drive v).lines.ready = (c.drive v).lines.ready
  fault : (t.drive v).lines.driveFault = (c.drive v).lines.driveFault
  records : ∀ (s : State) (d : Drive) (n : Nat) (ready : Bool), c.ctl = s.ctl → c.runBase = s.runBase →
    (c.drive v).recordWrites = (s.drive v).recordWrites → c.strandedCount v = n →
    (decide ((c.drive v).state ≠ st) && st == .ready) = ready →
    ((c.drive v).entering st x).recordBytes n = d.recordBytes n → s.recordsChange t v d n ready

/-- A change of state stands where what follows keeps the drive. -/
theorem Ctx.Entered.of_kept {c : Ctx} {v : DriveNo} {st : DriveState} {x : Cause} {t : State}
    (changes : ¬ ((c.drive v).state = st ∧ (c.drive v).cause = x))
    (kept : ((c.setDriveState v st x).drive v).Kept c.ctl.tableWrites (t.drive v)) : c.Entered v st x t := by
  have set := c.setDriveState_drive v st x changes
  refine ⟨?_, ?_, ?_, fun s d n ready ctl base before counted entered bytes => ?_⟩
  · rw [kept.view, set]; rfl
  · rw [kept.ready, set]; rfl
  · rw [kept.fault, set]; rfl
  · exact Ctx.recordsChange_of ctl base before counted changes bytes entered kept.recorded (ctl ▸ kept.silent)

theorem Ctx.setDriveState_ctl (c : Ctx) (v : DriveNo) (st : DriveState) (x : Cause) :
    (c.setDriveState v st x).ctl = c.ctl := by rw [Ctx.setDriveState_rest]

theorem Ctx.setDriveState_finish (c : Ctx) {v : DriveNo} {st : DriveState} {x : Cause}
    (changes : ¬ ((c.drive v).state = st ∧ (c.drive v).cause = x)) : c.Entered v st x (c.setDriveState v st x).finish :=
  .of_kept changes (c.setDriveState_ctl v st x ▸ Ctx.finish_kept _ v)

/-- What an entry to FAULT has done by the end of its command (R8, R61, R105, R113). -/
structure Ctx.Faulted (c : Ctx) (v : DriveNo) (x : Cause) (t : State) : Prop where
  drive : t.drive v = { ((c.drive v).enterFault c.g x).entering .fault x with
    sched := (t.drive v).sched, health := (t.drive v).health, recordWrites := (t.drive v).recordWrites }
  job : (t.drive v).sched.job = none
  target : (t.drive v).sched.target = none
  quiet : (t.drive v).sched.state = .quiet
  recals : (t.drive v).health.counters[7] = (c.drive v).health.counters[7]
  work : ∀ r, (t.chan (portOf v)).work = some r → r.drive ≠ v
  records : ∀ (s : State) (d : Drive) (n : Nat), c.ctl = s.ctl → c.runBase = s.runBase →
    (c.drive v).recordWrites = (s.drive v).recordWrites → c.strandedCount v = n →
    (((c.drive v).enterFault c.g x).entering .fault x).recordBytes n = d.recordBytes n → s.recordsChange t v d n false

theorem Ctx.faultEntry_finish (c : Ctx) {v : DriveNo} (x : Cause) (h : (c.drive v).state ≠ .fault) (hc : c.Cleared) :
    c.Faulted v x (c.faultEntry v x).finish := by
  rw [c.faultEntry_eq v x h]
  have at0 : (c.modDrive v fun d => d.enterFault c.g x).drive v = (c.drive v).enterFault c.g x := Ctx.setDrive_drive_self ..
  have state0 : ((c.modDrive v fun d => d.enterFault c.g x).drive v).state = (c.drive v).state := by rw [at0]; rfl
  have changes : ¬ (((c.modDrive v fun d => d.enterFault c.g x).drive v).state = .fault
      ∧ ((c.modDrive v fun d => d.enterFault c.g x).drive v).cause = x) := by
    rw [state0]; exact fun hs => h hs.1
  have at1 := (c.modDrive v fun d => d.enterFault c.g x).setDriveState_drive v .fault x changes
  have cleared1 := Ctx.setDriveState_cleared v .fault x (Ctx.modDrive_cleared v (fun d => d.enterFault c.g x) hc)
  have ctl1 : ((c.modDrive v fun d => d.enterFault c.g x).setDriveState v .fault x).ctl = c.ctl := by
    rw [Ctx.setDriveState_rest]; rfl
  have entered {t : State} := Ctx.Entered.of_kept (t := t) changes
  rw [at0] at at1
  generalize (c.modDrive v fun d => d.enterFault c.g x).setDriveState v .fault x = c1 at at1 cleared1 ctl1 entered ⊢
  have down1 : (c1.drive v).down := fun k => by
    rw [at1]
    exact ((c.drive v).enterFault c.g x).entering_fault_down x k
  obtain ⟨gave, job, target, quiet, work⟩ := c1.giveUp_leaves v down1
  generalize c1.giveUp v = c2 at gave job target quiet work ⊢
  obtain ⟨⟨y, hy, final⟩, heads, counters, taken⟩ := c2.finish_down (gave.down down1) (gave.cleared cleared1)
  have kept := c2.finish_kept v
  rw [gave.ctl] at kept
  have heads' : (c2.finish.drive v).heads = .unloaded := by
    obtain hh | hh := heads
    · rw [hh, gave.drive, at1]; rfl
    · exact hh
  have recals : (c2.finish.drive v).health.counters[7] = (c.drive v).health.counters[7] := by
    rw [counters, gave.recals, at1]
    rfl
  refine ⟨?_, by rw [final]; exact job, by rw [final]; exact target, ?_, recals, fun r hr hd => work r (taken _ r hr hd) hd, ?_⟩
  · rw [final] at heads' ⊢
    dsimp only at heads'
    rw [heads', gave.drive, at1]
    rfl
  · rw [final]
    obtain rfl | rfl := hy
    · exact quiet
    · rfl
  · intro s d n ctl base before counted bytes
    have given : (c1.drive v).Kept c1.ctl.tableWrites (c2.drive v) :=
      ⟨by rw [gave.drive]; rfl, by rw [gave.drive], by rw [gave.drive], gave.recorded, gave.silent⟩
    exact (entered (ctl1 ▸ given.trans kept)).records s d n false ctl base (by rw [at0]; exact before) counted
      (Bool.and_false _) (by rw [at0]; exact bytes)

/-- After an entry to FAULT the port's channel is not at work on the drive (R61). -/
theorem Ctx.faultEntry_work (c : Ctx) {v : DriveNo} (x : Cause) (h : (c.drive v).state ≠ .fault) :
    ∀ r, ((c.faultEntry v x).chan (portOf v)).work = some r → r.drive ≠ v := by
  have entered : ((c.modDrive v fun d => d.enterFault c.g x).drive v).state ≠ .fault := by
    rw [Ctx.modDrive, Ctx.setDrive_drive_self]
    exact h
  rw [c.faultEntry_eq v x h]
  refine (Ctx.giveUp_leaves _ v fun k => ?_).2.2.2.2
  rw [Ctx.setDriveState_drive _ v .fault x fun hs => entered hs.1]
  cases k <;> rfl

/-! ### Media loads (R4) -/

/-- The state at a rise of READY, loaded. -/
def Ctx.loading (s : State) (v : DriveNo) (wp ts : Bool) : Ctx :=
  ((Ctx.of s).setReady v true).modDrive v fun d => d.load s.g wp ts

section Loading
variable (s : State) (v : DriveNo) (wp ts : Bool)

theorem Ctx.loading_drive : (Ctx.loading s v wp ts).drive v = (s.drive v).load s.g wp ts := by
  have level : ((Ctx.of s).setReady v true).drive v = { s.drive v with lines := { (s.drive v).lines with ready := true } } :=
    Ctx.setDrive_drive_self ..
  rw [Ctx.loading, Ctx.modDrive, Ctx.setDrive_drive_self, level]
  rfl

theorem Ctx.loading_other {w : DriveNo} (hw : w ≠ v) : (Ctx.loading s v wp ts).drive w = s.drive w :=
  (Ctx.setDrive_drive_ne _ _ _ _ hw).trans (Ctx.setDrive_drive_ne _ _ _ _ hw)

theorem Ctx.loading_cleared : (Ctx.loading s v wp ts).Cleared :=
  Ctx.modDrive_cleared _ _ (Ctx.modDrive_cleared _ _ (Ctx.of_cleared s))

/-- The load's record shows what its timer holds. -/
theorem Drive.load_recordBytes (d : Drive) (st : DriveState) (x : Cause) (n : Nat) {timer : Timer}
    (h : timer = d.timer.load s.g) :
    ((d.load s.g wp ts).entering st x).recordBytes n = Drive.recordBytes
      { d with state := st, cause := x, generation := d.generation + 1, writeProtect := wp
               headCount := if ts then 2 else 1, layoutKnown := false, timer := timer } n := by
  subst h
  exact Drive.recordBytes_eq _ rfl rfl rfl rfl rfl rfl rfl rfl rfl rfl

/-- A load without DRIVE FAULT ends in SPINUP, which serves nothing and so loads no heads. -/
theorem Ctx.loading_spinup (hs : (s.drive v).state = .empty) :
    (Ctx.loading s v wp ts).Entered v .spinup .none ((Ctx.loading s v wp ts).setDriveState v .spinup .none).finish
    ∧ ((((Ctx.loading s v wp ts).setDriveState v .spinup .none).finish).drive v).heads = .unloaded
    ∧ ∀ w, w ≠ v → (((Ctx.loading s v wp ts).setDriveState v .spinup .none).finish.drive w).view = (s.drive w).view := by
  have changes : ¬ (((Ctx.loading s v wp ts).drive v).state = .spinup
      ∧ ((Ctx.loading s v wp ts).drive v).cause = .none) := by
    rw [Ctx.loading_drive]
    rintro ⟨h, _⟩
    cases hs.symm.trans h
  refine ⟨Ctx.setDriveState_finish _ changes, ?_, fun w hw => ?_⟩
  · have set := Ctx.setDriveState_drive _ v .spinup .none changes
    have cleared := Ctx.setDriveState_cleared v .spinup .none (Ctx.loading_cleared s v wp ts)
    have unloaded : ((Ctx.loading s v wp ts).drive v).heads = .unloaded := by rw [Ctx.loading_drive]; rfl
    generalize (Ctx.loading s v wp ts).setDriveState v .spinup .none = c at set cleared ⊢
    have down : (c.drive v).down := fun k => by rw [set]; cases k <;> rfl
    obtain heads | heads := (c.finish_down down cleared).2.1
    · rw [heads, set]; exact unloaded
    · exact heads
  · rw [(Ctx.finish_kept _ w).view, Ctx.setDriveState_other _ _ _ hw, Ctx.loading_other s v wp ts hw]

end Loading

/-- Settles O17, by the level of DRIVE FAULT at the load. -/
theorem mediaLoad : Obligations.MediaLoad := by
  intro v wp ts s
  dsimp only
  refine ⟨fun hr => ?_, fun hr hs => ?_, fun hr hs => ?_⟩
  · simp only [exec, execMediaLoad, hr, if_true]
  · simp only [exec, execMediaLoad, hr, hs, if_false, Bool.false_eq_true]
    rfl
  · have fault1 : ((Ctx.loading s v wp ts).drive v).lines.driveFault = (s.drive v).lines.driveFault := by
      rw [Ctx.loading_drive]; rfl
    have run : exec (.mediaLoad v wp ts) s = .next (if (s.drive v).lines.driveFault then
        ((Ctx.loading s v wp ts).faultEntry v .drive) else (Ctx.loading s v wp ts).setDriveState v .spinup .none).finish := by
      rw [← fault1]
      simp only [exec, execMediaLoad, hr, hs, if_true, if_false, Bool.false_eq_true, Ctx.next]
      rfl
    rw [run]
    refine ⟨_, rfl, ?_⟩
    have at1 := Ctx.loading_drive s v wp ts
    have written : ((Ctx.loading s v wp ts).drive v).recordWrites = (s.drive v).recordWrites := by rw [at1]; rfl
    cases hf : (s.drive v).lines.driveFault
    · obtain ⟨entered, heads, others⟩ := Ctx.loading_spinup s v wp ts hs
      rw [if_neg Bool.false_ne_true]
      generalize ((Ctx.loading s v wp ts).setDriveState v .spinup .none).finish = t at entered heads others ⊢
      have records (d : Drive) := entered.records s d (s.strandedCount v) false rfl rfl written rfl (Bool.and_false _)
      have view := entered.view
      have ready := entered.ready
      rw [at1] at view ready records
      injection view with state cause _ known generation count protect _ _ load _ _ reads _ timer
      exact ⟨ready, generation, reads, protect, count, known, heads, load, timer,
        fun _ => ⟨state, cause, records _ (Drive.load_recordBytes s wp ts _ _ _ _ timer), others⟩, nofun⟩
    · have faulted := (Ctx.loading s v wp ts).faultEntry_finish .drive (v := v)
        (by rw [at1]; exact fun h => nomatch hs.symm.trans h) (Ctx.loading_cleared s v wp ts)
      rw [if_pos rfl]
      generalize ((Ctx.loading s v wp ts).faultEntry v .drive).finish = t at faulted ⊢
      have drive := faulted.drive
      have records (d : Drive) := faulted.records s d (s.strandedCount v) rfl rfl written rfl
      rw [at1] at drive records
      have timer : (t.drive v).timer = (s.drive v).timer.load s.g := by rw [drive]; rfl
      have recorded := records _ ((Drive.recordBytes_eq _ rfl rfl rfl rfl rfl rfl rfl rfl rfl rfl).trans
        (Drive.load_recordBytes s wp ts _ .fault .drive _ timer))
      have view : (t.drive v).view = (((s.drive v).load s.g wp ts).enterFault s.g .drive |>.entering .fault .drive).view := by
        rw [drive]; rfl
      injection view with state cause _ known generation count protect stamp expiry load _ _ reads
      have lines : (t.drive v).lines = ((s.drive v).load s.g wp ts).lines := by rw [drive]; rfl
      have heads : (t.drive v).heads = .unloaded := by rw [drive]; rfl
      exact ⟨by rw [lines]; rfl, generation, reads, protect, count, known, heads, load, timer, nofun,
        fun _ => ⟨state, cause, stamp, expiry, recorded⟩⟩

end Sys2Proof.Machine

-- ==== Sys2Proof/Proofs/Recals.lean ====
namespace Sys2Proof.Machine

open Sys2Proof

/-! ### Recalibrations of bring-up (R6, R14) -/

/-- How a drive has left RECAL by the end of a command (R6, R113). -/
structure Ctx.LeftRecal (c : Ctx) (v : DriveNo) (t : State) : Prop where
  known : (c.drive v).layoutKnown = true → c.Entered v .ready .none t
  blank : (c.drive v).layoutKnown = false → (c.drive v).incomplete = true →
    (t.drive v).state = .blank ∧ (t.drive v).cause = .incomplete
  discovery : (c.drive v).layoutKnown = false → (c.drive v).incomplete = false →
    (t.drive v).state = .discovery ∧ (t.drive v).cause = .none ∧ (t.drive v).revolution = 1
  recorded : (c.drive v).recordWrites <+: (t.drive v).recordWrites
  silent : c.ctl.tableWrites = false → (t.drive v).recordWrites = (c.drive v).recordWrites

section Recals
variable {c : Ctx} {v : DriveNo}

/-- What a change of state adds to the record. -/
theorem Ctx.setDriveState_recorded (c : Ctx) (v : DriveNo) (st : DriveState) (x : Cause) :
    (c.drive v).recordWrites <+: ((c.setDriveState v st x).drive v).recordWrites
      ∧ (c.ctl.tableWrites = false → ((c.setDriveState v st x).drive v).recordWrites = (c.drive v).recordWrites) := by
  by_cases h : (c.drive v).state = st ∧ (c.drive v).cause = x
  · rw [show c.setDriveState v st x = c by unfold Ctx.setDriveState; dsimp only; rw [if_pos h]]
    exact ⟨List.prefix_rfl, fun _ => rfl⟩
  · rw [c.setDriveState_drive v st x h]
    exact ⟨List.prefix_append _ _, fun hb => by simp [hb]⟩

theorem Ctx.leaveRecal_left {t : State} (h : (c.drive v).state = .recal)
    (kept : ((c.leaveRecal v).drive v).Kept c.ctl.tableWrites (t.drive v)) : c.LeftRecal v t := by
  unfold Ctx.leaveRecal at kept
  dsimp only at kept
  cases hk : (c.drive v).layoutKnown
  · rw [hk, if_neg Bool.false_ne_true] at kept
    cases hi : (c.drive v).incomplete
    · rw [hi, if_neg Bool.false_ne_true, Ctx.enterDiscovery] at kept
      have at1 : (c.modDrive v fun d => { d with revolution := 1 }).drive v = { c.drive v with revolution := 1 } :=
        Ctx.setDrive_drive_self ..
      have set := (c.modDrive v fun d => { d with revolution := 1 }).setDriveState_drive v .discovery .none
        (by rw [at1]; rintro ⟨hs, _⟩; cases h.symm.trans hs)
      have told := (c.modDrive v fun d => { d with revolution := 1 }).setDriveState_recorded v .discovery .none
      rw [at1] at told
      generalize (c.modDrive v fun d => { d with revolution := 1 }).setDriveState v .discovery .none = c1 at kept set told
      have posted := (c1.postDiscover_jobs v).drive
      have view : (t.drive v).view = (c1.drive v).view := kept.view.trans (by rw [posted]; rfl)
      have same : ((c1.postDiscover v).drive v).recordWrites = (c1.drive v).recordWrites := by rw [posted]
      rw [set, at1] at view
      injection view with state cause _ _ _ _ _ _ _ _ _ _ _ revolution
      refine ⟨fun hk' => ?_, fun _ hi' => ?_, fun _ _ => ⟨state, cause, revolution⟩, ?_, fun hb => ?_⟩
      · rw [hk] at hk'; cases hk'
      · rw [hi] at hi'; cases hi'
      · exact (told.1.trans (by rw [same])).trans kept.recorded
      · rw [kept.silent hb, same]; exact told.2 hb
    · rw [hi, if_pos rfl] at kept
      have at1 : (c.modDrive v fun d => { d with incomplete := false }).drive v = { c.drive v with incomplete := false } :=
        Ctx.setDrive_drive_self ..
      have told := (c.modDrive v fun d => { d with incomplete := false }).setDriveState_recorded v .blank .incomplete
      rw [at1] at told
      have entered := Ctx.Entered.of_kept (c := c.modDrive v fun d => { d with incomplete := false })
        (by rw [at1]; rintro ⟨hs, _⟩; cases h.symm.trans hs) kept
      have view := entered.view
      injection view with state cause
      refine ⟨fun hk' => ?_, fun _ _ => ⟨state, cause⟩, fun _ hi' => ?_, told.1.trans kept.recorded,
        fun hb => (kept.silent hb).trans (told.2 hb)⟩
      · rw [hk] at hk'; cases hk'
      · rw [hi] at hi'; cases hi'
  · rw [hk, if_pos rfl] at kept
    have told := c.setDriveState_recorded v .ready .none
    refine ⟨fun _ => .of_kept (fun hs => ?_) kept, fun hk' => ?_, fun hk' => ?_, told.1.trans kept.recorded,
      fun hb => (kept.silent hb).trans (told.2 hb)⟩
    · cases h.symm.trans hs.1
    all_goals rw [hk] at hk'; cases hk'

/-- What leaving RECAL changes of the drive. -/
theorem Ctx.leaveRecal_drive (c : Ctx) (v : DriveNo) :
    let d := (c.leaveRecal v).drive v
    d = { c.drive v with
      state := d.state, cause := d.cause, incomplete := d.incomplete, revolution := d.revolution, sched := d.sched
      health := d.health, recordWrites := d.recordWrites } := by
  have set (c : Ctx) (st : DriveState) (x : Cause) : (c.setDriveState v st x).drive v = { c.drive v with
      state := ((c.setDriveState v st x).drive v).state, cause := ((c.setDriveState v st x).drive v).cause
      recordWrites := ((c.setDriveState v st x).drive v).recordWrites } := by
    by_cases h : (c.drive v).state = st ∧ (c.drive v).cause = x
    · rw [show c.setDriveState v st x = c by unfold Ctx.setDriveState; dsimp only; rw [if_pos h]]
    · rw [c.setDriveState_drive v st x h]
      rfl
  have changed (k : Drive → Drive) : (c.modDrive v k).drive v = k (c.drive v) := Ctx.setDrive_drive_self ..
  unfold Ctx.leaveRecal
  dsimp only
  split
  · rw [set]
  · split
    · rw [set, changed]
    · rw [Ctx.enterDiscovery, (Ctx.postDiscover_jobs _ v).drive, set, changed]

theorem Ctx.leaveRecal_ctl (c : Ctx) (v : DriveNo) : (c.leaveRecal v).ctl = c.ctl := by
  unfold Ctx.leaveRecal
  dsimp only
  split
  · exact c.setDriveState_ctl v _ _
  · split
    · exact Ctx.setDriveState_ctl _ v _ _
    · exact (Ctx.Jobs.ctl (Ctx.postDiscover_jobs _ v)).trans (Ctx.setDriveState_ctl _ v _ _)

theorem Ctx.leaveRecal_finish (h : (c.drive v).state = .recal) : c.LeftRecal v (c.leaveRecal v).finish :=
  Ctx.leaveRecal_left h (c.leaveRecal_ctl v ▸ Ctx.finish_kept _ v)

/-- A recalibration with TRACK ZERO seen: counted, the arm at cylinder 0, the channel owed none (R14, R52). -/
def Ctx.recalled (c : Ctx) (v : DriveNo) : Ctx :=
  ((c.count v .recal).modDrive v fun d => { d with cylinder := 0, arm := .free }).modChan (portOf v) fun h => h.setOwed v false

theorem Ctx.recalled_drive (c : Ctx) (v : DriveNo) : (c.recalled v).drive v =
    { c.drive v with cylinder := 0, arm := .free, health := (c.drive v).health.count .recal } := by
  have counted : (c.count v .recal).drive v = { c.drive v with health := (c.drive v).health.count .recal } :=
    Ctx.setDrive_drive_self ..
  have at1 : ((c.count v .recal).modDrive v fun d => { d with cylinder := 0, arm := .free }).drive v
      = { (c.count v .recal).drive v with cylinder := 0, arm := .free } := Ctx.setDrive_drive_self ..
  rw [counted] at at1
  exact at1

theorem Ctx.recalled_ctl (c : Ctx) (v : DriveNo) : (c.recalled v).ctl = c.ctl := rfl

theorem Ctx.recalled_owed (c : Ctx) (v : DriveNo) : ((c.recalled v).chan (portOf v)).owed v = false := by
  rw [Ctx.recalled, Ctx.modChan, Ctx.setChan_chan_self, Channel.owed, Channel.setOwed]
  cases hl : isLow v <;> simp

theorem Ctx.recalSucceeded_none (h : (c.drive v).state = .recal) : c.recalSucceeded v none = (c.recalled v).leaveRecal v := by
  have state : ((c.recalled v).drive v).state = .recal := by rw [Ctx.recalled_drive]; exact h
  unfold Ctx.recalSucceeded
  dsimp only
  exact if_pos state

/-- The entry to RECAL with the arm at TRACK ZERO ends at once (R6, R14). -/
theorem Ctx.startRecal_zero (hz : c.trackZero v = true) (h : (c.drive v).state = .recal) :
    c.startRecal v none = (c.recalled v).leaveRecal v := by
  rw [Ctx.startRecal, if_pos hz, Ctx.recalSucceeded_none h]

/-! #### The entry to RECAL -/

/-- The cause that RECAL shows (R8). -/
def Drive.recalCause (d : Drive) : Cause := if d.incomplete then .incomplete else .none

theorem Ctx.enterRecal_eq (c : Ctx) (v : DriveNo) : c.enterRecal v =
    let c1 := c.setDriveState v .recal (c.drive v).recalCause
    if (c1.drive v).arm.seeking then c1 else c1.startRecal v none := rfl

/-- The drive at its entry to RECAL: a seek runs on, or else the first pulse outward is given where TRACK ZERO is low. -/
def Ctx.recalBegun (c : Ctx) (v : DriveNo) : Drive :=
  let d := (c.setDriveState v .recal (c.drive v).recalCause).drive v
  if d.arm.seeking then d else { d with lines := d.lines.pulse false, arm := .recal 1 (c.stepDue v) none }

theorem Ctx.setDriveState_recal_drive (hs : (c.drive v).state ≠ .recal) :
    (c.setDriveState v .recal (c.drive v).recalCause).drive v = { (c.drive v).entering .recal (c.drive v).recalCause with
      recordWrites := ((c.setDriveState v .recal (c.drive v).recalCause).drive v).recordWrites } := by
  rw [c.setDriveState_drive v .recal _ fun h => hs h.1]

theorem Ctx.trackZero_of_lines {c c' : Ctx} {v : DriveNo} (h : (c'.drive v).lines = (c.drive v).lines) :
    c'.trackZero v = c.trackZero v := by rw [State.trackZero, State.trackZero, h]

theorem Ctx.setDrive_same (c : Ctx) (v : DriveNo) : c.setDrive v (c.drive v) = c := by
  rw [Ctx.setDrive, State.drive, Vector.set_getElem_self]

theorem Ctx.enterRecal_low (hs : (c.drive v).state ≠ .recal)
    (low : (c.drive v).arm.seeking = true ∨ c.trackZero v = false) :
    c.enterRecal v = (c.setDriveState v .recal (c.drive v).recalCause).setDrive v (c.recalBegun v) := by
  have set := Ctx.setDriveState_recal_drive hs
  have g1 : (c.setDriveState v .recal (c.drive v).recalCause).g = c.g := by rw [Ctx.setDriveState_rest]
  rw [Ctx.enterRecal_eq]
  unfold Ctx.recalBegun
  generalize c.setDriveState v .recal (c.drive v).recalCause = c1 at set g1 ⊢
  have arm : (c1.drive v).arm = (c.drive v).arm := by rw [set]; rfl
  have zero : c1.trackZero v = c.trackZero v := Ctx.trackZero_of_lines (by rw [set]; rfl)
  have due : c1.stepDue v = c.stepDue v := by rw [State.stepDue, State.stepDue, g1, set]; rfl
  dsimp only
  rw [arm]
  cases hb : (c.drive v).arm.seeking
  · rw [hb] at low
    rw [if_neg Bool.false_ne_true, if_neg Bool.false_ne_true, Ctx.startRecal, zero, low.resolve_left Bool.false_ne_true,
      if_neg Bool.false_ne_true, due]
  · rw [if_pos rfl, if_pos rfl, Ctx.setDrive_same]

theorem Ctx.enterRecal_high (hs : (c.drive v).state ≠ .recal) (hb : (c.drive v).arm.seeking = false)
    (hz : c.trackZero v = true) :
    c.enterRecal v = ((c.setDriveState v .recal (c.drive v).recalCause).recalled v).leaveRecal v := by
  have set := Ctx.setDriveState_recal_drive hs
  rw [Ctx.enterRecal_eq]
  generalize c.setDriveState v .recal (c.drive v).recalCause = c1 at set ⊢
  have arm : (c1.drive v).arm.seeking = false := by rw [set]; exact hb
  have zero : c1.trackZero v = true := (Ctx.trackZero_of_lines (by rw [set]; rfl)).trans hz
  dsimp only
  rw [if_neg (by rw [arm]; exact Bool.false_ne_true), Ctx.startRecal_zero zero (by rw [set]; rfl)]

/-- A seek from before a fault runs on. -/
theorem Ctx.recalBegun_seeking (hs : (c.drive v).state ≠ .recal) (hb : (c.drive v).arm.seeking = true) :
    (c.recalBegun v).arm = (c.drive v).arm ∧ (c.recalBegun v).lines = (c.drive v).lines := by
  have set := Ctx.setDriveState_recal_drive hs
  unfold Ctx.recalBegun
  dsimp only
  rw [if_pos (by rw [set]; exact hb), set]
  exact ⟨rfl, rfl⟩

/-- The first pulse outward. -/
theorem Ctx.recalBegun_pulse (hs : (c.drive v).state ≠ .recal) (hb : (c.drive v).arm.seeking = false) :
    (c.recalBegun v).arm = .recal 1 (c.stepDue v) none ∧ (c.recalBegun v).lines = (c.drive v).lines.pulse false := by
  have set := Ctx.setDriveState_recal_drive hs
  unfold Ctx.recalBegun
  dsimp only
  rw [if_neg (by rw [set]; exact fun h => Bool.false_ne_true (hb.symm.trans h)), set]
  exact ⟨rfl, rfl⟩

theorem Ctx.enterRecal_ctl (c : Ctx) (v : DriveNo) : (c.enterRecal v).ctl = c.ctl := by
  have left (c : Ctx) : (c.recalSucceeded v none).ctl = c.ctl := by
    unfold Ctx.recalSucceeded
    dsimp only
    split
    · exact Ctx.leaveRecal_ctl _ v
    · rfl
  have entered := c.setDriveState_ctl v .recal (c.drive v).recalCause
  rw [Ctx.enterRecal_eq]
  generalize c.setDriveState v .recal (c.drive v).recalCause = c1 at entered ⊢
  dsimp only
  split
  · exact entered
  · unfold Ctx.startRecal
    dsimp only
    split
    · exact (left c1).trans entered
    · exact entered

/-- A recorded change of state stands where the record only grows after it. -/
theorem Ctx.recordsChange_later {s t : State} {c : Ctx} {v : DriveNo} {st : DriveState} {x : Cause} {d : Drive} {n : Nat}
    {ready : Bool} (ctl : c.ctl = s.ctl) (base : c.runBase = s.runBase)
    (before : (c.drive v).recordWrites = (s.drive v).recordWrites) (counted : c.strandedCount v = n)
    (changes : ¬ ((c.drive v).state = st ∧ (c.drive v).cause = x))
    (bytes : ((c.drive v).entering st x).recordBytes n = d.recordBytes n)
    (entered : (decide ((c.drive v).state ≠ st) && st == .ready) = ready) {c1 c2 : Ctx}
    (set : (c1.drive v).recordWrites = ((c.setDriveState v st x).drive v).recordWrites)
    (later : (c1.drive v).recordWrites <+: (c2.drive v).recordWrites)
    (silent : c.ctl.tableWrites = false → (c2.drive v).recordWrites = (c1.drive v).recordWrites)
    (kept : (c2.drive v).Kept c.ctl.tableWrites (t.drive v)) : s.recordsChange t v d n ready := by
  rw [ctl] at silent kept
  exact Ctx.recordsChange_of ctl base before counted changes bytes entered (set ▸ later.trans kept.recorded)
    fun hb => (kept.silent hb).trans ((silent hb).trans set)

/-- In RECAL a drive serves nothing: the arm and its lines stand to the end of the command. -/
theorem Ctx.recalBegun_finish (hs : (c.drive v).state ≠ .recal) {c2 : Ctx}
    (at2 : c2.drive v = { c.recalBegun v with heads := (c2.drive v).heads, sched := (c2.drive v).sched })
    (cleared : c2.Cleared) :
    (c2.finish.drive v).view = ((c.drive v).entering .recal (c.drive v).recalCause).view
      ∧ (c2.finish.drive v).arm = (c.recalBegun v).arm ∧ (c2.finish.drive v).lines = (c.recalBegun v).lines
      ∧ (c2.finish.drive v).cylinder = (c.drive v).cylinder := by
  have set := Ctx.setDriveState_recal_drive hs
  have begun : c.recalBegun v = { (c.drive v).entering .recal (c.drive v).recalCause with
      recordWrites := (c.recalBegun v).recordWrites, arm := (c.recalBegun v).arm, lines := (c.recalBegun v).lines } := by
    unfold Ctx.recalBegun
    dsimp only
    split <;> rw [set]
  generalize c.recalBegun v = d2 at begun at2 ⊢
  have down : (c2.drive v).down := fun k => by rw [at2, begun]; cases k <;> rfl
  obtain ⟨⟨_, _, final⟩, _⟩ := c2.finish_down down cleared
  rw [at2] at final
  rw [final, begun]
  exact ⟨rfl, rfl, rfl, rfl⟩

/-- The entry to RECAL stands in the record at the end of its command (R113). -/
theorem Ctx.enterRecal_records (hs : (c.drive v).state ≠ .recal) {s t : State} {d : Drive} {n : Nat}
    (ctl : c.ctl = s.ctl) (base : c.runBase = s.runBase) (before : (c.drive v).recordWrites = (s.drive v).recordWrites)
    (counted : c.strandedCount v = n)
    (bytes : ((c.drive v).entering .recal (c.drive v).recalCause).recordBytes n = d.recordBytes n)
    (kept : ((c.enterRecal v).drive v).Kept c.ctl.tableWrites (t.drive v)) : s.recordsChange t v d n false := by
  have set := Ctx.setDriveState_recal_drive hs
  have later : ((c.setDriveState v .recal (c.drive v).recalCause).drive v).recordWrites
      <+: ((c.enterRecal v).drive v).recordWrites
      ∧ (c.ctl.tableWrites = false → ((c.enterRecal v).drive v).recordWrites
        = ((c.setDriveState v .recal (c.drive v).recalCause).drive v).recordWrites) := by
    by_cases low : (c.drive v).arm.seeking = true ∨ c.trackZero v = false
    · have same : ((c.enterRecal v).drive v).recordWrites
          = ((c.setDriveState v .recal (c.drive v).recalCause).drive v).recordWrites := by
        rw [Ctx.enterRecal_low hs low, Ctx.setDrive_drive_self, Ctx.recalBegun]
        split <;> rfl
      rw [same]
      exact ⟨List.prefix_rfl, fun _ => rfl⟩
    · simp only [not_or, Bool.not_eq_true, Bool.not_eq_false] at low
      rw [Ctx.enterRecal_high hs low.1 low.2]
      have ctl1 : ((c.setDriveState v .recal (c.drive v).recalCause).recalled v).ctl = c.ctl := by
        rw [Ctx.recalled_ctl, Ctx.setDriveState_ctl]
      have at1 := Ctx.recalled_drive (c.setDriveState v .recal (c.drive v).recalCause) v
      have state1 : ((c.setDriveState v .recal (c.drive v).recalCause).drive v).state = .recal := by rw [set]; rfl
      generalize (c.setDriveState v .recal (c.drive v).recalCause).recalled v = c2 at at1 ctl1 ⊢
      have state2 : (c2.drive v).state = .recal := by rw [at1]; exact state1
      have left : c2.LeftRecal v (c2.leaveRecal v).toState := Ctx.leaveRecal_left state2 (Drive.Kept.refl c2.ctl.tableWrites _)
      have same : (c2.drive v).recordWrites
          = ((c.setDriveState v .recal (c.drive v).recalCause).drive v).recordWrites := by rw [at1]
      rw [← same]
      exact ⟨left.recorded, fun hb => left.silent (ctl1 ▸ hb)⟩
  exact Ctx.recordsChange_later ctl base before counted (fun h => hs h.1) bytes (Bool.and_false _) rfl later.1 later.2 kept

theorem Ctx.leaveRecal_channels (c : Ctx) (v : DriveNo) : (c.leaveRecal v).channels = c.channels := by
  unfold Ctx.leaveRecal
  dsimp only
  split
  · rw [Ctx.setDriveState_rest]
  · split
    · rw [Ctx.setDriveState_rest]; rfl
    · rw [Ctx.enterDiscovery, (Ctx.postDiscover_jobs _ v).channels, Ctx.setDriveState_rest]; rfl

/-- The entry to RECAL leaves the channel's work and the expiry, however it goes on. -/
theorem Ctx.enterRecal_leaves (hs : (c.drive v).state ≠ .recal) :
    ((c.enterRecal v).chan (portOf v)).work = (c.chan (portOf v)).work
      ∧ ((c.enterRecal v).drive v).expiry = (c.drive v).expiry := by
  have set := Ctx.setDriveState_recal_drive hs
  have channels : (c.setDriveState v .recal (c.drive v).recalCause).channels = c.channels := by rw [Ctx.setDriveState_rest]
  by_cases low : (c.drive v).arm.seeking = true ∨ c.trackZero v = false
  · rw [Ctx.enterRecal_low hs low, Ctx.setDrive_drive_self]
    constructor
    · exact congrArg Channel.work (State.chan_of_channels channels _)
    · rw [Ctx.recalBegun]
      split <;> rw [set] <;> rfl
  · simp only [not_or, Bool.not_eq_true, Bool.not_eq_false] at low
    rw [Ctx.enterRecal_high hs low.1 low.2]
    have at1 := Ctx.recalled_drive (c.setDriveState v .recal (c.drive v).recalCause) v
    rw [set] at at1
    constructor
    · rw [State.chan_of_channels (Ctx.leaveRecal_channels _ v), Ctx.recalled, Ctx.modChan, Ctx.setChan_chan_self,
        ← State.chan_of_channels channels]
      unfold Channel.setOwed
      split <;> rfl
    · rw [Ctx.leaveRecal_drive, at1]
      rfl

end Recals
end Sys2Proof.Machine

-- ==== Sys2Proof/Proofs/FaultFalls.lean ====
namespace Sys2Proof.Machine

open Sys2Proof

/-! ### DRIVE_FAULT_FALL (R9) -/

/-- A drive as DRIVE_FAULT_FALL leaves FAULT: no expiry, no stamp. -/
def Drive.faultCleared (d : Drive) : Drive := { d with expiry := .none, faultStamp := none, recalStopped := false }

/-- The state at a fall of DRIVE FAULT, out of FAULT. -/
def Ctx.fallen (s : State) (v : DriveNo) : Ctx := ((Ctx.of s).setFaultLine v false).modDrive v Drive.faultCleared

theorem Ctx.fallen_drive (s : State) (v : DriveNo) : (Ctx.fallen s v).drive v =
    ({ s.drive v with lines := { (s.drive v).lines with driveFault := false } } : Drive).faultCleared := by
  have level : ((Ctx.of s).setFaultLine v false).drive v
      = { s.drive v with lines := { (s.drive v).lines with driveFault := false } } := Ctx.setDrive_drive_self ..
  rw [Ctx.fallen, Ctx.modDrive, Ctx.setDrive_drive_self, level]

/-- Settles O20: the entry to RECAL, by whether a seek still runs and by the level of TRACK ZERO. -/
theorem driveFaultFall : Obligations.DriveFaultFall := by
  intro v s d zero
  have hz : zero = s.trackZero v := by
    simp only [zero, d, State.trackZero]
    cases (s.drive v).lines.trackZero <;> rfl
  clear_value zero
  subst hz
  dsimp only [d]
  refine ⟨fun hf => ?_, fun hf hs => ?_, fun hf hs hx => ?_⟩
  · simp only [exec, execDriveFaultFall, hf, Bool.not_false, if_true]
  · have away : ¬ ((s.drive v).state = .fault ∧ (s.drive v).cause = .drive) := by tauto
    simp only [exec, execDriveFaultFall, hf, if_neg away, Bool.not_true, Bool.false_eq_true, if_false]
    rfl
  · have at0 := Ctx.fallen_drive s v
    have run : exec (.driveFaultFall v) s = .next ((Ctx.fallen s v).enterRecal v).finish := by
      have cause : (((Ctx.of s).setFaultLine v false).drive v).cause = .drive :=
        (congrArg Drive.cause (Ctx.setDrive_drive_self ..)).trans hx
      simp only [exec, execDriveFaultFall, hf, hs, hx, and_self, if_true, Bool.not_true, Bool.false_eq_true, if_false,
        Ctx.next, Ctx.leaveFault, cause, reduceCtorEq, false_and]
      rfl
    rw [run]
    refine ⟨_, rfl, ?_⟩
    have cleared : (Ctx.fallen s v).Cleared := Ctx.modDrive_cleared _ _ (Ctx.modDrive_cleared _ _ (Ctx.of_cleared s))
    have away : ((Ctx.fallen s v).drive v).state ≠ .recal := by
      rw [at0]; exact fun h => nomatch hs.symm.trans h
    have zero0 : (Ctx.fallen s v).trackZero v = s.trackZero v := by
      rw [State.trackZero, State.trackZero, at0]; rfl
    have kept := ((Ctx.fallen s v).enterRecal v).finish_kept v
    rw [Ctx.enterRecal_ctl] at kept
    have records := Ctx.enterRecal_records (s := s) (n := s.strandedCount v) away rfl rfl (by rw [at0]; rfl) rfl
      (d := { s.drive v with state := .recal, cause := if (s.drive v).incomplete then .incomplete else .none })
      (by rw [at0]; exact Drive.recordBytes_eq _ rfl rfl rfl rfl rfl rfl rfl rfl rfl rfl) kept
    by_cases low : (s.drive v).arm.seeking = true ∨ s.trackZero v = false
    · have eq := Ctx.enterRecal_low away (by rw [zero0, at0]; exact low)
      have begun := Ctx.setDrive_drive_self ((Ctx.fallen s v).setDriveState v .recal ((Ctx.fallen s v).drive v).recalCause) v
        ((Ctx.fallen s v).recalBegun v)
      obtain ⟨view, arm, lines, cyl⟩ := Ctx.recalBegun_finish (c2 := (Ctx.fallen s v).enterRecal v) away
        (by rw [eq, begun]) (by rw [eq]; exact (Ctx.setDriveState_cleared v .recal _ cleared).of_eq rfl rfl)
      have seeking := fun h => Ctx.recalBegun_seeking away (by rw [at0]; exact h)
      have pulse := fun h => Ctx.recalBegun_pulse away (by rw [at0]; exact h)
      have due : (Ctx.fallen s v).stepDue v = s.g + BitVec.ofNat 32 (1000 * (s.drive v).profileOrZero.stepMs) := by
        rw [State.stepDue, at0]; rfl
      have driveFault : ((Ctx.fallen s v).recalBegun v).lines.driveFault = false := by
        cases hb : (s.drive v).arm.seeking
        · rw [(pulse hb).2, at0]; rfl
        · rw [(seeking hb).2, at0]; rfl
      rw [at0] at view cyl seeking pulse
      injection view with state cause _ _ _ _ _ stamp expiry
      refine ⟨by rw [lines]; exact driveFault, expiry, stamp, records, fun _ => ⟨state, cause⟩, fun hb => ⟨?_, cyl, ?_⟩,
        fun hb _ => ⟨?_, ?_, ?_⟩, fun hb hz => ?_⟩
      · rw [arm, (seeking hb).1]; rfl
      · rw [lines, (seeking hb).2]; rfl
      · rw [arm, (pulse hb).1, due]
      · rw [lines, (pulse hb).2]; rfl
      · rw [lines, (pulse hb).2]; rfl
      · rw [hb, hz] at low; simp at low
    · simp only [not_or, Bool.not_eq_true, Bool.not_eq_false] at low
      have eq := Ctx.enterRecal_high away (by rw [at0]; exact low.1) (zero0.trans low.2)
      have set := Ctx.setDriveState_recal_drive away
      have at2 := Ctx.recalled_drive ((Ctx.fallen s v).setDriveState v .recal ((Ctx.fallen s v).drive v).recalCause) v
      rw [set] at at2
      rw [eq] at kept records ⊢
      have rest := Ctx.leaveRecal_drive (((Ctx.fallen s v).setDriveState v .recal
        ((Ctx.fallen s v).drive v).recalCause).recalled v) v
      generalize ((Ctx.fallen s v).setDriveState v .recal ((Ctx.fallen s v).drive v).recalCause).recalled v = c2
        at at2 eq kept records rest ⊢
      have left := Ctx.leaveRecal_finish (c := c2) (v := v) (by rw [at2]; rfl)
      rw [at2, at0] at rest
      have fault := kept.fault
      have view := kept.view
      rw [rest] at fault view
      injection view with _ _ _ _ _ _ _ stamp expiry
      refine ⟨fault, expiry, stamp, records, fun hb => ?_, fun hb => ?_, fun hb hz => ?_, fun _ _ => ⟨fun hk => ?_,
        fun hk hi => ?_, fun hk hi => ?_⟩⟩
      · rw [low.1, low.2] at hb; simp at hb
      · rw [low.1] at hb; cases hb
      · rw [low.2] at hz; cases hz
      · have view := (left.known (by rw [at2, at0]; exact hk)).view
        injection view with state cause
        exact ⟨state, cause⟩
      · exact left.blank (by rw [at2, at0]; exact hk) (by rw [at2, at0]; exact hi)
      · exact left.discovery (by rw [at2, at0]; exact hk) (by rw [at2, at0]; exact hi)

end Sys2Proof.Machine

-- ==== Sys2Proof/Proofs/Pulses.lean ====
namespace Sys2Proof.Machine

open Sys2Proof

/-! ### Index pulses (R26 to R32, R104) -/

/-- An index pulse at the timer, with the record write of a layout that becomes active and the rejected one's count. -/
def Ctx.pulsed (s : State) (v : DriveNo) : Ctx :=
  let d := s.drive v
  let c1 := (Ctx.of s).modTimer v fun _ => d.timer.pulse s.g (d.state == .spinup)
  let c2 := if (d.timer.pulse s.g (d.state == .spinup)).active = d.timer.active then c1 else c1.recordWrite v none
  if d.timer.verdict s.g = .rejected then c2.count v .speedReject else c2

/-- The idle count at an accepted pulse, and the pick point that it is (R99, R104). -/
def Ctx.idled (c : Ctx) (v : DriveNo) (x : Verdict) : Ctx := if x = .accepted then (c.idlePulse v).flagPick v else c

/-- A pulse, its speed reports and what the channel hears of it, before the end of the command (R28, R32). -/
def Ctx.pulseTaken (s : State) (v : DriveNo) : Ctx :=
  (((Ctx.pulsed s v).speedReports v (s.drive v).timer ((s.drive v).timer.pulse s.g ((s.drive v).state == .spinup))).idled v
    ((s.drive v).timer.verdict s.g)).channelIndex v ((s.drive v).timer.verdict s.g)

theorem exec_indexPulse {s : State} {v : DriveNo} (h : (s.drive v).state.timerIdle = false) :
    exec (.indexPulse v) s = .next (Ctx.pulseTaken s v).finish := by
  simp only [exec, execIndexPulse, h, Bool.false_eq_true, if_false, Ctx.next]
  rfl

section Pulses
variable {c : Ctx} {s : State} {v : DriveNo}

theorem Ctx.pulsed_rest (s : State) (v : DriveNo) :
    Ctx.pulsed s v = { Ctx.of s with drives := (Ctx.pulsed s v).drives } := by
  unfold Ctx.pulsed
  dsimp only
  split <;> split
  · rfl
  · rw [Ctx.count, Ctx.modDrive, Ctx.recordWrite_onlyDrives]; rfl
  · rfl
  · rw [Ctx.recordWrite_onlyDrives]; rfl

theorem Ctx.pulsed_drive (s : State) (v : DriveNo) :
    let d := s.drive v
    (Ctx.pulsed s v).drive v = { d with
      timer := d.timer.pulse s.g (d.state == .spinup)
      health := if d.timer.verdict s.g = .rejected then d.health.count .speedReject else d.health
      recordWrites := ((Ctx.pulsed s v).drive v).recordWrites } := by
  have timed : ((Ctx.of s).modTimer v fun _ => (s.drive v).timer.pulse s.g ((s.drive v).state == .spinup)).drive v
      = { s.drive v with timer := (s.drive v).timer.pulse s.g ((s.drive v).state == .spinup) } := Ctx.setDrive_drive_self ..
  have counted (c : Ctx) : (c.count v .speedReject).drive v = { c.drive v with health := (c.drive v).health.count .speedReject } :=
    Ctx.setDrive_drive_self ..
  have written (c : Ctx) : (c.recordWrite v none).drive v = { c.drive v with
      recordWrites := ((c.recordWrite v none).drive v).recordWrites } := by
    rw [Ctx.recordWrite_drive]
    split <;> rfl
  unfold Ctx.pulsed
  dsimp only
  split <;> split
  · rw [counted, timed]
  · rw [counted, written, timed]
  · rw [timed]
  · rw [written, timed]

/-- Where no layout is staged, none becomes active. -/
theorem Timer.pulse_active {t : Timer} (h : t.staged = none) (g : Word) (b : Bool) : (t.pulse g b).active = t.active := by
  unfold Timer.pulse
  dsimp only
  rw [h]
  split <;> rfl

theorem Ctx.pulsed_silent (h : (s.drive v).timer.staged = none) :
    ((Ctx.pulsed s v).drive v).recordWrites = (s.drive v).recordWrites := by
  unfold Ctx.pulsed
  dsimp only
  rw [if_pos (Timer.pulse_active h _ _)]
  split
  · rw [Ctx.count, Ctx.modDrive, Ctx.setDrive_drive_self, Ctx.modTimer, Ctx.modDrive, Ctx.setDrive_drive_self]; rfl
  · rw [Ctx.modTimer, Ctx.modDrive, Ctx.setDrive_drive_self]; rfl

theorem Ctx.pulsed_cleared (s : State) (v : DriveNo) : (Ctx.pulsed s v).Cleared := by
  rw [Ctx.pulsed_rest]
  exact (Ctx.of_cleared s).of_eq rfl rfl

/-! #### The speed reports -/

theorem Timer.accepted {t : Timer} {g p : Word} (hp : t.prev = some p) (h1 : 161667 ≤ (g - p).toNat)
    (h2 : (g - p).toNat ≤ 171667) (b : Bool) :
    t.verdict g = .accepted ∧ (t.pulse g b).acc = min 4 (t.acc + 1) ∧ (t.pulse g b).rej = 0 := by
  have verdict : t.verdict g = .accepted := by
    rw [Timer.verdict, hp]
    exact if_pos ⟨h1, h2⟩
  refine ⟨verdict, ?_, ?_⟩ <;> (unfold Timer.pulse; rw [verdict, hp])

theorem Timer.rejected {t : Timer} {g p : Word} (hp : t.prev = some p) (h : (g - p).toNat < 161667 ∨ 171667 < (g - p).toNat)
    (b : Bool) : t.verdict g = .rejected ∧ (t.pulse g b).acc = 0
      ∧ (t.pulse g b).rej = if b then 0 else min 4 (t.rej + 1) := by
  have verdict : t.verdict g = .rejected := by
    rw [Timer.verdict, hp]
    exact if_neg fun hin => by
      obtain ⟨h1, h2⟩ := hin
      simp only [periodMin, periodMax, ageAt] at h1 h2
      omega
  refine ⟨verdict, ?_, ?_⟩ <;> (unfold Timer.pulse; rw [verdict, hp])

/-- A pulse that reports nothing at a drive in SPINUP (R28). -/
theorem Ctx.speedReports_spinup {x y : Timer} (hs : (c.drive v).state = .spinup) (hr : y.rej = 0)
    (ha : ¬ (x.acc = 1 ∧ y.acc = 2)) : c.speedReports v x y = c := by
  unfold Ctx.speedReports
  rw [if_neg ha]
  split
  · rw [Ctx.speedRegained, if_neg (by rw [hs]; simp)]
  · rw [if_neg (by rw [hr]; simp)]

/-- An index pulse is nothing to a channel that is not at work on the drive. -/
theorem Ctx.channelIndex_away (x : Verdict) (h : ∀ r, (c.chan (portOf v)).work = some r → r.drive ≠ v) :
    c.channelIndex v x = c := by
  unfold Ctx.channelIndex
  dsimp only
  split
  · rfl
  · next r hr => rw [if_pos (h r hr)]

/-- Of a drive, an accepted pulse changes the idle count, and may unload the heads (R104). -/
structure Ctx.IdleCounted (c : Ctx) (v : DriveNo) (c' : Ctx) : Prop where
  rest : c' = { c with drives := c'.drives, picks := c'.picks }
  drive : c'.drive v = { c.drive v with heads := (c'.drive v).heads, sched := (c'.drive v).sched }

theorem Ctx.idled_counted (c : Ctx) (v : DriveNo) (x : Verdict) : c.IdleCounted v (c.idled v x) := by
  have unloaded : (c.unloadRequest v).drive v = { c.drive v with heads := .unloaded } := Ctx.setDrive_drive_self ..
  have counted (c : Ctx) (k : Sched → Sched) : (c.modSched v k).drive v = { c.drive v with sched := k (c.drive v).sched } :=
    Ctx.setDrive_drive_self ..
  have idle : c.IdleCounted v (c.idlePulse v) := by
    unfold Ctx.idlePulse
    dsimp only
    split
    · split
      · exact ⟨rfl, by rw [counted, unloaded]⟩
      · exact ⟨rfl, by rw [counted]⟩
    · exact ⟨rfl, by rw [counted]⟩
  unfold Ctx.idled
  split
  · rw [Ctx.flagPick_eq]
    exact ⟨by rw [idle.rest], idle.drive⟩
  · exact ⟨rfl, rfl⟩

theorem Ctx.IdleCounted.kept {c' : Ctx} (h : c.IdleCounted v c') (b : Bool) : (c.drive v).Kept b (c'.drive v) :=
  .of_eq (by rw [h.drive]; rfl) (by rw [h.drive]) (by rw [h.drive]) (by rw [h.drive])

/-- What follows the speed reports, where the channel is not at work on the drive. -/
theorem Ctx.afterReports (x : Verdict) (h : ∀ r, (c.chan (portOf v)).work = some r → r.drive ≠ v) :
    (c.idled v x).channelIndex v x = c.idled v x := by
  have same : (c.idled v x).chan (portOf v) = c.chan (portOf v) := by rw [(c.idled_counted v x).rest]; rfl
  exact Ctx.channelIndex_away x fun r hr => h r (by rw [← same]; exact hr)

theorem Ctx.idled_finish_kept (c : Ctx) (v : DriveNo) (x : Verdict) :
    (c.drive v).Kept c.ctl.tableWrites ((c.idled v x).finish.drive v) := by
  have counted := c.idled_counted v x
  have kept := (c.idled v x).finish_kept v
  have ctl : (c.idled v x).ctl = c.ctl := by rw [counted.rest]
  exact (counted.kept _).trans (ctl ▸ kept)

theorem Ctx.idled_finish_expiry (c : Ctx) (v : DriveNo) (x : Verdict) :
    ((c.idled v x).finish.drive v).expiry = (c.drive v).expiry := congrArg DriveView.expiry (c.idled_finish_kept v x).view

/-- The entry to RECAL at a pulse (R5, R9): it waits for a seek, or gives its first pulse outward. -/
theorem Ctx.enterRecal_idled (x : Verdict) (hs : (c.drive v).state ≠ .recal)
    (low : (c.drive v).arm.seeking = true ∨ c.trackZero v = false) (cleared : c.Cleared) :
    let t := ((c.enterRecal v).idled v x).finish
    (t.drive v).view = ((c.drive v).entering .recal (c.drive v).recalCause).view ∧ (t.drive v).arm = (c.recalBegun v).arm
      ∧ ((c.enterRecal v).drive v).Kept c.ctl.tableWrites (t.drive v) := by
  have eq := Ctx.enterRecal_low hs low
  have begun := Ctx.setDrive_drive_self (c.setDriveState v .recal (c.drive v).recalCause) v (c.recalBegun v)
  have cleared' : (c.enterRecal v).Cleared := by
    rw [eq]; exact (Ctx.setDriveState_cleared v .recal _ cleared).of_eq rfl rfl
  have counted := (c.enterRecal v).idled_counted v x
  rw [← eq] at begun
  obtain ⟨view, arm, _⟩ := Ctx.recalBegun_finish (c2 := (c.enterRecal v).idled v x) hs
    (by rw [counted.drive, begun]) (cleared'.of_eq (by rw [counted.rest]) (by rw [counted.rest]))
  exact ⟨view, arm, c.enterRecal_ctl v ▸ Ctx.idled_finish_kept _ v x⟩

theorem Ctx.pulsed_snapshot (s : State) (v : DriveNo) :
    ((Ctx.pulsed s v).drive v).health.snapshot = (s.drive v).health.snapshot := by
  rw [Ctx.pulsed_drive]
  dsimp only
  split
  · unfold Health.count
    dsimp only
    split <;> rfl
  · rfl

/-- A pulse as Drive Control takes it: the state and the marks as before, at most a fault cleared. -/
structure Ctx.AtPulse (s : State) (v : DriveNo) (c : Ctx) : Prop where
  rest : c = { Ctx.of s with drives := c.drives }
  drive : c.drive v = { (Ctx.pulsed s v).drive v with
    expiry := (c.drive v).expiry, faultStamp := (c.drive v).faultStamp, recalStopped := (c.drive v).recalStopped }

theorem Ctx.pulsed_atPulse (s : State) (v : DriveNo) : Ctx.AtPulse s v (Ctx.pulsed s v) := ⟨Ctx.pulsed_rest s v, rfl⟩

theorem Ctx.pulsed_cleared_atPulse (s : State) (v : DriveNo) :
    Ctx.AtPulse s v ((Ctx.pulsed s v).modDrive v Drive.faultCleared) := by
  refine ⟨by rw [Ctx.modDrive, Ctx.setDrive, Ctx.pulsed_rest], ?_⟩
  rw [Ctx.modDrive, Ctx.setDrive_drive_self]
  rfl

/-- The bytes of the record that a change of state at a pulse writes. -/
theorem Ctx.AtPulse.recordBytes (h : Ctx.AtPulse s v c) (st : DriveState) (x : Cause) (n : Nat)
    (staged : (s.drive v).timer.staged = none) : ((c.drive v).entering st x).recordBytes n = Drive.recordBytes
      { s.drive v with state := st, cause := x, timer := { (s.drive v).timer with p16 := (c.drive v).timer.p16 } } n := by
  have snapshot := Ctx.pulsed_snapshot s v
  have at0 := h.drive
  rw [Ctx.pulsed_drive] at at0 snapshot
  rw [at0]
  exact Drive.recordBytes_eq _ rfl rfl rfl rfl rfl rfl rfl (Timer.pulse_active staged _ _) rfl snapshot

end Pulses

/-- Settles O22, report by report: SPINUP ends in a recalibration, a fault with cause SPEED in READY or a recalibration, and
the fourth rejected period makes such a fault. -/
theorem speedReports : Obligations.SpeedReports := by
  intro v p s hp d period zero recorded recals
  have hz : zero = s.trackZero v := by
    simp only [zero, d, State.trackZero]
    cases (s.drive v).lines.trackZero <;> rfl
  clear_value zero
  subst hz
  have enters (c : Ctx) (x : Verdict) (h : Ctx.AtPulse s v c) (hs : d.state ≠ .recal)
      (low : d.arm.seeking = true ∨ s.trackZero v = false) :
      recals ((c.enterRecal v).idled v x).finish:= by
    have at0 := h.drive
    rw [Ctx.pulsed_drive] at at0
    have away : (c.drive v).state ≠ .recal := by rw [at0]; exact hs
    have g1 : c.g = s.g := by rw [h.rest]; rfl
    have cleared : c.Cleared := by rw [h.rest]; exact (Ctx.of_cleared s).of_eq rfl rfl
    have zero : c.trackZero v = s.trackZero v := by rw [State.trackZero, State.trackZero, at0]
    obtain ⟨view, arm, kept⟩ := Ctx.enterRecal_idled x away (by rw [zero, at0]; exact low) cleared
    generalize ((c.enterRecal v).idled v x).finish = t at view arm kept ⊢
    refine ⟨(congrArg DriveView.state view), ?_, fun staged => ?_⟩
    · rw [arm]
      cases hb : d.arm.seeking
      · rw [(Ctx.recalBegun_pulse away (by rw [at0]; exact hb)).1, State.stepDue, g1, at0]
        rfl
      · rw [(Ctx.recalBegun_seeking away (by rw [at0]; exact hb)).1, at0, if_pos rfl]
    · have silent := Ctx.pulsed_silent staged
      have timer : (t.drive v).timer = (c.drive v).timer := congrArg DriveView.timer view
      have bytes := h.recordBytes .recal (c.drive v).recalCause (s.strandedCount v) staged
      rw [← timer] at bytes
      have cause : (c.drive v).recalCause = if d.incomplete then .incomplete else .none := by rw [at0]; rfl
      rw [← cause]
      exact Ctx.enterRecal_records away (by rw [h.rest]; rfl) (by rw [h.rest]; rfl)
        (by rw [h.drive]; exact silent) (by rw [h.rest]; rfl) bytes kept
  have taken {c : Ctx} (away : ∀ r, (s.chan (portOf v)).work = some r → r.drive ≠ v) (busy : d.state.timerIdle = false)
      (reports : (Ctx.pulsed s v).speedReports v d.timer (d.timer.pulse s.g (d.state == .spinup)) = c)
      (work : (c.chan (portOf v)).work = (s.chan (portOf v)).work) :
      exec (.indexPulse v) s = .next (c.idled v (d.timer.verdict s.g)).finish := by
    rw [exec_indexPulse busy, Ctx.pulseTaken, reports, Ctx.afterReports _ fun r hr => away r (work ▸ hr)]
  have state : ((Ctx.pulsed s v).drive v).state = d.state := by rw [Ctx.pulsed_drive]
  have spins (hs : d.state = .spinup) (away : ∀ r, (s.chan (portOf v)).work = some r → r.drive ≠ v)
      (hrej : (d.timer.pulse s.g (d.state == .spinup)).rej = 0)
      (hacc : ¬ (d.timer.acc = 1 ∧ (d.timer.pulse s.g (d.state == .spinup)).acc = 2)) :
      ∃ t, exec (.indexPulse v) s = .next t ∧ (t.drive v).state = .spinup := by
    refine ⟨_, taken away (by rw [hs]; rfl) (Ctx.speedReports_spinup (state.trans hs) hrej hacc)
      (by rw [Ctx.pulsed_rest]; rfl), ?_⟩
    exact (congrArg DriveView.state (Ctx.idled_finish_kept _ v _).view).trans (state.trans hs)
  refine ⟨fun h1 h2 away => ⟨fun ha hs low => ?_, fun ha hs => ?_, fun ha hs hx => ?_⟩, fun hr => ⟨fun hs away => ?_, fun hj hs => ?_⟩⟩
  · have begins : (Ctx.pulsed s v).speedReports v d.timer (d.timer.pulse s.g (d.state == .spinup))
        = (Ctx.pulsed s v).enterRecal v := by
      obtain ⟨_, acc, _⟩ := Timer.accepted hp h1 h2 (d.state == .spinup)
      rw [ha] at acc
      rw [Ctx.speedReports, if_pos ⟨ha, acc⟩, Ctx.speedReached, if_pos (by rw [state]; exact hs)]
    exact ⟨_, taken away (by rw [hs]; rfl) begins
        ((Ctx.enterRecal_leaves (by rw [state, hs]; simp)).1.trans (by rw [Ctx.pulsed_rest]; rfl)),
      enters _ _ (Ctx.pulsed_atPulse s v) (by rw [hs]; simp) low⟩
  · obtain ⟨_, acc, rej⟩ := Timer.accepted hp h1 h2 (d.state == .spinup)
    exact spins hs away rej (by rintro ⟨h, _⟩; exact ha h)
  · obtain ⟨_, acc, _⟩ := Timer.accepted hp h1 h2 (d.state == .spinup)
    rw [ha] at acc
    have regains : (Ctx.pulsed s v).speedReports v d.timer (d.timer.pulse s.g (d.state == .spinup))
        = (Ctx.pulsed s v).leaveFault v := by
      rw [Ctx.speedReports, if_neg (by rw [ha]; simp), if_pos ⟨ha, acc⟩, Ctx.speedRegained,
        if_pos ⟨state.trans hs, by rw [Ctx.pulsed_drive]; exact hx⟩]
    have cleared := Ctx.pulsed_cleared_atPulse s v
    have at0 := cleared.drive
    rw [Ctx.pulsed_drive] at at0
    have expiry : (((Ctx.pulsed s v).modDrive v Drive.faultCleared).drive v).expiry = .none := by
      rw [Ctx.modDrive, Ctx.setDrive_drive_self]; rfl
    by_cases ready : d.layoutKnown = true ∧ d.recalStopped = false
    · have leaves : (Ctx.pulsed s v).leaveFault v = ((Ctx.pulsed s v).modDrive v Drive.faultCleared).setDriveState v .ready .none := by
        unfold Ctx.leaveFault
        dsimp only
        rw [Ctx.pulsed_drive, if_pos ⟨hx, ready.1, by simp [show (s.drive v).recalStopped = false from ready.2]⟩]
        rfl
      have ran := taken away (by rw [hs]; rfl) (regains.trans leaves)
        (by rw [Ctx.setDriveState_rest, cleared.rest]; rfl)
      have fault : (((Ctx.pulsed s v).modDrive v Drive.faultCleared).drive v).state = .fault := by rw [at0]; exact hs
      have kept := (((Ctx.pulsed s v).modDrive v Drive.faultCleared).setDriveState v .ready .none).idled_finish_kept v
        (d.timer.verdict s.g)
      rw [Ctx.setDriveState_ctl] at kept
      have entered := Ctx.Entered.of_kept (by rw [fault]; simp) kept
      rw [ran]
      generalize ((((Ctx.pulsed s v).modDrive v Drive.faultCleared).setDriveState v .ready .none).idled v
        (d.timer.verdict s.g)).finish = t at entered ⊢
      have view := entered.view
      have timer : (t.drive v).timer = (((Ctx.pulsed s v).modDrive v Drive.faultCleared).drive v).timer :=
        congrArg DriveView.timer view
      refine ⟨t, rfl, (congrArg DriveView.expiry view).trans expiry, fun _ _ => ⟨congrArg DriveView.state view,
        congrArg DriveView.cause view, fun staged => ?_⟩, fun hl => ?_⟩
      · have bytes := cleared.recordBytes .ready .none (s.strandedCount v) staged
        rw [← timer] at bytes
        refine entered.records s _ _ true (by rw [cleared.rest]; rfl) (by rw [cleared.rest]; rfl)
          (by rw [cleared.drive]; exact Ctx.pulsed_silent staged) (by rw [cleared.rest]; rfl) (by rw [fault]; rfl) ?_
        rw [← ready.1]
        exact bytes
      · rw [ready.1, ready.2] at hl
        simp at hl
    · have leaves : (Ctx.pulsed s v).leaveFault v = ((Ctx.pulsed s v).modDrive v Drive.faultCleared).enterRecal v := by
        unfold Ctx.leaveFault
        dsimp only
        rw [Ctx.pulsed_drive, if_neg fun h => ready ⟨h.2.1, by simpa using h.2.2⟩]
        rfl
      have away' : (((Ctx.pulsed s v).modDrive v Drive.faultCleared).drive v).state ≠ .recal := by
        rw [at0]; exact fun h => nomatch hs.symm.trans h
      obtain ⟨work, same⟩ := Ctx.enterRecal_leaves away'
      refine ⟨_, taken away (by rw [hs]; rfl) (regains.trans leaves) (work.trans (by rw [cleared.rest]; rfl)), ?_,
        fun hk hr => absurd ⟨hk, hr⟩ ready, fun _ low => enters _ _ cleared (by rw [hs]; simp) low⟩
      rw [Ctx.idled_finish_expiry, same, expiry]
  · obtain ⟨_, acc, rej⟩ := Timer.rejected hp hr (d.state == .spinup)
    exact spins hs away (rej.trans (by rw [hs]; rfl)) fun h => absurd (acc.symm.trans h.2) (by decide)
  · obtain ⟨verdict, acc, rej⟩ := Timer.rejected hp hr (d.state == .spinup)
    have spun : (d.state == .spinup) = false := by obtain h | h | h | h | h := hs <;> rw [h] <;> rfl
    have lost : (Ctx.pulsed s v).speedReports v d.timer (d.timer.pulse s.g (d.state == .spinup))
        = (Ctx.pulsed s v).faultEntry v .speed := by
      rw [spun, hj] at rej
      rw [Ctx.speedReports, if_neg fun h => absurd (acc.symm.trans h.2) (by decide),
        if_neg fun h => absurd (acc.symm.trans h.2) (by decide), if_pos ⟨hj, by rw [spun]; exact rej⟩, Ctx.speedLost, if_pos]
      rw [state]
      obtain h | h | h | h | h := hs <;> rw [h] <;> rfl
    have away : ((Ctx.pulsed s v).drive v).state ≠ .fault := by
      rw [state]
      obtain h | h | h | h | h := hs <;> rw [h] <;> simp
    have busy : d.state.timerIdle = false := by obtain h | h | h | h | h := hs <;> rw [h] <;> rfl
    have run : exec (.indexPulse v) s = .next ((Ctx.pulsed s v).faultEntry v .speed).finish := by
      have quiet (c : Ctx) : c.idled v .rejected = c := if_neg (by simp)
      rw [exec_indexPulse busy, Ctx.pulseTaken, lost, verdict, quiet,
        Ctx.channelIndex_away _ ((Ctx.pulsed s v).faultEntry_work .speed away)]
    have faulted := (Ctx.pulsed s v).faultEntry_finish .speed away (Ctx.pulsed_cleared s v)
    rw [run]
    generalize ((Ctx.pulsed s v).faultEntry v .speed).finish = t at faulted ⊢
    have drive := faulted.drive
    have g : (Ctx.pulsed s v).g = s.g := by rw [Ctx.pulsed_rest]; rfl
    rw [Ctx.pulsed_drive] at drive
    refine ⟨t, rfl, by rw [drive]; rfl, by rw [drive]; rfl, by rw [drive, ← g]; rfl, by rw [drive]; rfl, by rw [drive]; rfl, fun staged => ?_⟩
    have timer : (t.drive v).timer = ((Ctx.pulsed s v).drive v).timer := by rw [drive, Ctx.pulsed_drive]; rfl
    refine faulted.records s _ _ (by rw [Ctx.pulsed_rest]; rfl) (by rw [Ctx.pulsed_rest]; rfl) (Ctx.pulsed_silent staged)
      (by rw [Ctx.pulsed_rest]; rfl) ?_
    have snapshot := Ctx.pulsed_snapshot s v
    rw [Ctx.pulsed_drive] at snapshot timer ⊢
    exact Drive.recordBytes_eq _ rfl rfl rfl rfl rfl rfl rfl (Timer.pulse_active staged _ _) (by rw [timer]; rfl) snapshot

end Sys2Proof.Machine

-- ==== Sys2Proof/Proofs/Fates.lean ====
namespace Sys2Proof.Machine

open Sys2Proof

/-! ### What only ends orders (R154): no sector changes, and no order is set going -/

/-- Two frames that differ in their use count alone. -/
def Frame.UsesOnly (a b : Frame) : Prop := b = { a with uses := b.uses }

theorem Frame.usesOnly_not_all : ¬ ∀ a b : Frame, a.UsesOnly b := fun h =>
  absurd (congrArg Frame.held (h {} { held := true })) (by simp)

/-- No order is in FILL, and the Frame Wait Queue is empty. -/
def Ctx.NoneFill (c : Ctx) : Prop := c.fwq = [] ∧ ∀ e o, c.order? e = some o → o.stage ≠ .fill

/-- From `c` to `c'` orders end at most: the sectors of every frame stand, and no order is set going. -/
structure Ctx.Ends (c c' : Ctx) : Prop where
  sectors : ∀ f, (c'.frame f).sectors = (c.frame f).sectors
  fills : c.NoneFill → c'.NoneFill

section Ends
variable {v : DriveNo} {N : EntryNo → Prop} {c c' c'' : Ctx} {e : EntryNo}

theorem Ctx.Ends.refl (c : Ctx) : c.Ends c := ⟨fun _ => rfl, fun h => h⟩

theorem Ctx.Ends.trans (h : c.Ends c') (h' : c'.Ends c'') : c.Ends c'' :=
  ⟨fun f => (h'.sectors f).trans (h.sectors f), fun hn => h'.fills (h.fills hn)⟩

/-- A change that leaves the frames, the orders and the Frame Wait Queue. -/
theorem Ctx.Ends.of_parts (frames : c'.frames = c.frames) (table : c'.table = c.table) (fwq : c'.fwq = c.fwq) : c.Ends c' := by
  refine ⟨fun f => by rw [State.frame, frames]; rfl, fun h => ⟨fwq.trans h.1, fun e o ho => ?_⟩⟩
  rw [State.order?_of_table table e] at ho
  exact h.2 e o ho

theorem Steps.ends (h : Steps N Frame.UsesOnly c c') : c.Ends c' := by
  refine ⟨fun f => ?_, fun hn => (h.noneFill Frame.usesOnly_not_all hn.2 hn.1).symm⟩
  exact h.frame_rel (R := fun a b => b.sectors = a.sectors) (fun _ => rfl) (fun _ _ _ h h' => h'.trans h)
    (fun a b hab => by rw [hab]) f

theorem Ctx.Jobs.ends (h : c.Jobs v c') : c.Ends c' := by
  refine ⟨fun f => by rw [State.frame, h.frames]; rfl, fun hn => ⟨by rw [h.rest]; exact hn.1, fun e o ho => ?_⟩⟩
  cases h0 : c.order? e with
  | none => rw [(h.orders e).2 h0] at ho; cases ho
  | some o0 =>
    obtain ⟨o1, ho1, alike⟩ := (h.orders e).1 o0 h0
    rw [ho1] at ho
    cases ho
    rw [alike.stage]
    exact hn.2 e o0 h0

/-- The end of an order drops its frame's use alone. -/
theorem Ctx.endOrder_ends (c : Ctx) (e : EntryNo) (code : Code) (n : Nat) :
    Steps (fun _ => True) Frame.UsesOnly c (c.endOrder e code n) :=
  Works.endOrder (P := fun _ => True) (Q := False) (fun _ _ => rfl) c code n trivial (fun _ _ _ _ => trivial)
    fun _ h => absurd trivial h

/-- Where steps only end orders, no entry comes to wait. -/
theorem Steps.notQueued_ends (h : Steps N Frame.UsesOnly c c') (hq : c.notQueued e) : c'.notQueued e := by
  refine ⟨fun w hw hwe => ?_, fun w hw => hq.2 w (h.waiters.1 w hw)⟩
  obtain ⟨_, hF⟩ | ⟨x, hx, hxe⟩ := h.queued w hw
  · exact Frame.usesOnly_not_all hF
  · exact hq.1 x hx (hxe.trans hwe)

theorem Ctx.setDriveState_ends (c : Ctx) (v : DriveNo) (st : DriveState) (x : Cause) : c.Ends (c.setDriveState v st x) :=
  .of_parts (by rw [c.setDriveState_rest v st x]) (by rw [c.setDriveState_rest v st x]) (by rw [c.setDriveState_rest v st x])

theorem Ctx.blankIncomplete_ends (c : Ctx) (v : DriveNo) : c.Ends (c.blankIncomplete v) := by
  unfold Ctx.blankIncomplete
  split
  · exact (Ctx.Ends.of_parts (c := c) (c' := c.modDrive v _) rfl rfl rfl).trans (Ctx.setDriveState_ends _ v _ _)
  · exact .refl c

theorem Ctx.formatJobEnd_ends (c : Ctx) (e : EntryNo) {x : JobEnd} (hx : x.cut) : c.Ends (c.formatJobEnd e x) := by
  have ends (c : Ctx) (code : Code) (n : Nat) : c.Ends (c.endOrder e code n) := (c.endOrder_ends e code n).ends
  unfold Ctx.formatJobEnd Ctx.disketteJobEnd
  split
  · exact .refl c
  · split
    · exact .refl c
    · split
      · cases hx <;> exact ends _ _ _
      · cases hx <;> exact (c.blankIncomplete_ends _).trans (ends _ _ _)

theorem Ctx.schedDrop_ends (c : Ctx) (v : DriveNo) {x : JobEnd} (hx : x.cut) : c.Ends (c.schedDrop v x) := by
  have quiet := (c.modSched_jobs v fun x => { x with state := .quiet, target := none }).ends
  unfold Ctx.schedDrop
  dsimp only
  split
  · exact quiet
  · have ended := quiet.trans (Ctx.jobEnded_jobs _ v).ends
    split
    · exact ended.trans (Ctx.formatJobEnd_ends _ _ hx)
    all_goals exact ended

theorem Ctx.formatAtFault_ends (c : Ctx) (e : EntryNo) (v : DriveNo) :
    Steps (fun _ => True) Frame.UsesOnly c (c.formatAtFault e v) := by
  unfold Ctx.formatAtFault
  split
  · exact .refl
  · split
    · exact .refl
    · split
      · exact c.endOrder_ends _ _ _
      · exact c.endOrder_ends _ _ _
      · exact c.endOrder_ends _ _ _
      · exact c.endOrder_ends _ _ _
      · split
        · exact .refl
        · exact c.endOrder_ends _ _ _

theorem Ctx.Ends.foldl {α : Type} (k : Ctx → α → Ctx) (h : ∀ (c : Ctx) a, c.Ends (k c a)) (l : List α) :
    ∀ c : Ctx, c.Ends (l.foldl k c) := by
  induction l with
  | nil => exact fun c => .refl c
  | cons a l ih => exact fun c => (h c a).trans (ih _)

theorem Ctx.formatsAtFault_ends (c : Ctx) (v : DriveNo) : c.Ends (c.formatsAtFault v) :=
  .foldl (fun c e => c.formatAtFault e v) (fun c e => (c.formatAtFault_ends e v).ends) _ c

theorem Ctx.toIdle_ends (c : Ctx) (p : PortNo) : c.Ends (c.toIdle p) := by
  unfold Ctx.toIdle
  dsimp only
  split <;> exact .of_parts rfl rfl rfl

/-- The end of a command where no order waits leaves the sectors. -/
theorem Ctx.finish_sectors (c : Ctx) (hc : c.calm) (hn : c.NoneFill) (f : FrameNo) : c.finish.frame f = c.frame f := by
  have store := c.finish_store hc (c.readyOrder_none hn.2) hn.1
  have frames : c.finish.frames = c.frames := congrArg StoreView.frames store
  rw [State.frame, frames]
  rfl

/-! #### A write that the entry to FAULT ends (R61, R73, R76) -/

/-- A change of one sector record, as the frames show it. -/
theorem Ctx.modSector_sectors (c : Ctx) {f : FrameNo} {n : Nat} {x : Sector} (hx : (c.frame f).sectors[n]? = some x)
    (k : Sector → Sector) : ((c.modSector f n k).frame f).sectors = (c.frame f).sectors.set n (k x)
      ∧ ∀ f', f' ≠ f → (c.modSector f n k).frame f' = c.frame f' := by
  rw [Ctx.modSector, Ctx.modFrame]
  refine ⟨?_, fun f' hf => by rw [Ctx.putFrame_frame, if_neg hf]⟩
  rw [Ctx.putFrame_frame, if_pos rfl, Frame.modSlot]
  rw [List.modify_eq_set_getElem?, hx]
  rfl

theorem Ctx.modSector_fills (c : Ctx) (f : FrameNo) (n : Nat) (k : Sector → Sector) (hn : c.NoneFill) :
    (c.modSector f n k).NoneFill := by
  refine ⟨by rw [Ctx.modSector, Ctx.modFrame, Ctx.putFrame_fwq]; exact hn.1, fun e o ho => ?_⟩
  rw [Ctx.modSector, Ctx.modFrame, State.order?_of_table (Ctx.putFrame_table _ f _) e] at ho
  exact hn.2 e o ho

theorem Ctx.sectorStranded_ends (c : Ctx) (f : FrameNo) (n : Nat) (x : StrandCause) (a : Nat) :
    c.Ends (c.sectorStranded f n x a) :=
  ((Works.sectorStranded (N := fun _ => True) (P := fun _ => False) (Q := False) (F := Frame.UsesOnly) (fun _ _ => rfl)
    (fun _ h => h.elim) c f n x a) (fun _ _ _ h => h) fun _ h => absurd trivial h).ends

theorem State.sectorAt_some {s : State} {k : Key} {n : Nat} {f : FrameNo} {x : Sector} (h : s.sectorAt k n = some (f, x)) :
    (s.frame f).sectors[n]? = some x := by
  unfold State.sectorAt at h
  split at h
  · cases h
  · obtain ⟨y, hy, he⟩ := Option.map_eq_some_iff.mp h
    cases he
    exact hy

/-- What a write that ends FAULTED leaves in the store. -/
theorem Ctx.writeOutcome_faulted (c : Ctx) {k : Key} {n : Nat} {f : FrameNo} {x : Sector} (hx : c.sectorAt k n = some (f, x))
    (a : Nat) (w : Half) (hn : c.NoneFill) :
    let c' := c.writeOutcome k n a .faulted w
    (c'.frame f).sectors = (if x.state = .writing then (c.frame f).sectors.set n (x.afterFailedWrite a)
      else (c.frame f).sectors)
    ∧ (∀ f', f' ≠ f → (c'.frame f').sectors = (c.frame f').sectors) ∧ c'.NoneFill := by
  have found := State.sectorAt_some hx
  dsimp only
  by_cases hw : x.state = .writing
  · rw [if_pos hw, c.writeOutcome_failed k n a .faulted w f x hx hw rfl]
    unfold Sector.afterFailedWrite
    split
    · next ha =>
      obtain ⟨sectors, others⟩ := c.modSector_sectors found fun x' => { x' with
        state := .dirty, attempts := x'.attempts + 1, verify := x.verify || x.check, check := false, redirty := false }
      rw [if_pos (show a < 3 from ha)]
      exact ⟨sectors, fun f' hf => by rw [Ctx.redoWrite, others f' hf], c.modSector_fills f n _ hn⟩
    · next ha =>
      rw [if_neg (show ¬ a < 3 from ha)]
      unfold Ctx.strandSector
      rw [found]
      dsimp only
      obtain ⟨sectors, others⟩ := c.modSector_sectors found fun x' => { x' with
        state := .stranded, attempts := writeLadder, rush := false, verify := x.verify || x.check, check := false
        redirty := false, cause := .write }
      have ended := (c.modSector f n fun x' => { x' with
        state := .stranded, attempts := writeLadder, rush := false, verify := x.verify || x.check, check := false
        redirty := false, cause := .write }).sectorStranded_ends f x.number .write a
      exact ⟨(ended.sectors f).trans sectors, fun f' hf => (ended.sectors f').trans (by rw [others f' hf]),
        ended.fills (c.modSector_fills f n _ hn)⟩
  · rw [if_neg hw, c.writeOutcome_discarded k n a .faulted w fun f' x' h' => by rw [hx] at h'; cases h'; exact hw]
    exact ⟨rfl, fun _ _ => rfl, hn⟩

theorem State.sectorAt_of_frames {s t : State} (h : s.frames = t.frames) (k : Key) (n : Nat) :
    s.sectorAt k n = t.sectorAt k n := by
  have frame (f : FrameNo) : s.frame f = t.frame f := by rw [State.frame, h]; rfl
  have frameOf : s.frameOf k = t.frameOf k := by simp only [State.frameOf, frame]
  simp only [State.sectorAt, frameOf, frame]

theorem Ctx.withdraw_work (c : Ctx) (v : DriveNo) (p : PortNo) : ((c.withdraw v).chan p).work = (c.chan p).work := by
  rw [Ctx.withdraw, Ctx.modChan, Ctx.setChan_chan]
  split
  · next h => rw [h, Channel.setPend]; split <;> rfl
  · rfl

theorem Ctx.countOutcome_frames (c : Ctx) (r : Request) (x : Outcome) :
    (c.countOutcome r x).frames = c.frames ∧ (c.countOutcome r x).table = c.table ∧ (c.countOutcome r x).fwq = c.fwq
      ∧ (c.countOutcome r x).channels = c.channels := by
  have walk : ∀ (l : List Counter) (c : Ctx), let c' := l.foldl (fun c k => c.count r.drive k) c
      c'.frames = c.frames ∧ c'.table = c.table ∧ c'.fwq = c.fwq ∧ c'.channels = c.channels := by
    intro l
    induction l with
    | nil => exact fun _ => ⟨rfl, rfl, rfl, rfl⟩
    | cons k l ih => exact fun c => ih (c.count r.drive k)
  exact walk _ c

/-- What the entry to FAULT of a drive leaves of the sector that its port was writing. -/
theorem Ctx.giveUp_write (c : Ctx) {v : DriveNo} {r : Request} {f : FrameNo} {x : Sector}
    (hw : (c.chan (portOf v)).work = some r) (hd : r.drive = v) (hk : r.kind = .write)
    (hx : c.sectorAt ⟨v, r.cylinder, r.head⟩ r.slot = some (f, x)) (hn : c.NoneFill) :
    ((c.giveUp v).frame f).sectors = (if x.state = .writing then (c.frame f).sectors.set r.slot (x.afterFailedWrite r.attempt)
      else (c.frame f).sectors)
    ∧ (∀ f', f' ≠ f → ((c.giveUp v).frame f').sectors = (c.frame f').sectors) ∧ (c.giveUp v).NoneFill := by
  subst hd
  have work := (c.withdraw_work r.drive (portOf r.drive)).trans hw
  have cut : c.channelFault r.drive = (c.withdraw r.drive).endAttempt (portOf r.drive) .faulted := by
    rw [Ctx.channelFault, Ctx.cutWork]
    rw [work]
    dsimp only
    rw [if_neg (by simp), if_pos (by rw [hk]; rfl)]
  have reported : ∃ c2 : Ctx, c2.frames = c.frames ∧ c2.NoneFill
      ∧ c.channelFault r.drive = (c2.reportOutcome (portOf r.drive) r .faulted).toIdle (portOf r.drive) := by
    refine ⟨((((c.withdraw r.drive).modChan (portOf r.drive) fun h => h.closeGate (c.withdraw r.drive).g).countOutcome r
      .faulted).oweRecal (portOf r.drive) r .faulted), ?_, ?_, ?_⟩
    · have counted := ((c.withdraw r.drive).modChan (portOf r.drive) fun h => h.closeGate (c.withdraw r.drive).g).countOutcome_frames
        r .faulted
      unfold Ctx.oweRecal
      split
      · exact (Ctx.Jobs.frames (Ctx.recalRequest_jobs _ r.drive)).trans counted.1
      · exact counted.1
    · have counted := ((c.withdraw r.drive).modChan (portOf r.drive) fun h => h.closeGate (c.withdraw r.drive).g).countOutcome_frames
        r .faulted
      have ends : c.Ends (((c.withdraw r.drive).modChan (portOf r.drive) fun h => h.closeGate (c.withdraw r.drive).g).countOutcome
          r .faulted) := .of_parts counted.1 counted.2.1 counted.2.2.1
      unfold Ctx.oweRecal
      split
      · refine (Ctx.Jobs.ends (Ctx.recalRequest_jobs _ r.drive)).fills ?_
        exact ends.fills hn
      · exact ends.fills hn
    · rw [cut, Ctx.endAttempt, work]
      rfl
  obtain ⟨c2, frames, fills, eq⟩ := reported
  have frame (f : FrameNo) : c2.frame f = c.frame f := by rw [State.frame, frames]; rfl
  have outcome : c2.reportOutcome (portOf r.drive) r .faulted
      = c2.writeOutcome ⟨r.drive, r.cylinder, r.head⟩ r.slot r.attempt .faulted
          (dataCrc (c2.chan (portOf r.drive)).staging) := by
    unfold Ctx.reportOutcome
    rw [hk]
  obtain ⟨here, others, none⟩ := c2.writeOutcome_faulted (k := ⟨r.drive, r.cylinder, r.head⟩) (n := r.slot)
    ((State.sectorAt_of_frames frames _ _).trans hx) r.attempt (dataCrc (c2.chan (portOf r.drive)).staging) fills
  rw [← outcome, frame] at here
  rw [← outcome] at others none
  have ended : (c2.reportOutcome (portOf r.drive) r .faulted).Ends (c.giveUp r.drive) := by
    rw [Ctx.giveUp, eq]
    exact ((Ctx.toIdle_ends _ _).trans (Ctx.formatsAtFault_ends _ _)).trans (Ctx.schedDrop_ends _ _ .fault)
  exact ⟨(ended.sectors f).trans here, fun f' hf => (ended.sectors f').trans ((others f' hf).trans (by rw [frame])),
    ended.fills none⟩

end Ends
end Sys2Proof.Machine

-- ==== Sys2Proof/Proofs/FormatFates.lean ====
namespace Sys2Proof.Machine

open Sys2Proof

/-! ### What becomes of a FORMAT in stage JOB at the entry of its drive to FAULT (R169, R173) -/

/-- What holds before an element of a list is met, and at it comes to be, holds after all of them. -/
theorem Ctx.foldl_meet {α : Type} {P Q : Ctx → Prop} {k : Ctx → α → Ctx} {l : List α} (nodup : l.Nodup) {a : α} (ha : a ∈ l)
    (c : Ctx) (hc : P c) (before : ∀ c b, b ≠ a → P c → P (k c b)) (at_a : ∀ c, P c → Q (k c a))
    (after : ∀ c b, b ≠ a → Q c → Q (k c b)) : Q (l.foldl k c) := by
  have walk {R : Ctx → Prop} (step : ∀ c b, b ≠ a → R c → R (k c b)) :
      ∀ (l : List α) (c : Ctx), a ∉ l → R c → R (l.foldl k c) := by
    intro l
    induction l with
    | nil => exact fun _ _ h => h
    | cons b l ih =>
      intro c hb h
      simp only [List.mem_cons, not_or] at hb
      exact ih _ hb.2 (step c b (fun h => hb.1 h.symm) h)
  obtain ⟨l1, l2, rfl⟩ := List.mem_iff_append.mp ha
  rw [List.nodup_append] at nodup
  obtain ⟨_, nodup2, apart⟩ := nodup
  rw [List.foldl_append, List.foldl_cons]
  exact walk after l2 _ (List.nodup_cons.mp nodup2).1
    (at_a _ (walk before l1 c (fun h => apart a h a (List.mem_cons_self ..) rfl) hc))

theorem Ctx.forEntries_meet {P Q : Ctx → Prop} {k : EntryNo → Ctx → Ctx} {e : EntryNo} (c : Ctx) (hc : P c)
    (before : ∀ e' c, e' ≠ e → P c → P (k e' c)) (at_e : ∀ c, P c → Q (k e c))
    (after : ∀ e' c, e' ≠ e → Q c → Q (k e' c)) : Q (c.forEntries k) :=
  Ctx.foldl_meet (k := fun c e => k e c) (List.nodup_finRange 32) (List.mem_finRange e) c hc (fun c e' he => before e' c he) at_e
    fun c e' he => after e' c he

theorem Ctx.forFrames_meet {P Q : Ctx → Prop} {k : FrameNo → Ctx → Ctx} {f : FrameNo} (c : Ctx) (hc : P c)
    (before : ∀ g c, g ≠ f → P c → P (k g c)) (at_f : ∀ c, P c → Q (k f c))
    (after : ∀ g c, g ≠ f → Q c → Q (k g c)) : Q (c.forFrames k) :=
  Ctx.foldl_meet (k := fun c f => k f c) (List.nodup_finRange 16) (List.mem_finRange f) c hc (fun c g hg => before g c hg) at_f
    fun c g hg => after g c hg

/-- The order in an entry has ended NOT_READY with its track. -/
def Order.EndedNotReady (o : Order) (n : Nat) (g : Word) (o' : Order) : Prop :=
  o'.stage = .finish ∧ o'.result = some ⟨.notReady, n, g⟩ ∧ o'.tracks = o.tracks

/-- The order that stood in an entry stands there still, but for what reports tell it, or has ended NOT_READY (`R`: what it has
come to); no queue names it. -/
structure Ctx.FaultFate (R : Order → Prop) (e : EntryNo) (g : Word) (c : Ctx) : Prop where
  here : ∃ o', c.order? e = some o' ∧ R o'
  free : c.notQueued e
  g : c.g = g

section Fates
variable {v : DriveNo} {c c' : Ctx} {e : EntryNo} {o : Order} {n : Nat} {g : Word}

/-- The order stands, or has ended. -/
def Order.Fated (o : Order) (n : Nat) (g : Word) (o' : Order) : Prop := o.Alike o' ∨ o.EndedNotReady n g o'

theorem Order.EndedNotReady.alike {o1 o2 : Order} (h : o.EndedNotReady n g o1) (a : o1.Alike o2) : o.EndedNotReady n g o2 :=
  ⟨a.stage.trans h.1, a.result.trans h.2.1, a.tracks.trans h.2.2⟩

theorem Order.Fated.alike {o1 o2 : Order} (h : o.Fated n g o1) (a : o1.Alike o2) : o.Fated n g o2 :=
  h.imp (fun h => h.trans a) fun h => h.alike a

theorem Ctx.FaultFate.leaves {R : Order → Prop} (hR : ∀ o1 o2 : Order, R o1 → o1.Alike o2 → R o2) (h : c.FaultFate R e g)
    (l : c.Leaves v (· ≠ e) c') : c'.FaultFate R e g := by
  obtain ⟨o1, ho1, h1⟩ := h.here
  obtain ⟨o2, ho2, a⟩ := (l.orders e (by simp)).1 o1 ho1
  exact ⟨⟨o2, ho2, hR o1 o2 h1 a⟩, l.notQueued (by simp) h.free, l.g.trans h.g⟩

/-- A FORMAT in stage JOB, and one that has ended, go on by no report. -/
theorem Order.Fated.parked (hf : o.isFormat = true) (hs : o.stage = .job) {o' : Order} (h : o.Fated n g o') : o'.Parked := by
  obtain a | h := h
  · exact .inr ⟨a.isFormat.trans hf, .inr (a.stage.trans hs)⟩
  · exact .inl h.1

theorem Ctx.FaultFate.unnamed {R : Order → Prop} (hR : ∀ o, R o → o.Parked) (h : c.FaultFate R e g) :
    c.Unnamed (· ≠ e) := fun e' he => by
  obtain rfl := not_not.mp he
  obtain ⟨o1, ho1, h1⟩ := h.here
  exact ⟨h.free.2, False.elim, fun o ho => by rw [ho1] at ho; cases ho; exact hR _ h1⟩

/-- The end of the order itself. -/
theorem Ctx.FaultFate.ends (h : c.FaultFate (o.Fated n g) e g) (hs : o.stage = .job) :
    (c.endOrder e .notReady n).FaultFate (o.EndedNotReady n g) e g := by
  have steps := c.endOrder_ends e .notReady n
  obtain ⟨o1, ho1, a | h1⟩ := h.here
  · have alive : o1.stage ≠ .finish := by rw [a.stage, hs]; simp
    exact ⟨⟨_, c.endOrder_self e o1 .notReady n ho1 alive, rfl, by rw [← h.g]; rfl, a.tracks⟩,
      steps.notQueued_ends h.free, (State.view_g steps.view).trans h.g⟩
  · rw [c.endOrder_finished e .notReady n fun o' ho' => by rw [ho1] at ho'; cases ho'; exact h1.1]
    exact ⟨⟨o1, ho1, h1⟩, h.free, h.g⟩

/-- A FORMAT that reports alone reached is a FORMAT of the same drive. -/
theorem State.format?_alike {s t : State} (h : s.format? e = some (o, v)) {o' : Order} (ho' : t.order? e = some o')
    (a : o.Alike o') : t.format? e = some (o', v) := by
  obtain ⟨_, hf, hs, hd⟩ := State.format?_some h
  unfold State.format?
  rw [ho']
  dsimp only
  rw [if_pos (by rw [a.isFormat, hf, a.stage]; simpa using hs), a.fields, hd]
  rfl

/-! #### The jobs of a scheduler -/

/-- The job that the scheduler of a drive holds is one of this FORMAT. -/
def Ctx.OwnJob (c : Ctx) (v : DriveNo) (e : EntryNo) : Prop := ∃ j, (c.drive v).sched.job = some j ∧ j.requester = .format e

theorem Ctx.OwnJob.of_eq (h : c.OwnJob v e) (eq : (c'.drive v).sched.job = (c.drive v).sched.job) : c'.OwnJob v e := by
  obtain ⟨j, hj, hr⟩ := h
  exact ⟨j, eq.trans hj, hr⟩

theorem Ctx.formatsAtFault_job (c : Ctx) (v : DriveNo) :
    ((c.formatsAtFault v).drive v).sched.job = (c.drive v).sched.job := by
  have told := ((c.formatsAtFault_steps v).drive v).rest
  generalize (c.formatsAtFault v).drive v = d at told ⊢
  rw [told]

theorem Ctx.modSched_job (c : Ctx) (w v : DriveNo) (k : Sched → Sched) (hk : ∀ x, (k x).job = x.job) :
    ((c.modSched w k).drive v).sched.job = (c.drive v).sched.job := by
  rw [Ctx.modSched, Ctx.modDrive, Ctx.setDrive_drive]
  split
  · next h => rw [hk, h]
  · rfl

theorem Ctx.toIdle_job (c : Ctx) (p : PortNo) (v : DriveNo) :
    ((c.toIdle p).drive v).sched.job = (c.drive v).sched.job := by
  have cleared (c : Ctx) : ((c.clearHolds p).drive v).sched.job = (c.drive v).sched.job := by
    rw [Ctx.clearHolds, Ctx.modSched_job, Ctx.modSched_job] <;> exact fun _ => rfl
  unfold Ctx.toIdle
  dsimp only
  split
  · exact cleared _
  · rfl

theorem Ctx.countOutcome_sched (c : Ctx) (r : Request) (x : Outcome) (v : DriveNo) :
    ((c.countOutcome r x).drive v).sched = (c.drive v).sched := by
  have one (c : Ctx) (k : Counter) : ((c.count r.drive k).drive v).sched = (c.drive v).sched := by
    rw [Ctx.count, Ctx.modDrive, Ctx.setDrive_drive]
    split
    · next h => rw [h]
    · rfl
  have walk : ∀ (l : List Counter) (c : Ctx),
      ((l.foldl (fun c k => c.count r.drive k) c).drive v).sched = (c.drive v).sched := by
    intro l
    induction l with
    | nil => exact fun _ => rfl
    | cons k l ih => exact fun c => (ih _).trans (one c k)
  exact walk _ c

/-- An attempt that is cut leaves the job of a drive that takes no recalibration. -/
theorem Ctx.endAttempt_job (c : Ctx) (p : PortNo) {x : Outcome} (hx : x.keepsBurst = false) {r : Request}
    (hw : (c.chan p).work = some r) (hd : (c.drive r.drive).state.takesRecal = false) :
    ((c.endAttempt p x).drive r.drive).sched.job = (c.drive r.drive).sched.job := by
  have told (c : Ctx) : ((c.reportOutcome p r x).drive r.drive).sched = (c.drive r.drive).sched := by
    have steps := (Works.reportOutcome (N := fun _ => True) (P := fun _ => False) (Q := False) (F := fun _ _ => True)
      (fun _ h => h.elim) (fun _ _ => trivial) c p r x) (fun _ _ _ h => h) fun _ h => absurd trivial h
    rw [(steps.drive r.drive).rest]
  have counted : ((((c.modChan p fun h => h.closeGate c.g).countOutcome r x)).drive r.drive).state = (c.drive r.drive).state := by
    have left := (c.modChan p fun h => h.closeGate c.g).countOutcome_leaves r.drive (fun _ => True) r x
    rw [left.drive]
    rfl
  have owes : ((((c.modChan p fun h => h.closeGate c.g).countOutcome r x).oweRecal p r x).drive r.drive).sched
      = (c.drive r.drive).sched := by
    refine .trans ?_ ((c.modChan p fun h => h.closeGate c.g).countOutcome_sched r x r.drive)
    generalize (c.modChan p fun h => h.closeGate c.g).countOutcome r x = c1 at counted
    unfold Ctx.oweRecal
    split
    · rw [Ctx.recalRequest_untaken (c1.modChan p fun h => h.setOwed r.drive true) r.drive
        ((congrArg DriveState.takesRecal counted).trans hd)]
      rfl
    · rfl
  unfold Ctx.endAttempt
  rw [hw]
  dsimp only
  rw [hx]
  exact (Ctx.toIdle_job _ p _).trans (congrArg Sched.job ((told _).trans owes))

end Fates

/-! #### The fate of a FORMAT through the fall of its drive -/

/-- What a FORMAT can have come to, closed under reports: it is fated, and having ended is such. -/
structure Order.FateOf (o : Order) (n : Nat) (g : Word) (R : Order → Prop) : Prop where
  alike : ∀ o1 o2 : Order, R o1 → o1.Alike o2 → R o2
  fated : ∀ o', R o' → o.Fated n g o'
  ended : ∀ o', o.EndedNotReady n g o' → R o'

theorem Order.fateOf_fated (o : Order) (n : Nat) (g : Word) : o.FateOf n g (o.Fated n g) :=
  ⟨fun _ _ h a => h.alike a, fun _ h => h, fun _ h => .inr h⟩

theorem Order.fateOf_ended (o : Order) (n : Nat) (g : Word) : o.FateOf n g (o.EndedNotReady n g) :=
  ⟨fun _ _ h a => h.alike a, fun _ h => .inr h, fun _ h => h⟩

theorem Ctx.FaultFate.mono {c : Ctx} {e : EntryNo} {g : Word} {R S : Order → Prop} (h : c.FaultFate R e g)
    (hRS : ∀ o, R o → S o) : c.FaultFate S e g := by
  obtain ⟨o', ho', h'⟩ := h.here
  exact ⟨⟨o', ho', hRS _ h'⟩, h.free, h.g⟩

section Fall
variable {s : State} {v : DriveNo} {c c' : Ctx} {e : EntryNo} {o : Order} {n : Nat} {g : Word} {R : Order → Prop}
variable (hf : s.format? e = some (o, v)) (hs : o.stage = .job) (ht : o.track = some n) (hR : o.FateOf n g R)
include hf hs hR

theorem Ctx.FaultFate.covered (h : c.FaultFate R e g) : c.Unnamed (· ≠ e) :=
  h.unnamed fun _ ho => (hR.fated _ ho).parked (State.format?_some hf).2.1 hs

theorem Ctx.FaultFate.leaving (h : c.FaultFate R e g) (hd : (c.drive v).down) (l : c.Leaving v (· ≠ e) c') :
    c'.FaultFate R e g := h.leaves hR.alike (l hd (h.covered hf hs hR))

include ht

omit hf hR in
/-- The order, once its drive has ended it. -/
theorem Ctx.FaultFate.endsTrack (h : c.FaultFate (o.Fated n g) e g) {o' : Order} (a : o.Alike o') :
    (c.endOrder e .notReady (o'.track.getD 0)).FaultFate (o.EndedNotReady n g) e g := by
  rw [a.track, ht]
  exact h.ends hs

/-- The end of the FORMAT's own job: it ends, but where its phase is another than that of a posted job. -/
theorem Ctx.FaultFate.jobEnd (h : c.FaultFate R e g) (hd : (c.drive v).down) :
    (c.formatJobEnd e .fault).FaultFate (o.EndedNotReady n g) e g
      ∨ (c.formatJobEnd e .fault = c ∧ ∃ o', c.order? e = some o' ∧ o.Alike o' ∧ o'.phase ≠ .posted) := by
  obtain ⟨o', ho', h'⟩ := h.here
  obtain a | ended := hR.fated o' h'
  · rw [Ctx.formatJobEnd, State.format?_alike hf ho' a]
    dsimp only
    by_cases hp : o'.phase ≠ .posted
    · exact .inr ⟨if_pos hp, o', ho', a, hp⟩
    · left
      have fate := h.mono hR.fated
      rw [if_neg hp]
      split
      · exact fate.endsTrack hs ht a
      · have blank := fate.leaving hf hs (o.fateOf_fated n g) hd (c.blankIncomplete_leaving v v (· ≠ e))
        exact blank.endsTrack hs ht a
  · left
    rw [Ctx.formatJobEnd, State.format?_finished fun o1 ho1 => by rw [ho'] at ho1; cases ho1; exact ended.1]
    exact ⟨⟨o', ho', ended⟩, h.free, h.g⟩

theorem Ctx.FaultFate.formatJobEnd (h : c.FaultFate R e g) (hd : (c.drive v).down) (e' : EntryNo) :
    (c.formatJobEnd e' .fault).FaultFate R e g := by
  by_cases he : e' = e
  · subst he
    obtain ended | ⟨eq, _⟩ := h.jobEnd hf hs ht hR hd
    · exact ended.mono hR.ended
    · rw [eq]; exact h
  · exact h.leaving hf hs hR hd (Ctx.formatJobEnd_leaving c v .fault (.inl he))

/-- The FORMATs of the drive fall at its entry to FAULT (R169, R173). -/
theorem Ctx.FaultFate.formatsAtFault (h : c.FaultFate R e g) (hd : (c.drive v).down) :
    (c.formatsAtFault v).FaultFate R e g
      ∧ (o.phase = .busy ∨ o.phase = .slotFree ∨ o.phase = .discard1 ∨ (∃ b, o.phase = .discard2 b)
          ∨ o.fields.trackScope = false → (c.formatsAtFault v).FaultFate (o.EndedNotReady n g) e g) := by
  have others {S : Order → Prop} (hS : o.FateOf n g S) (e' : EntryNo) (c : Ctx) (he : e' ≠ e)
      (h : c.FaultFate S e g ∧ (c.drive v).down) : (c.formatAtFault e' v).FaultFate S e g
      ∧ ((c.formatAtFault e' v).drive v).down := by
    have left := (Ctx.formatAtFault_leaving (N := (· ≠ e)) c v v (.inl he)) h.2 (h.1.covered hf hs hS)
    exact ⟨h.1.leaves hS.alike left, left.down h.2⟩
  have down (c : Ctx) (hd : (c.drive v).down) : ((c.formatAtFault e v).drive v).down :=
    ((c.formatAtFault_ends e v).leaves v).down hd
  have at_e (c : Ctx) (h : c.FaultFate R e g) : (c.formatAtFault e v).FaultFate (o.EndedNotReady n g) e g
      ∨ (c.formatAtFault e v = c ∧ ¬ (o.phase = .busy ∨ o.phase = .slotFree ∨ o.phase = .discard1
        ∨ (∃ b, o.phase = .discard2 b) ∨ o.fields.trackScope = false)) := by
    obtain ⟨o', ho', h'⟩ := h.here
    obtain a | ended := hR.fated o' h'
    · rw [Ctx.formatAtFault, State.format?_alike hf ho' a]
      dsimp only
      rw [if_neg (by rw [a.stage, hs]; simp)]
      have fate := h.mono hR.fated
      split
      · exact .inl (fate.endsTrack hs ht a)
      · exact .inl (fate.endsTrack hs ht a)
      · exact .inl (fate.endsTrack hs ht a)
      · exact .inl (fate.endsTrack hs ht a)
      · next first second busy free =>
        split
        · next scope =>
          refine .inr ⟨rfl, ?_⟩
          rw [a.fields] at scope
          rintro (hp | hp | hp | ⟨b, hp⟩ | hp)
          · obtain same | ⟨_, now⟩ := a.phase
            · exact busy (same.trans hp)
            · exact free now
          all_goals obtain same | ⟨was, _⟩ := a.phase
          · exact free (same.trans hp)
          · rw [hp] at was; cases was
          · exact first (same.trans hp)
          · rw [hp] at was; cases was
          · exact second b (same.trans hp)
          · rw [hp] at was; cases was
          all_goals rw [hp] at scope; cases scope
        · exact .inl (fate.endsTrack hs ht a)
    · left
      rw [Ctx.formatAtFault, State.format?_finished fun o1 ho1 => by rw [ho'] at ho1; cases ho1; exact ended.1]
      exact ⟨⟨o', ho', ended⟩, h.free, h.g⟩
  constructor
  · exact (Ctx.forEntries_meet (P := fun c => c.FaultFate R e g ∧ (c.drive v).down)
      (Q := fun c => c.FaultFate R e g ∧ (c.drive v).down) c ⟨h, hd⟩ (others hR)
      (fun c h => ⟨(at_e c h.1).elim (fun h => h.mono hR.ended) fun hn => by rw [hn.1]; exact h.1, down c h.2⟩)
      (others hR)).1
  · intro hp
    exact (Ctx.forEntries_meet (P := fun c => c.FaultFate R e g ∧ (c.drive v).down)
      (Q := fun c => c.FaultFate (o.EndedNotReady n g) e g ∧ (c.drive v).down) c ⟨h, hd⟩ (others hR)
      (fun c h => ⟨(at_e c h.1).resolve_right fun hn => hn.2 hp, down c h.2⟩) (others (o.fateOf_ended n g))).1

/-- The channel's work for the drive is cut. A FORMAT whose job runs there ends with it; else its job stays with the scheduler, but
where a DISCOVER job ends. -/
theorem Ctx.FaultFate.cutWork (h : c.FaultFate R e g) (hd : (c.drive v).down) :
    (c.cutWork v .faulted .fault).FaultFate R e g
      ∧ (o.phase = .posted → c.OwnJob v e →
          (∀ r, (c.chan (portOf v)).work = some r → r.drive = v → r.kind ≠ .discover) →
          (c.cutWork v .faulted .fault).FaultFate (o.EndedNotReady n g) e g ∨ (c.cutWork v .faulted .fault).OwnJob v e) := by
  unfold Ctx.cutWork
  dsimp only
  split
  · exact ⟨h, fun _ own _ => .inr own⟩
  · next r hw =>
    split
    · exact ⟨h, fun _ own _ => .inr own⟩
    · next hv =>
      obtain rfl := not_not.mp hv
      split
      · refine ⟨h.leaving hf hs hR hd (c.endAttempt_leaving _ .faulted rfl fun r' hr' => by rw [hw] at hr'; cases hr'; rfl),
          fun _ own _ => .inr (own.of_eq (c.endAttempt_job _ rfl hw hd.takesRecal))⟩
      · split
        · next hk => exact ⟨h.leaving hf hs hR hd (c.listenEnd_leaving _ r none), fun _ _ hn => absurd hk (hn r hw rfl)⟩
        · have gate : c.Leaves r.drive (· ≠ e) (c.modChan (portOf r.drive) fun h => h.closeGate c.g) :=
            c.closeGate_leaves r.drive _ _
          have same : ((c.modChan (portOf r.drive) fun h => h.closeGate c.g).drive r.drive) = c.drive r.drive := rfl
          have idle (c : Ctx) : c.Leaves r.drive (· ≠ e) (c.toIdle (portOf r.drive)) := c.toIdle_leaves r.drive _ _
          have back : (((c.modChan (portOf r.drive) fun h => h.closeGate c.g).toIdle (portOf r.drive)).FaultFate R e g)
              ∧ (c.OwnJob r.drive e →
                ((c.modChan (portOf r.drive) fun h => h.closeGate c.g).toIdle (portOf r.drive)).OwnJob r.drive e) :=
            ⟨h.leaves hR.alike (gate.trans (idle _)), fun own => own.of_eq (Ctx.toIdle_job _ _ _)⟩
          unfold Ctx.trackJobEnd
          dsimp only
          split
          · next j hj =>
            split
            · have left := (gate.trans ((Ctx.jobEnded_jobs _ r.drive).leaves r.drive)).trans (idle _)
              have fate := h.leaves hR.alike left
              have down := left.down hd
              have own (x : Requester) (hx : j.requester = x) (hn : x ≠ .format e) : ¬ c.OwnJob r.drive e := by
                rintro ⟨j', hj', hr'⟩
                have : (c.drive r.drive).sched.job = some j := hj
                rw [this] at hj'
                cases hj'
                exact hn (hx.symm.trans hr')
              split
              · next e' he' =>
                refine ⟨fate.formatJobEnd hf hs ht hR down e', fun hp ho _ => ?_⟩
                by_cases hee : e' = e
                · subst hee
                  obtain ended | ⟨_, o', ho', a, hp'⟩ := fate.jobEnd hf hs ht hR down
                  · exact .inl ended
                  · obtain same | ⟨was, _⟩ := a.phase
                    · exact absurd (same.trans hp) hp'
                    · rw [hp] at was; cases was
                · exact absurd ho (own _ he' (by simpa using hee))
              · next hx =>
                exact ⟨fate.leaving hf hs hR down (Ctx.blankIncomplete_leaving _ _ _ _),
                  fun _ ho _ => absurd ho (own _ hx (by simp))⟩
              all_goals
                next hx => exact ⟨fate, fun _ ho _ => absurd ho (own _ hx (by simp))⟩
            · exact ⟨back.1, fun _ own _ => .inr (back.2 own)⟩
          · exact ⟨back.1, fun _ own _ => .inr (back.2 own)⟩

/-- The scheduler gives up its job (R105): a FORMAT whose job it is ends. -/
theorem Ctx.FaultFate.schedDrop (h : c.FaultFate R e g) (hd : (c.drive v).down) :
    (c.schedDrop v .fault).FaultFate R e g
      ∧ (o.phase = .posted → c.OwnJob v e → (c.schedDrop v .fault).FaultFate (o.EndedNotReady n g) e g) := by
  have at1 : (c.modSched v fun x => { x with state := .quiet, target := none }).drive v
      = { c.drive v with sched := { (c.drive v).sched with state := .quiet, target := none } } := Ctx.setDrive_drive_self ..
  have quiet : c.Leaves v (· ≠ e) (c.modSched v fun x => { x with state := .quiet, target := none }) :=
    (c.modSched_jobs v _).leaves v
  unfold Ctx.schedDrop
  dsimp only
  split
  · next hj =>
    refine ⟨h.leaves hR.alike quiet, fun _ ⟨j, hj', _⟩ => ?_⟩
    rw [at1] at hj
    rw [hj] at hj'
    cases hj'
  · next j hj =>
    have left := quiet.trans ((Ctx.jobEnded_jobs _ v).leaves v)
    have fate := h.leaves hR.alike left
    have down := left.down hd
    have own (x : Requester) (hx : j.requester = x) (hn : x ≠ .format e) : ¬ c.OwnJob v e := by
      rintro ⟨j', hj', hr'⟩
      rw [at1] at hj
      rw [hj] at hj'
      cases hj'
      exact hn (hx.symm.trans hr')
    split
    · next e' he' =>
      refine ⟨fate.formatJobEnd hf hs ht hR down e', fun hp ho => ?_⟩
      by_cases hee : e' = e
      · subst hee
        obtain ended | ⟨_, o', ho', a, hp'⟩ := fate.jobEnd hf hs ht hR down
        · exact ended
        · obtain same | ⟨was, _⟩ := a.phase
          · exact absurd (same.trans hp) hp'
          · rw [hp] at was; cases was
      · exact absurd ho (own _ he' (by simpa using hee))
    all_goals
      next hx => exact ⟨fate, fun _ ho => absurd ho (own _ hx (by simp))⟩

omit hR in
/-- A FORMAT that waits for its drive, has a job there, or is a diskette format ends as the drive gives up its work. -/
theorem Ctx.FaultFate.giveUp (h : c.FaultFate (o.Fated n g) e g) (hd : (c.drive v).down)
    (hp : o.phase = .busy ∨ o.phase = .slotFree ∨ o.phase = .discard1 ∨ (∃ b, o.phase = .discard2 b)
      ∨ (o.phase = .posted ∧ c.OwnJob v e ∧ ∀ r, (c.chan (portOf v)).work = some r → r.drive = v → r.kind ≠ .discover)
      ∨ o.fields.trackScope = false) : (c.giveUp v).FaultFate (o.EndedNotReady n g) e g := by
  have fated := o.fateOf_fated n g
  have gone := o.fateOf_ended n g
  have withdrawn := c.withdraw_leaves v (· ≠ e)
  have down1 := withdrawn.down hd
  have h1 := h.leaves fated.alike withdrawn
  obtain ⟨h2, cut⟩ := h1.cutWork hf hs ht fated down1
  have down2 : ((c.channelFault v).drive v).down := (c.channelFault_leaves v hd).down hd
  have down3 : (((c.channelFault v).formatsAtFault v).drive v).down :=
    (Steps.leaves ((c.channelFault v).formatsAtFault_steps v) v).down down2
  have h2' : (c.channelFault v).FaultFate (o.Fated n g) e g := h2
  by_cases waits : o.phase = .busy ∨ o.phase = .slotFree ∨ o.phase = .discard1 ∨ (∃ b, o.phase = .discard2 b)
      ∨ o.fields.trackScope = false
  · exact (((h2'.formatsAtFault hf hs ht fated down2).2 waits).schedDrop hf hs ht gone down3).1
  · obtain ⟨posted, own, work⟩ : o.phase = .posted ∧ c.OwnJob v e
        ∧ ∀ r, (c.chan (portOf v)).work = some r → r.drive = v → r.kind ≠ .discover := by
      simp only [not_or] at waits
      obtain ⟨busy, free, first, second, scope⟩ := waits
      exact ((((hp.resolve_left busy).resolve_left free).resolve_left first).resolve_left second).resolve_right scope
    have own1 : (c.withdraw v).OwnJob v e := own.of_eq rfl
    have work1 : ∀ r, ((c.withdraw v).chan (portOf v)).work = some r → r.drive = v → r.kind ≠ .discover := fun r hr =>
      work r ((c.withdraw_work v (portOf v)).symm.trans hr)
    obtain ended | own2 := cut posted own1 work1
    · have ended' : (c.channelFault v).FaultFate (o.EndedNotReady n g) e g := ended
      exact ((ended'.formatsAtFault hf hs ht gone down2).1.schedDrop hf hs ht gone down3).1
    · have own3 : ((c.channelFault v).formatsAtFault v).OwnJob v e :=
        Ctx.OwnJob.of_eq (c := c.channelFault v) own2 (Ctx.formatsAtFault_job _ v)
      exact ((h2'.formatsAtFault hf hs ht fated down2).1.schedDrop hf hs ht fated down3).2 posted own3

end Fall

/-- The FORMATs of a drive fall with it to the end of the command (R169, R173). -/
theorem Ctx.giveUp_formatsFail {s : State} {v : DriveNo} {c : Ctx} (hd : (c.drive v).down) (g : c.g = s.g)
    (table : c.table = s.table) (fwq : c.fwq = s.fwq) (waiters : c.waiters = s.waiters)
    (job : (c.drive v).sched.job = (s.drive v).sched.job) (channels : c.channels = s.channels) :
    s.formatsFail (c.giveUp v).finish v := by
  intro e o n hf free hs ht hp
  have here := (State.order?_of_table table e).trans (State.format?_some hf).1
  have fate : c.FaultFate (o.Fated n s.g) e s.g :=
    ⟨⟨o, here, .inl (.refl o)⟩, ⟨by rw [fwq]; exact free.1, by rw [waiters]; exact free.2⟩, g⟩
  have ended := fate.giveUp hf hs ht hd (by
    refine hp.imp id (.imp id (.imp id (.imp id (.imp (fun h => ⟨h.1, ?_, ?_⟩) id))))
    · obtain ⟨j, hj, hr⟩ := h.2.1
      exact ⟨j, job.trans hj, hr⟩
    · rw [State.chan_of_channels channels]; exact h.2.2)
  obtain ⟨o1, ho1, hfin, hres, htr⟩ := ended.here
  obtain ⟨o2, ho2, hfin2, hres2, htr2⟩ := (c.giveUp v).finish_ended ho1 hfin ended.free
  exact ⟨o2, ho2, hfin2, hres2.trans hres, htr2.trans htr⟩

/-- The write of a drive's sector falls with it to the end of the command (R61, R73, R76). -/
theorem Ctx.giveUp_writeFaulted {s : State} {v : DriveNo} {c : Ctx} (hd : (c.drive v).down) (ctl : c.ctl = s.ctl)
    (table : c.table = s.table) (fwq : c.fwq = s.fwq) (frames : c.frames = s.frames) (channels : c.channels = s.channels) :
    s.writeFaulted (c.giveUp v).finish v := by
  intro r f x hn hw hr hk hx
  have none : c.NoneFill := ⟨fwq.trans hn.2.1, fun e o ho => hn.2.2 e o (by rw [← State.order?_of_table table]; exact ho)⟩
  have frame (f : FrameNo) : c.frame f = s.frame f := by rw [State.frame, frames]; rfl
  obtain ⟨here, others, none'⟩ := c.giveUp_write ((congrArg Channel.work (State.chan_of_channels channels _)).trans hw) hr hk
    ((State.sectorAt_of_frames frames _ _).trans hx) none
  have calm : (c.giveUp v).calm := by
    have := (c.giveUp_leaves v hd).1.ctl.trans ctl
    exact ⟨fun h => hn.1.1 (this.symm.trans h), fun h => hn.1.2 (this.symm.trans h)⟩
  refine ⟨?_, fun f' hf => ?_⟩
  · rw [(c.giveUp v).finish_sectors calm none', here, frame]
  · rw [(c.giveUp v).finish_sectors calm none', others f' hf, frame]

end Sys2Proof.Machine

-- ==== Sys2Proof/Proofs/FaultRises.lean ====
namespace Sys2Proof.Machine

open Sys2Proof

/-! ### DRIVE_FAULT_RISE, NO_INDEX_TIMEOUT and SPINUP_LIMIT (R5, R8, R29) -/

/-- The FORMATs and the write that fall with a drive, where the command has changed the drive alone. -/
theorem Ctx.faultEntry_fails {s : State} {c : Ctx} {v : DriveNo} (x : Cause) (rest : c = { Ctx.of s with drives := c.drives })
    (job : (c.drive v).sched.job = (s.drive v).sched.job) (h : (c.drive v).state ≠ .fault) :
    s.formatsFail (c.faultEntry v x).finish v ∧ s.writeFaulted (c.faultEntry v x).finish v := by
  have at0 : (c.modDrive v fun d => d.enterFault c.g x).drive v = (c.drive v).enterFault c.g x := Ctx.setDrive_drive_self ..
  have changes : ¬ (((c.modDrive v fun d => d.enterFault c.g x).drive v).state = .fault
      ∧ ((c.modDrive v fun d => d.enterFault c.g x).drive v).cause = x) := by
    rw [at0]; exact fun hs => h hs.1
  have set := Ctx.setDriveState_drive _ v .fault x changes
  have rest1 := (c.modDrive v fun d => d.enterFault c.g x).setDriveState_rest v .fault x
  have same : (c.modDrive v fun d => d.enterFault c.g x)
      = { Ctx.of s with drives := (c.modDrive v fun d => d.enterFault c.g x).drives } := by
    rw [Ctx.modDrive, Ctx.setDrive, rest]
  rw [at0] at set
  rw [c.faultEntry_eq v x h]
  generalize hc1 : (c.modDrive v fun d => d.enterFault c.g x) = c0 at set rest1 same ⊢
  generalize c0.setDriveState v .fault x = c1 at set rest1 ⊢
  have down : (c1.drive v).down := fun k => by rw [set]; cases k <;> rfl
  have job1 : (c1.drive v).sched.job = (s.drive v).sched.job := by rw [set]; exact job
  rw [same] at rest1
  exact ⟨Ctx.giveUp_formatsFail down (by rw [rest1]; rfl) (by rw [rest1]; rfl) (by rw [rest1]; rfl) (by rw [rest1]; rfl) job1
      (by rw [rest1]; rfl),
    Ctx.giveUp_writeFaulted down (by rw [rest1]; rfl) (by rw [rest1]; rfl) (by rw [rest1]; rfl) (by rw [rest1]; rfl)
      (by rw [rest1]; rfl)⟩

/-- The state at a rise of DRIVE FAULT. -/
def Ctx.risen (s : State) (v : DriveNo) : Ctx := (Ctx.of s).setFaultLine v true

theorem Ctx.risen_drive (s : State) (v : DriveNo) :
    (Ctx.risen s v).drive v = { s.drive v with lines := { (s.drive v).lines with driveFault := true } } :=
  Ctx.setDrive_drive_self ..

/-- Settles O19, by the drive state at the rise of the line. -/
theorem driveFaultRise : Obligations.DriveFaultRise := by
  intro v s
  dsimp only
  have at0 := Ctx.risen_drive s v
  refine ⟨fun hf => ?_, fun hf hs => ?_, fun hf hs hx => ?_, fun hf h1 h2 h3 => ?_⟩
  · simp only [exec, execDriveFaultRise, hf, if_true]
  · have held : ¬ ((s.drive v).state.canFault = true ∨ ((s.drive v).state = .fault ∧ (s.drive v).cause = .speed)) := by
      rintro (h | ⟨h, hx⟩)
      · obtain hs | hs | ⟨hs, _⟩ := hs <;> rw [hs] at h <;> cases h
      · obtain hs | hs | ⟨_, hn⟩ := hs
        · rw [hs] at h; cases h
        · rw [hs] at h; cases h
        · exact hn hx
    simp only [exec, execDriveFaultRise, hf, held, if_false, Bool.false_eq_true]
    rfl
  · have run : exec (.driveFaultRise v) s = .next ((Ctx.risen s v).setDriveState v .fault .drive).finish := by
      simp only [exec, execDriveFaultRise, hf, hs, hx, and_self, or_true, if_true, if_false, Bool.false_eq_true, Ctx.next]
      rw [Ctx.faultEntry, if_pos (by show ((Ctx.risen s v).drive v).state = .fault; rw [at0]; exact hs)]
      rfl
    have entered := (Ctx.risen s v).setDriveState_finish (v := v) (st := .fault) (x := .drive)
      (by rw [at0]; rintro ⟨_, h⟩; cases hx.symm.trans h)
    rw [run]
    generalize ((Ctx.risen s v).setDriveState v .fault .drive).finish = t at entered ⊢
    refine ⟨t, rfl, ?_, ?_, entered.records s _ _ false rfl rfl (by rw [at0]) rfl (Bool.and_false _) ?_⟩
    · rw [entered.view, at0, Drive.entering, ← hs]; rfl
    · rw [entered.fault, at0]
    · rw [at0]; exact Drive.recordBytes_eq _ hs.symm rfl rfl rfl rfl rfl rfl rfl rfl rfl
  · have can : (s.drive v).state.canFault = true := by
      revert h1 h2 h3
      cases (s.drive v).state <;> simp [DriveState.canFault]
    have run : exec (.driveFaultRise v) s = .next ((Ctx.risen s v).faultEntry v .drive).finish := by
      simp only [exec, execDriveFaultRise, hf, can, true_or, if_true, if_false, Bool.false_eq_true, Ctx.next]
      rfl
    have away : ((Ctx.risen s v).drive v).state ≠ .fault := by rw [at0]; exact h3
    have faulted := (Ctx.risen s v).faultEntry_finish .drive away (Ctx.modDrive_cleared _ _ (Ctx.of_cleared s))
    obtain ⟨formats, writes⟩ := Ctx.faultEntry_fails (c := Ctx.risen s v) .drive rfl (by rw [at0]) away
    rw [run]
    generalize ((Ctx.risen s v).faultEntry v .drive).finish = t at faulted formats writes ⊢
    have drive := faulted.drive
    rw [at0] at drive
    have arm (a : Arm) : a.atFault .drive = .free := if_neg (by simp)
    refine ⟨t, rfl, by rw [drive]; rfl, by rw [drive]; rfl, by rw [drive]; rfl, by rw [drive]; rfl, ?_, by rw [drive]; rfl,
      by rw [drive]; rfl, by rw [drive]; rfl, formats, writes, by rw [drive]; rfl, by rw [drive]; rfl, by rw [drive]; rfl,
      by rw [drive]; rfl, faulted.job, faulted.target, faulted.quiet, ?_, faulted.work⟩
    · rw [drive]; exact arm (s.drive v).arm
    · exact faulted.records s _ _ rfl rfl (by rw [at0]) rfl
        (by rw [at0]; exact Drive.recordBytes_eq _ rfl rfl rfl rfl rfl rfl rfl rfl rfl rfl)

/-! ### The lost index and the limit of SPINUP -/

/-- What an entry to FAULT with cause SPEED leaves, where the command has changed at most the drive's timer before. -/
theorem Ctx.speedLost_faults {s : State} {c : Ctx} {v : DriveNo} (rest : c = { Ctx.of s with drives := c.drives })
    (at0 : c.drive v = { s.drive v with timer := (c.drive v).timer }) (timer : (c.drive v).timer.active = (s.drive v).timer.active
      ∧ (c.drive v).timer.p16 = (s.drive v).timer.p16) (h : (s.drive v).state ≠ .fault) {t : State}
    (ht : t = (c.faultEntry v .speed).finish) :
    let d := s.drive v
    ((t.drive v).state = .fault ∧ (t.drive v).cause = .speed
      ∧ (t.drive v).heads = .unloaded ∧ (t.drive v).faultStamp = some s.g ∧ (t.drive v).expiry = .armed
      ∧ (t.drive v).arm = (if d.arm.recalibrating = true then .free else d.arm)
      ∧ (t.drive v).recalStopped = (d.arm.recalibrating || (d.state == .recal && d.arm.seeking))
      ∧ s.formatsFail t v ∧ s.writeFaulted t v
      ∧ s.recordsChange t v
          { d with state := .fault, cause := .speed, layoutKnown := d.layoutKnown && d.state != .formatting }
          (s.strandedCount v) false)
    ∧ (t.drive v).timer = (c.drive v).timer := by
  subst ht
  have away : (c.drive v).state ≠ .fault := by rw [at0]; exact h
  have faulted := c.faultEntry_finish .speed away (by rw [rest]; exact (Ctx.of_cleared s).of_eq rfl rfl)
  obtain ⟨formats, writes⟩ := Ctx.faultEntry_fails .speed rest (by rw [at0]) away
  have g1 : c.g = s.g := by rw [rest]; rfl
  generalize (c.faultEntry v .speed).finish = t at faulted formats writes ⊢
  have drive := faulted.drive
  have records := faulted.records s
    { s.drive v with state := .fault, cause := .speed
                     layoutKnown := (s.drive v).layoutKnown && (s.drive v).state != .formatting }
    (s.strandedCount v) (by rw [rest]; rfl) (by rw [rest]; rfl) (by rw [at0]) (by rw [rest]; rfl)
    (by rw [at0]; exact Drive.recordBytes_eq _ rfl rfl rfl rfl rfl rfl rfl timer.1 timer.2 rfl)
  rw [at0, g1] at drive
  have arm : ((s.drive v).arm.atFault .speed) = if (s.drive v).arm.recalibrating = true then .free else (s.drive v).arm := by
    unfold Arm.atFault
    cases (s.drive v).arm.recalibrating <;> simp
  exact ⟨⟨by rw [drive]; rfl, by rw [drive]; rfl, by rw [drive]; rfl, by rw [drive]; rfl, by rw [drive]; rfl,
    by rw [drive]; exact arm, by rw [drive]; rfl, formats, writes, records⟩, by rw [drive]; rfl⟩

/-- The state at a lost index. -/
def Ctx.indexLost (s : State) (v : DriveNo) : Ctx := (Ctx.of s).modTimer v fun t => { t with acc := 0, noIndex := none }

theorem Ctx.indexLost_drive (s : State) (v : DriveNo) : (Ctx.indexLost s v).drive v =
    { s.drive v with timer := { (s.drive v).timer with acc := 0, noIndex := none } } := Ctx.setDrive_drive_self ..

/-- Settles O24: the entry to FAULT with cause SPEED, from the lost index and from the limit of SPINUP. -/
theorem speedTimeouts : Obligations.SpeedTimeouts := by
  intro v s d faults
  refine ⟨fun hx => ?_, fun x hx hr => ?_, fun hs => ?_, fun x hs hx hr => ?_⟩
  · have due : s.noIndexDue v = false := by
      unfold State.noIndexDue
      split
      · next x h => exact hx x h
      · rfl
    simp only [exec, execNoIndexTimeout, due, Bool.false_eq_true, if_false]
  · have due : s.noIndexDue v = true := by
      unfold State.noIndexDue
      rw [show (s.drive v).timer.noIndex = some x from hx]
      exact hr
    have at0 := Ctx.indexLost_drive s v
    have state0 : ((Ctx.indexLost s v).drive v).state = (s.drive v).state := by rw [at0]
    have run : exec (.noIndexTimeout v) s = .next ((Ctx.indexLost s v).speedLost v).finish := by
      simp only [exec, execNoIndexTimeout, due, if_true, Ctx.next]
      rfl
    rw [run]
    refine ⟨_, rfl, ?_⟩
    by_cases can : (s.drive v).state.canFault = true
    · have lost : (Ctx.indexLost s v).speedLost v = (Ctx.indexLost s v).faultEntry v .speed :=
        if_pos (by rw [state0]; exact can)
      rw [lost]
      obtain ⟨fell, timer⟩ := Ctx.speedLost_faults (s := s) (c := Ctx.indexLost s v) (v := v) rfl (by rw [at0]) (by rw [at0]; exact ⟨rfl, rfl⟩)
        (fun h => by rw [h] at can; cases can) rfl
      refine ⟨by rw [timer, at0], fun _ _ _ => fell, fun hs => ?_⟩
      obtain hs | hs | hs := hs <;> (rw [show (s.drive v).state = _ from hs] at can; cases can)
    · have lost : (Ctx.indexLost s v).speedLost v = Ctx.indexLost s v := if_neg (by rw [state0]; exact can)
      rw [lost]
      have kept := (Ctx.indexLost s v).finish_kept v
      have view := kept.view
      rw [at0] at view
      refine ⟨congrArg DriveView.timer view, fun h1 h2 h3 => absurd ?_ can, fun _ => view⟩
      revert h1 h2 h3
      dsimp only [d]
      cases (s.drive v).state <;> simp [DriveState.canFault]
  · have due : s.spinupDue v = false := by
      unfold State.spinupDue
      split
      · next x h1 h2 => exact hs.elim (fun h => absurd h1 h) fun h => h x h2
      · rfl
    simp only [exec, execSpinupLimit, due, Bool.false_eq_true, if_false]
  · have due : s.spinupDue v = true := by
      unfold State.spinupDue
      rw [show (s.drive v).state = _ from hs, show (s.drive v).loadStamp = _ from hx]
      exact hr
    have run : exec (.spinupLimit v) s = .next ((Ctx.of s).faultEntry v .speed).finish := by
      simp only [exec, execSpinupLimit, due, if_true, Ctx.next]
    rw [run]
    obtain ⟨fell, timer⟩ := Ctx.speedLost_faults (s := s) (c := Ctx.of s) (v := v) rfl rfl ⟨rfl, rfl⟩
      (by rw [show (s.drive v).state = _ from hs]; simp) rfl
    exact ⟨_, rfl, fell, timer⟩

end Sys2Proof.Machine

-- ==== Sys2Proof/Proofs/MediaLosses.lean ====
namespace Sys2Proof.Machine

open Sys2Proof

/-! ### The ends of other orders leave an order exactly as it stands -/

section Others
variable {e : EntryNo}

theorem Ctx.finishOrder_other (c : Ctx) {e' : EntryNo} (code : Code) (n : Nat) (h : e' ≠ e) :
    (c.finishOrder e' code n).order? e = c.order? e := by
  rw [Ctx.finishOrder_order?]
  split
  · rfl
  · split
    · rfl
    · rw [if_neg h.symm]

theorem reexamineOne_other {acc : Ctx × List Waiter} {w : Waiter} (h : w.order ≠ e) :
    (reexamineOne acc w).1.order? e = acc.1.order? e := by
  obtain ⟨c, kept⟩ := acc
  unfold reexamineOne
  dsimp only
  split
  · exact c.finishOrder_other _ _ h
  · split
    · split
      · next locks _ => exact Ctx.finishOrder_other { c with locks := locks } _ _ h
      · rfl
    · rfl

theorem Ctx.reexamine_other (c : Ctx) (h : ∀ w ∈ c.waiters, w.order ≠ e) : c.reexamine.order? e = c.order? e := by
  have walk : ∀ (l : List Waiter) (acc : Ctx × List Waiter), (∀ w ∈ l, w.order ≠ e) →
      (l.foldl reexamineOne acc).1.order? e = acc.1.order? e := by
    intro l
    induction l with
    | nil => exact fun _ _ => rfl
    | cons w l ih =>
      exact fun acc hl => (ih _ fun x hx => hl x (List.mem_cons_of_mem _ hx)).trans
        (reexamineOne_other (hl w (List.mem_cons_self ..)))
  exact walk c.waiters (c, []) h

theorem Ctx.finishOrder_waiters (c : Ctx) (e' : EntryNo) (code : Code) (n : Nat) :
    ∀ w ∈ (c.finishOrder e' code n).waiters, w ∈ c.waiters :=
  (c.finishOrder_steps (N := fun _ => True) (F := Frame.UsesOnly) (fun _ _ => rfl) code n trivial).waiters.1

theorem Ctx.endOrder_other (c : Ctx) {e' : EntryNo} (code : Code) (n : Nat) (he : e' ≠ e)
    (h : ∀ w ∈ c.waiters, w.order ≠ e) : (c.endOrder e' code n).order? e = c.order? e := by
  have ended := c.finishOrder_other code n he
  have again : (c.finishOrder e' code n).reexamine.order? e = c.order? e :=
    (Ctx.reexamine_other _ fun w hw => h w (c.finishOrder_waiters e' code n w hw)).trans ended
  unfold Ctx.endOrder
  repeat' split
  all_goals first
    | rfl
    | exact again
    | exact ended

/-- The waiting CHECKOUTs that end leave the other orders. -/
theorem Ctx.endWaiters_other (c : Ctx) (test : Waiter → Bool) (code : Code) (h : ∀ w ∈ c.waiters, w.order ≠ e) :
    (c.endWaiters test code).order? e = c.order? e := by
  have walk : ∀ (l : List Waiter) (c : Ctx), (∀ w ∈ l, w.order ≠ e) →
      (l.foldl (fun c w => c.finishOrder w.order code 0) c).order? e = c.order? e := by
    intro l
    induction l with
    | nil => exact fun _ _ => rfl
    | cons w l ih =>
      exact fun c hl => (ih _ fun x hx => hl x (List.mem_cons_of_mem _ hx)).trans
        (c.finishOrder_other _ _ (hl w (List.mem_cons_self ..)))
  exact walk _ c fun w hw => h w (List.mem_of_mem_filter hw)

/-- What the end of an order leaves of the queues that named it. -/
theorem Ctx.finishOrder_free (c : Ctx) {o : Order} (code : Code) (n : Nat) (ho : c.order? e = some o)
    (hs : o.stage ≠ .finish) : (c.finishOrder e code n).notQueued e := by
  unfold Ctx.finishOrder
  rw [ho]
  dsimp only
  rw [if_neg hs]
  constructor
  · intro w hw
    have hw' := List.mem_filter.mp hw
    simpa using hw'.2
  · intro w hw
    have hw' := List.mem_filter.mp hw
    simpa using hw'.2

/-- An order that has ended with a code and a detail at the command's own time. -/
def Ctx.EndedWith (c : Ctx) (e : EntryNo) (code : Code) (n : Nat) (g : Word) : Prop :=
  (∃ o, c.order? e = some o ∧ o.stage = .finish ∧ o.result = some ⟨code, n, g⟩) ∧ c.notQueued e

theorem Ctx.EndedWith.leaves {c c' : Ctx} {v : DriveNo} {code : Code} {n : Nat} {g : Word} (h : c.EndedWith e code n g)
    (l : c.Leaves v (· ≠ e) c') : c'.EndedWith e code n g := by
  obtain ⟨⟨o, ho, hs, hr⟩, free⟩ := h
  obtain ⟨o', ho', a⟩ := (l.orders e (by simp)).1 o ho
  exact ⟨⟨o', ho', a.stage.trans hs, a.result.trans hr⟩, l.notQueued (by simp) free⟩

theorem Ctx.EndedWith.unnamed {c : Ctx} {code : Code} {n : Nat} {g : Word} (h : c.EndedWith e code n g) :
    c.Unnamed (· ≠ e) := fun e' he => by
  obtain rfl := not_not.mp he
  obtain ⟨⟨o, ho, hs, _⟩, free⟩ := h
  exact ⟨free.2, False.elim, fun o' ho' => by rw [ho] at ho'; cases ho'; exact .inl hs⟩

theorem Ctx.EndedWith.finish {c : Ctx} {code : Code} {n : Nat} {g : Word} (h : c.EndedWith e code n g) :
    (∃ o, c.finish.order? e = some o ∧ o.stage = .finish ∧ o.result = some ⟨code, n, g⟩) ∧ c.finish.notQueued e := by
  obtain ⟨⟨o, ho, hs, hr⟩, free⟩ := h
  obtain ⟨⟨o', ho', a⟩, free'⟩ := c.finish_order ho (.inl hs) free
  exact ⟨⟨o', ho', a.stage.trans hs, a.result.trans hr⟩, free'⟩

theorem Ctx.finishOrder_endedWith (c : Ctx) {o : Order} (code : Code) (n : Nat) (ho : c.order? e = some o)
    (hs : o.stage ≠ .finish) : (c.finishOrder e code n).EndedWith e code n c.g :=
  ⟨⟨_, c.finishOrder_self e o code n ho hs, rfl, rfl⟩, c.finishOrder_free code n ho hs⟩

theorem Ctx.endOrder_endedWith (c : Ctx) {o : Order} (code : Code) (n : Nat) (ho : c.order? e = some o)
    (hs : o.stage ≠ .finish) : (c.endOrder e code n).EndedWith e code n c.g := by
  have ended := c.finishOrder_endedWith code n ho hs
  have again : (c.finishOrder e code n).reexamine.EndedWith e code n c.g := by
    have steps := Works.reexamine (N := (· ≠ e)) (P := fun _ => True) (Q := False) (F := Frame.UsesOnly) (fun _ _ => rfl)
      (c.finishOrder e code n) (fun _ _ _ _ => trivial) fun e' he => by
        obtain rfl := not_not.mp he
        exact ⟨ended.2.2, False.elim, fun _ _ => trivial⟩
    exact ended.leaves (steps.leaves 0)
  unfold Ctx.endOrder
  rw [ho]
  dsimp only
  rw [if_neg hs]
  split
  · split
    · exact again
    · exact ended
  · exact ended

/-- An order that has ended stands while others end. -/
theorem Ctx.EndedWith.endOrder {c : Ctx} {code : Code} {n : Nat} {g : Word} (h : c.EndedWith e code n g) (e' : EntryNo)
    (x : Code) (k : Nat) : (c.endOrder e' x k).EndedWith e code n g := by
  by_cases he : e' = e
  · subst he
    have ended := h
    obtain ⟨⟨o, ho, hs, _⟩, _⟩ := h
    rw [c.endOrder_finished e' x k fun o' ho' => by rw [ho] at ho'; cases ho'; exact hs]
    exact ended
  · exact h.leaves ((Works.endOrder (N := (· ≠ e)) (P := Order.Parked) (Q := False) (F := fun _ _ => True) (fun _ _ => trivial)
      c x k he (fun _ _ a h => a.parked h) h.unnamed).leaves 0)

end Others

/-! ### The scheduler and the channel at MEDIA LOST (R60, R105) -/

section Drops
variable {v : DriveNo} {N : EntryNo → Prop} {c c' : Ctx}

/-- The scheduler's drop, under the names of the orders that it ends. -/
theorem Ctx.schedDrop_leaving (c : Ctx) (v : DriveNo) {x : JobEnd} (hx : x.cut) (hn : c.JobNamed N v) :
    c.Leaving v N (c.schedDrop v x) := by
  have at1 : (c.modSched v fun x => { x with state := .quiet, target := none }).drive v
      = { c.drive v with sched := { (c.drive v).sched with state := .quiet, target := none } } := Ctx.setDrive_drive_self ..
  have quiet := (c.modSched_jobs v fun x => { x with state := .quiet, target := none }).leaves (N := N) v
  unfold Ctx.schedDrop
  dsimp only
  split
  · exact quiet.leaving
  · next j hj =>
    have ended := quiet.trans ((Ctx.jobEnded_jobs _ v).leaves v)
    split
    · next e he =>
      rw [at1] at hj
      exact ended.leaving.trans (Ctx.formatJobEnd_leaving _ v hx (ended.ended (hn j e hj he)))
    all_goals exact ended.leaving

/-- The scheduler holds no job, no arm target and no work. -/
def Sched.Dropped (x : Sched) : Prop := x.job = none ∧ x.target = none ∧ x.state = .quiet

theorem Ctx.modSched_dropped (c : Ctx) (w : DriveNo) (k : Sched → Sched) (hk : ∀ x : Sched, x.Dropped → (k x).Dropped)
    (h : (c.drive v).sched.Dropped) : ((c.modSched w k).drive v).sched.Dropped := by
  rw [Ctx.modSched, Ctx.modDrive, Ctx.setDrive_drive]
  split
  · next hw => subst hw; exact hk _ h
  · exact h

theorem Ctx.toIdle_dropped (c : Ctx) (p : PortNo) (h : (c.drive v).sched.Dropped) : ((c.toIdle p).drive v).sched.Dropped := by
  have cleared (c : Ctx) (h : (c.drive v).sched.Dropped) : ((c.clearHolds p).drive v).sched.Dropped :=
    Ctx.modSched_dropped _ _ _ (fun _ h => h) (Ctx.modSched_dropped _ _ _ (fun _ h => h) h)
  unfold Ctx.toIdle
  dsimp only
  split
  · exact cleared _ h
  · exact h

theorem Ctx.endAttempt_dropped (c : Ctx) (p : PortNo) {x : Outcome} (hx : x.keepsBurst = false)
    (hd : (c.drive v).down) (h : (c.drive v).sched.Dropped) : ((c.endAttempt p x).drive v).sched.Dropped := by
  unfold Ctx.endAttempt
  split
  · exact h
  · next r hw =>
    have told (c : Ctx) : ((c.reportOutcome p r x).drive v).sched = (c.drive v).sched := by
      have steps := (Works.reportOutcome (N := fun _ => True) (P := fun _ => False) (Q := False) (F := fun _ _ => True)
        (fun _ h => h.elim) (fun _ _ => trivial) c p r x) (fun _ _ _ h => h) fun _ h => absurd trivial h
      rw [(steps.drive v).rest]
    have counted : (((c.modChan p fun h => h.closeGate c.g).countOutcome r x).drive v).sched.Dropped := by
      rw [Ctx.countOutcome_sched]
      exact h
    have down : (((c.modChan p fun h => h.closeGate c.g).countOutcome r x).drive v).down :=
      ((c.modChan p fun h => h.closeGate c.g).countOutcome_leaves v (fun _ => True) r x).down hd
    have owes : ((((c.modChan p fun h => h.closeGate c.g).countOutcome r x).oweRecal p r x).drive v).sched.Dropped := by
      generalize (c.modChan p fun h => h.closeGate c.g).countOutcome r x = c1 at counted down
      unfold Ctx.oweRecal
      split
      · by_cases hv : v = r.drive
        · subst hv
          rw [Ctx.recalRequest_untaken (c1.modChan p fun h => h.setOwed r.drive true) r.drive down.takesRecal]
          exact counted
        · rw [(Ctx.recalRequest_jobs _ r.drive).others v hv]
          exact counted
      · exact counted
    dsimp only
    rw [hx]
    refine Ctx.toIdle_dropped _ p ?_
    rw [told]
    exact owes

/-- The channel's work that is cut leaves a dropped scheduler so. -/
theorem Ctx.cutWork_dropped (c : Ctx) {x : Outcome} (hx : x.keepsBurst = false) (y : JobEnd) (hd : (c.drive v).down)
    (h : (c.drive v).sched.Dropped) : ((c.cutWork v x y).drive v).sched.Dropped := by
  unfold Ctx.cutWork
  dsimp only
  split
  · exact h
  · next r hw =>
    split
    · exact h
    · next hv =>
      obtain rfl := not_not.mp hv
      split
      · exact c.endAttempt_dropped _ hx hd h
      · split
        · have at1 := c.jobEnded_drive r.drive fun _ => hd.not_discovery
          have idle := Ctx.toIdle_dropped (v := r.drive) (c.jobEnded r.drive) (portOf r.drive)
            (by rw [at1]; exact ⟨rfl, h.2.1, h.2.2⟩)
          have down : (((c.jobEnded r.drive).toIdle (portOf r.drive)).drive r.drive).down :=
            (((c.jobEnded_jobs r.drive).leaves (N := fun _ => True) r.drive).trans (Ctx.toIdle_leaves _ r.drive _ _)).down hd
          rw [Ctx.listenEnd, Ctx.discoveryReport_away _ _ _ down.not_discovery]
          exact idle
        · have none : ((c.modChan (portOf r.drive) fun h => h.closeGate c.g).drive r.drive).sched.job = none := h.1
          unfold Ctx.trackJobEnd
          dsimp only
          rw [none]
          exact Ctx.toIdle_dropped _ _ h

/-- What is left of a drive stands in its view and its record. -/
theorem Ctx.Leaves.kept (h : c.Leaves v N c') : (c.drive v).Kept c.ctl.tableWrites (c'.drive v) := by
  obtain ⟨drive, recorded, silent⟩ := And.intro h.drive (And.intro h.recorded h.silent)
  generalize c'.drive v = d at drive recorded silent
  exact ⟨by rw [drive]; rfl, by rw [drive], by rw [drive], recorded, silent⟩

/-- A drive that gave up its work, to the end of the command. -/
theorem Ctx.Leaves.finish (h : c.Leaves v N c') (hd : (c.drive v).down) (hc : c.Cleared)
    (dropped : (c'.drive v).sched.Dropped) :
    c'.finish.drive v = { c.drive v with
      heads := (c'.finish.drive v).heads, health := (c'.finish.drive v).health
      recordWrites := (c'.finish.drive v).recordWrites, sched := (c'.finish.drive v).sched }
    ∧ ((c'.finish.drive v).heads = (c.drive v).heads ∨ (c'.finish.drive v).heads = .unloaded)
    ∧ (c'.finish.drive v).sched.Dropped ∧ (c.drive v).Kept c.ctl.tableWrites (c'.finish.drive v)
    ∧ ∀ p r, (c'.finish.chan p).work = some r → r.drive = v → (c'.chan p).work = some r := by
  obtain ⟨⟨y, hy, final⟩, heads, _, taken⟩ := c'.finish_down (h.down hd) (h.cleared hc)
  have later := c'.finish_kept v
  have kept := h.kept
  have drive := h.drive
  rw [h.ctl] at later
  generalize c'.finish.drive v = d at final heads later ⊢
  generalize c'.drive v = d' at drive final heads later dropped kept hy
  refine ⟨by rw [final, drive], by rw [drive] at heads; exact heads, ?_, kept.trans later, taken⟩
  rw [final]
  obtain rfl | rfl := hy
  · exact dropped
  · exact ⟨dropped.1, dropped.2.1, rfl⟩

/-- What MEDIA LOST leaves at the channel of a drive whose job was dropped. -/
theorem Ctx.channelMediaLost_leaving (c : Ctx) (v : DriveNo) (hn : (c.drive v).sched.job = none) :
    c.Leaving v N (c.channelMediaLost v) := by
  have withdrawn := c.withdraw_leaves v N
  have named : (c.withdraw v).JobNamed N v := fun j e hj _ => by
    have same : ((c.withdraw v).drive v).sched.job = none := hn
    rw [same] at hj
    cases hj
  have cut := withdrawn.leaving.trans (Ctx.cutWork_leaving (c.withdraw v) v (x := .aborted) rfl .mediaLost named)
  refine cut.trans (Ctx.Leaves.leaving (Ctx.setChan_leaves _ v N _ _ fun h => ?_))
  unfold Channel.setOwed
  split <;> exact h

end Drops

end Sys2Proof.Machine

-- ==== Sys2Proof/Proofs/MediaChanges.lean ====
namespace Sys2Proof.Machine

open Sys2Proof

/-! ### MEDIA_CHANGE (R7) -/

section Finish
variable (c : Ctx)

/-- Past the cascade the end of a command leaves the frames and the Lock Table. -/
theorem Ctx.finish_frames : c.finish.frames = c.cascade.frames ∧ c.finish.locks = c.cascade.locks := by
  have store := c.finish_picked.store
  have turned := c.cascade.testDone_turns
  exact ⟨(congrArg StoreView.frames store).trans (by rw [turned.rest]; rfl),
    (congrArg StoreView.locks store).trans (by rw [turned.rest]; rfl)⟩

/-- No frame comes to be held for a drive that is not READY. -/
theorem Ctx.finish_noFrameOf {v : DriveNo} (hs : (c.drive v).state ≠ .ready) (hn : c.NoFrameOf v) :
    ∀ f, (c.finish.frame f).held = true → (c.finish.frame f).key.drive ≠ v := by
  intro f
  have same : c.finish.frame f = c.cascade.frame f := by rw [State.frame, c.finish_frames.1]; rfl
  rw [same]
  exact c.cascade_steps.keys hs hn f

theorem Ctx.finish_locks (h : c.waiters = []) : c.finish.locks = c.locks :=
  c.finish_frames.2.trans (c.cascade_steps.waiters.2 h)

end Finish

section Ends
variable {c : Ctx} {e : EntryNo} {code : Code} {n : Nat} {g : Word}

theorem Ctx.EndedWith.reexamine (h : c.EndedWith e code n g) : c.reexamine.EndedWith e code n g :=
  h.leaves ((Works.reexamine (N := (· ≠ e)) (P := Order.Parked) (Q := False) (F := fun _ _ => True) (fun _ _ => trivial) c
    (fun _ _ a h => a.parked h) h.unnamed).leaves 0)

/-- A waiting CHECKOUT that is ended among others (R164). -/
theorem Ctx.endWaiters_endedWith {o : Order} {w : Waiter} {test : Waiter → Bool} (hw : w ∈ c.waiters) (ht : test w = true)
    (ho : c.order? w.order = some o) (hs : o.stage ≠ .finish) :
    (c.endWaiters test code).EndedWith w.order code 0 c.g := by
  have stands (g : Word) (c : Ctx) (e' : EntryNo) (h : c.EndedWith w.order code 0 g) :
      (c.finishOrder e' code 0).EndedWith w.order code 0 g := by
    by_cases he : e' = w.order
    · have ended := h
      obtain ⟨⟨o1, ho1, hs1, _⟩, _⟩ := h
      have same : c.finishOrder e' code 0 = c := by
        unfold Ctx.finishOrder
        rw [he, ho1]
        dsimp only
        rw [if_pos hs1]
      rw [same]
      exact ended
    · exact h.leaves ((c.finishOrder_steps (N := (· ≠ w.order)) (F := fun _ _ => True) (fun _ _ => trivial) code 0 he).leaves 0)
  have ended (g : Word) : ∀ (l : List Waiter) (c : Ctx), c.EndedWith w.order code 0 g →
      (l.foldl (fun c w => c.finishOrder w.order code 0) c).EndedWith w.order code 0 g := by
    intro l
    induction l with
    | nil => exact fun _ h => h
    | cons a l ih => exact fun c h => ih _ (stands g c a.order h)
  have walk : ∀ (l : List Waiter) (c : Ctx), w ∈ l → c.order? w.order = some o →
      (l.foldl (fun c w => c.finishOrder w.order code 0) c).EndedWith w.order code 0 c.g := by
    intro l
    induction l with
    | nil => exact fun _ h => nomatch h
    | cons a l ih =>
      intro c hw ho
      by_cases ha : a.order = w.order
      · have first := c.finishOrder_endedWith code 0 ho hs
        rw [← ha] at first
        exact ended c.g l _ (by rw [← ha]; exact first)
      · have steps := c.finishOrder_steps (N := fun _ => True) (F := fun _ _ => True) (e := a.order) (fun _ _ => trivial) code 0
          trivial
        have later := ih (c.finishOrder a.order code 0) ((List.mem_cons.mp hw).resolve_left fun h => ha (by rw [h]))
          ((c.finishOrder_other code 0 ha).trans ho)
        rw [State.view_g steps.view] at later
        exact later
  exact walk _ c (List.mem_filter.mpr ⟨hw, ht⟩) ho

/-- An order stands in an entry, alive, and no CHECKOUT waits there. -/
def Ctx.Stands (c : Ctx) (e : EntryNo) (o : Order) (g : Word) : Prop :=
  c.order? e = some o ∧ (∀ w ∈ c.waiters, w.order ≠ e) ∧ c.g = g

theorem Ctx.Stands.endOrder {o : Order} (h : c.Stands e o g) {e' : EntryNo} (he : e' ≠ e) (x : Code) (k : Nat) :
    (c.endOrder e' x k).Stands e o g := by
  obtain ⟨ho, free, hg⟩ := h
  have steps := c.endOrder_ends e' x k
  exact ⟨(c.endOrder_other x k he free).trans ho, fun w hw => free w (steps.waiters.1 w hw), (State.view_g steps.view).trans hg⟩

/-- MEDIA LOST at one order (R149). -/
def Ctx.orderMediaLost (c : Ctx) (v : DriveNo) (e : EntryNo) : Ctx :=
  match c.order? e with
  | none => c
  | some o =>
    match o.mediaLostDetail v with
    | some detail => c.endOrder e .mediaChanged detail
    | none => c

theorem Ctx.engineMediaLost_eq (c : Ctx) (v : DriveNo) :
    c.engineMediaLost v = c.forEntries fun e c => c.orderMediaLost v e := rfl

/-- It is the end of the order, or nothing. -/
theorem Ctx.orderMediaLost_cases (c : Ctx) (v : DriveNo) (e : EntryNo) :
    c.orderMediaLost v e = c ∨ ∃ n, c.orderMediaLost v e = c.endOrder e .mediaChanged n := by
  unfold Ctx.orderMediaLost
  split
  · exact .inl rfl
  · split
    · exact .inr ⟨_, rfl⟩
    · exact .inl rfl

theorem Ctx.EndedWith.orderMediaLost (h : c.EndedWith e code n g) (v : DriveNo) (e' : EntryNo) :
    (c.orderMediaLost v e').EndedWith e code n g := by
  obtain eq | ⟨k, eq⟩ := c.orderMediaLost_cases v e' <;> rw [eq]
  · exact h
  · exact h.endOrder e' _ _

/-- MEDIA LOST at the orders: one that has ended stands, and one that works on the drive ends (R149). -/
theorem Ctx.EndedWith.engineMediaLost (v : DriveNo) (h : c.EndedWith e code n g) :
    (c.engineMediaLost v).EndedWith e code n g :=
  Ctx.forEntries_meet (e := e) (P := fun c => c.EndedWith e code n g) (Q := fun c => c.EndedWith e code n g) c h
    (fun e' _ _ h => h.orderMediaLost v e') (fun _ h => h.orderMediaLost v e) (fun e' _ _ h => h.orderMediaLost v e')

theorem Ctx.Stands.engineMediaLost {o : Order} {v : DriveNo} {detail : Nat} (h : c.Stands e o g) (hs : o.stage ≠ .finish)
    (hd : o.mediaLostDetail v = some detail) : (c.engineMediaLost v).EndedWith e .mediaChanged detail g := by
  refine Ctx.forEntries_meet (e := e) (P := fun c => c.Stands e o g) (Q := fun c => c.EndedWith e .mediaChanged detail g) c h
    (fun e' c he h => ?_) (fun c h => ?_) (fun e' c he h => h.orderMediaLost v e')
  · change (c.orderMediaLost v e').Stands e o g
    obtain eq | ⟨k, eq⟩ := c.orderMediaLost_cases v e' <;> rw [eq]
    · exact h
    · exact h.endOrder he _ _
  · change (c.orderMediaLost v e).EndedWith e .mediaChanged detail g
    obtain ⟨ho, _, hg⟩ := h
    unfold Ctx.orderMediaLost
    rw [ho]
    dsimp only
    rw [hd, ← hg]
    exact c.endOrder_endedWith _ _ ho hs

theorem Ctx.engineMediaLost_steps (c : Ctx) (v : DriveNo) :
    Steps (fun _ => True) Frame.UsesOnly c (c.engineMediaLost v) := by
  refine (Works.forEntries (N := fun _ => True) (P := fun _ => True) (Q := False) c (fun e c => c.orderMediaLost v e) fun e' c => ?_)
    (fun _ _ _ _ => trivial) fun _ h => absurd trivial h
  obtain eq | ⟨k, eq⟩ := c.orderMediaLost_cases v e' <;> rw [eq]
  · exact .refl c
  · exact .endOrder (fun _ _ => rfl) c _ _ trivial

theorem Ctx.endWaiters_steps (c : Ctx) (test : Waiter → Bool) (code : Code) :
    Steps (fun _ => True) Frame.UsesOnly c (c.endWaiters test code).reexamine := by
  have works := (Works.endWaiters (N := fun _ => True) (P := fun _ => True) (Q := False) (F := Frame.UsesOnly) (fun _ _ => rfl) c
    test code).trans (.reexamine (fun _ _ => rfl) _)
  exact works (fun _ _ _ _ => trivial) fun _ h => absurd trivial h

end Ends

/-! #### The chain of a media change -/

/-- The drive emptied and its frames freed, before its state changes. -/
def Ctx.unloaded (s : State) (v : DriveNo) : Ctx := (((Ctx.of s).setReady v false).modDrive v Drive.unload).storeMediaLost v

/-- The state and the records of the frames that were freed, and the locks that fall. -/
def Ctx.emptied (s : State) (v : DriveNo) : Ctx :=
  let c := ((Ctx.unloaded s v).setDriveState v .empty .none).freedWrites v (((Ctx.of s).setReady v false).strandedFrames v)
  { c with locks := c.locks.filter fun l => l.drive ≠ v.val }

/-- The CHECKOUTs and the orders that end. -/
def Ctx.ordersLost (s : State) (v : DriveNo) : Ctx :=
  ((((Ctx.emptied s v).endWaiters (fun w => w.drive == v.val) .mediaChanged).reexamine).engineMediaLost v)

/-- What is left after a media change. -/
def Ctx.mediaGone (s : State) (v : DriveNo) : Ctx := ((Ctx.ordersLost s v).schedDrop v .mediaLost).channelMediaLost v

theorem exec_mediaChange {s : State} {v : DriveNo} (hr : (s.drive v).lines.ready = true) (hs : (s.drive v).state ≠ .absent) :
    exec (.mediaChange v) s = .next (Ctx.mediaGone s v).finish := by
  simp only [exec, execMediaChange, hr, hs, Bool.not_true, Bool.false_eq_true, if_false, Ctx.next]
  rfl

section Chain
variable (s : State) (v : DriveNo)

theorem Ctx.unloaded_drive : (Ctx.unloaded s v).drive v
    = Drive.unload { s.drive v with lines := { (s.drive v).lines with ready := false } } := by
  have level : ((Ctx.of s).setReady v false).drive v = { s.drive v with lines := { (s.drive v).lines with ready := false } } :=
    Ctx.setDrive_drive_self ..
  have unloaded : (((Ctx.of s).setReady v false).modDrive v Drive.unload).drive v
      = Drive.unload (((Ctx.of s).setReady v false).drive v) := Ctx.setDrive_drive_self ..
  rw [level] at unloaded
  exact unloaded

theorem Ctx.unloaded_noFrameOf : (Ctx.unloaded s v).NoFrameOf v := by
  intro f
  have same : (Ctx.unloaded s v).frame f = if (s.frame f).isOf v then { area := (s.frame f).area } else s.frame f :=
    Vector.getElem_map ..
  rw [same]
  split
  · exact fun h => nomatch h
  · next h =>
    intro hh hk
    exact h (by rw [Frame.isOf, hh, hk]; simp)

/-- Where no frame is held for a drive, none of its sectors is STRANDED. -/
theorem Ctx.NoFrameOf.strandedCount {c : Ctx} {v : DriveNo} (h : c.NoFrameOf v) : c.strandedCount v = 0 := by
  have none : c.framesOf v = [] := by
    refine List.filter_eq_nil_iff.mpr fun fr hfr => ?_
    obtain ⟨i, hi, rfl⟩ := Vector.mem_iff_getElem.mp (Vector.mem_toList_iff.mp hfr)
    intro hh
    simp only [Bool.and_eq_true, beq_iff_eq] at hh
    exact h ⟨i, hi⟩ hh.1 hh.2
  rw [State.strandedCount, State.countSectors, none]
  rfl

theorem Ctx.freedWrites_onlyDrives (c : Ctx) (v : DriveNo) (n : Nat) : c.OnlyDrives (c.freedWrites v n) := by
  have walk : ∀ (l : List Nat) (c : Ctx), c.OnlyDrives (l.foldl (fun c _ => c.recordWrite v none) c) := by
    intro l
    induction l with
    | nil => exact fun _ => rfl
    | cons a l ih => exact fun c => (c.recordWrite_onlyDrives v none).trans (ih _)
  exact walk _ c

theorem Ctx.freedWrites_reported (c : Ctx) (v w : DriveNo) (n : Nat) :
    (c.drive w).Reported c.ctl.tableWrites ((c.freedWrites v n).drive w) := by
  have walk : ∀ (l : List Nat) (c : Ctx),
      (c.drive w).Reported c.ctl.tableWrites ((l.foldl (fun c _ => c.recordWrite v none) c).drive w) := by
    intro l
    induction l with
    | nil => exact fun _ => .refl _ _
    | cons a l ih =>
      intro c
      have later := ih (c.recordWrite v none)
      rw [State.view_ctl (c.recordWrite_view v none)] at later
      exact (c.recordWrite_reported v w none).trans later
  exact walk _ c

theorem Ctx.emptied_rest : Ctx.emptied s v = { Ctx.of s with
    drives := (Ctx.emptied s v).drives, frames := (Ctx.unloaded s v).frames, serve := (Ctx.unloaded s v).serve
    quiet := (Ctx.unloaded s v).quiet, locks := s.locks.filter fun l => l.drive ≠ v.val
    picks := ((Ctx.unloaded s v).setDriveState v .empty .none).picks } := by
  have freed := ((Ctx.unloaded s v).setDriveState v .empty .none).freedWrites_onlyDrives v
    (((Ctx.of s).setReady v false).strandedFrames v)
  unfold Ctx.emptied
  generalize ((Ctx.unloaded s v).setDriveState v .empty .none).freedWrites v (((Ctx.of s).setReady v false).strandedFrames v)
    = c at freed ⊢
  rw [freed, Ctx.setDriveState_rest]
  rfl

/-- A change of state, where it may be none. -/
theorem Ctx.setDriveState_entering (c : Ctx) (v : DriveNo) (st : DriveState) (x : Cause) :
    (c.setDriveState v st x).drive v = { (c.drive v).entering st x with
      recordWrites := ((c.setDriveState v st x).drive v).recordWrites } := by
  by_cases h : (c.drive v).state = st ∧ (c.drive v).cause = x
  · rw [show c.setDriveState v st x = c by unfold Ctx.setDriveState; dsimp only; rw [if_pos h], Drive.entering, ← h.1, ← h.2]
  · rw [c.setDriveState_drive v st x h]

/-- The drive as a media change leaves it, its record counting up with each freed frame. -/
theorem Ctx.emptied_drive :
    let d := (Ctx.emptied s v).drive v
    d = { (Drive.unload { s.drive v with lines := { (s.drive v).lines with ready := false } }).entering .empty .none with
      health := d.health, recordWrites := d.recordWrites } := by
  have told := ((Ctx.unloaded s v).setDriveState v .empty .none).freedWrites_reported v v
    (((Ctx.of s).setReady v false).strandedFrames v)
  have set := (Ctx.unloaded s v).setDriveState_entering v .empty .none
  have same : (Ctx.emptied s v).drive v = (((Ctx.unloaded s v).setDriveState v .empty .none).freedWrites v
    (((Ctx.of s).setReady v false).strandedFrames v)).drive v := rfl
  rw [Ctx.unloaded_drive] at set
  rw [← same] at told
  generalize (Ctx.emptied s v).drive v = d at told ⊢
  rw [told.rest, set]

/-- The change of state stands in the record with nothing STRANDED (R31, R113, log 43). -/
theorem Ctx.emptied_records {t : State} (hs : (s.drive v).state ≠ .empty) {d : Drive}
    (bytes : ((Drive.unload { s.drive v with lines := { (s.drive v).lines with ready := false } }).entering .empty
      .none).recordBytes 0 = d.recordBytes 0)
    (kept : ((Ctx.emptied s v).drive v).Kept s.ctl.tableWrites (t.drive v)) : s.recordsChange t v d 0 false := by
  have told := ((Ctx.unloaded s v).setDriveState v .empty .none).freedWrites_reported v v
    (((Ctx.of s).setReady v false).strandedFrames v)
  rw [Ctx.setDriveState_ctl] at told
  have same : (Ctx.emptied s v).drive v = (((Ctx.unloaded s v).setDriveState v .empty .none).freedWrites v
    (((Ctx.of s).setReady v false).strandedFrames v)).drive v := rfl
  rw [← same] at told
  have at0 := Ctx.unloaded_drive s v
  exact Ctx.recordsChange_later (c := Ctx.unloaded s v) (c1 := (Ctx.unloaded s v).setDriveState v .empty .none)
    (c2 := Ctx.emptied s v) rfl rfl (by rw [at0]; rfl) (Ctx.unloaded_noFrameOf s v).strandedCount
    (by rw [at0]; exact fun h => hs h.1) (by rw [at0]; exact bytes) (Bool.and_false _) rfl told.recorded told.silent kept

theorem Ctx.emptied_cleared : (Ctx.emptied s v).Cleared := by
  have rounds : (Ctx.emptied s v).rounds = [] := by rw [Ctx.emptied_rest]; rfl
  intro p hp
  rw [rounds] at hp
  cases hp

theorem Ctx.emptied_down : ((Ctx.emptied s v).drive v).down := fun k => by rw [Ctx.emptied_drive]; cases k <;> rfl

/-- What follows takes the drive's work away. -/
theorem Ctx.ordersLost_leaves : (Ctx.emptied s v).Leaves v (fun _ => True) (Ctx.ordersLost s v) :=
  (((Ctx.emptied s v).endWaiters_steps _ _).leaves v).trans ((Ctx.engineMediaLost_steps _ v).leaves v)

theorem Ctx.schedLost :
    let c := (Ctx.ordersLost s v).schedDrop v .mediaLost
    (Ctx.emptied s v).Leaves v (fun _ => True) c ∧ (c.drive v).sched.Dropped := by
  have lost := Ctx.ordersLost_leaves s v
  obtain ⟨dropped, job, target, quiet, _⟩ := Ctx.schedDrop_leaves (Ctx.ordersLost s v) v .mediaLost (lost.down (Ctx.emptied_down s v))
  exact ⟨lost.trans dropped, job, target, quiet⟩

theorem Ctx.mediaGone_leaves : (Ctx.emptied s v).Leaves v (fun _ => True) (Ctx.mediaGone s v)
    ∧ ((Ctx.mediaGone s v).drive v).sched.Dropped
    ∧ (∀ r, ((Ctx.mediaGone s v).chan (portOf v)).work = some r → r.drive ≠ v)
    ∧ ((Ctx.mediaGone s v).chan (portOf v)).owed v = false := by
  obtain ⟨left, dropped⟩ := Ctx.schedLost s v
  have down := left.down (Ctx.emptied_down s v)
  unfold Ctx.mediaGone
  generalize (Ctx.ordersLost s v).schedDrop v .mediaLost = c at left dropped down ⊢
  have withdrawn := (c.withdraw_leaves v fun _ => True).down down
  have gone := (c.channelMediaLost_leaving (N := fun _ => True) v dropped.1) down (Ctx.unnamed_all c)
  have at1 : (c.channelMediaLost v).chan (portOf v)
      = (((c.withdraw v).cutWork v .aborted .mediaLost).chan (portOf v)).setOwed v false := Ctx.setChan_chan_self ..
  refine ⟨left.trans gone, Ctx.cutWork_dropped (c.withdraw v) rfl .mediaLost withdrawn dropped, fun r hr => ?_, ?_⟩
  · refine Ctx.cutWork_work (c.withdraw v) v (x := .aborted) rfl .mediaLost withdrawn r ?_
    rw [at1] at hr
    unfold Channel.setOwed at hr
    split at hr <;> exact hr
  · rw [at1, Channel.owed, Channel.setOwed]
    cases hl : isLow v <;> simp

/-- An order that has ended among the orders stands to the end of the command. -/
theorem Ctx.mediaGone_ended {e : EntryNo} {code : Code} {n : Nat} {g : Word} (h : (Ctx.ordersLost s v).EndedWith e code n g) :
    (∃ o, (Ctx.mediaGone s v).finish.order? e = some o ∧ o.stage = .finish ∧ o.result = some ⟨code, n, g⟩)
      ∧ (Ctx.mediaGone s v).finish.notQueued e := by
  obtain ⟨left, dropped⟩ := Ctx.schedLost s v
  have down0 := (Ctx.ordersLost_leaves s v).down (Ctx.emptied_down s v)
  have down := left.down (Ctx.emptied_down s v)
  have drop := Ctx.schedDrop_leaving (N := (· ≠ e)) (Ctx.ordersLost s v) v .mediaLost (fun j e' _ _ => by
    by_cases he : e' = e
    · subst he
      obtain ⟨⟨o, ho, hs, _⟩, _⟩ := h
      exact .inr fun o' ho' => by rw [ho] at ho'; cases ho'; exact hs
    · exact .inl he) down0 h.unnamed
  have h1 := h.leaves drop
  have gone := (Ctx.channelMediaLost_leaving (N := (· ≠ e)) ((Ctx.ordersLost s v).schedDrop v .mediaLost) v dropped.1) down
    h1.unnamed
  exact (h1.leaves gone).finish

end Chain

/-- What MEDIA LOST ends of an order, by its kind (R149). -/
theorem Order.mediaLostDetail_eq {o : Order} {v : DriveNo} :
    (o.fields.kind? = some .read ∨ o.fields.kind? = some .write ∨ o.fields.kind? = some .exchange → o.fields.drive = v.val →
        o.mediaLostDetail v = some o.partBlock)
    ∧ (o.fields.kind? = some .flush → o.fields.scope ≠ 1 → o.fields.drive = v.val → o.mediaLostDetail v = some 0)
    ∧ (o.fields.kind? = some .flush → o.fields.scope = 1 → (∃ y ∈ o.targets, y.drive = v ∧ y.state = .awaited) →
        o.mediaLostDetail v = some 0)
    ∧ (o.fields.kind? = some .format → o.fields.drive = v.val → o.mediaLostDetail v = some 0) := by
  unfold Order.mediaLostDetail
  refine ⟨fun hk hd => ?_, fun hk hs hd => ?_, fun hk hs ⟨y, hy, hd, ha⟩ => ?_, fun hk hd => ?_⟩
  · obtain hk | hk | hk := hk <;> rw [hk] <;> exact if_pos hd
  · rw [hk]
    dsimp only
    rw [if_neg hs, if_pos hd]
  · rw [hk]
    dsimp only
    rw [if_pos hs, if_pos]
    exact List.any_eq_true.mpr ⟨y, hy, by simp [hd, Target.awaited, ha]⟩
  · rw [hk]
    exact if_pos hd

section Chain
variable (s : State) (v : DriveNo)

/-- The CHECKOUTs of the drive that wait (R164). -/
theorem Ctx.mediaGone_waiter {w : Waiter} {o : Order} (hw : w ∈ s.waiters) (hd : w.drive = v.val)
    (ho : s.order? w.order = some o) (hs : o.stage ≠ .finish) :
    (∃ o, (Ctx.mediaGone s v).finish.order? w.order = some o ∧ o.stage = .finish
      ∧ o.result = some ⟨.mediaChanged, 0, s.g⟩) ∧ (Ctx.mediaGone s v).finish.notQueued w.order := by
  have rest := Ctx.emptied_rest s v
  have ended := Ctx.endWaiters_endedWith (c := Ctx.emptied s v) (code := .mediaChanged)
    (test := fun w => w.drive == v.val) (w := w) (o := o) (by rw [rest]; exact hw) (by simpa using hd)
    (by rw [State.order?_of_table (t := s) (by rw [rest]; rfl)]; exact ho) hs
  have g : (Ctx.emptied s v).g = s.g := by rw [rest]; rfl
  rw [g] at ended
  exact Ctx.mediaGone_ended s v (ended.reexamine.engineMediaLost v)

/-- An order that works on the drive (R149). -/
theorem Ctx.mediaGone_order {e : EntryNo} {o : Order} (ho : s.order? e = some o) (hs : o.stage ≠ .finish)
    (hw : ∀ w ∈ s.waiters, w.order ≠ e) {detail : Nat} (hd : o.mediaLostDetail v = some detail) :
    ∃ o', (Ctx.mediaGone s v).finish.order? e = some o' ∧ o'.stage = .finish
      ∧ o'.result = some ⟨.mediaChanged, detail, s.g⟩ := by
  have rest := Ctx.emptied_rest s v
  have waits : ∀ w ∈ (Ctx.emptied s v).waiters, w.order ≠ e := by rw [rest]; exact hw
  have order : (Ctx.emptied s v).order? e = some o := by
    rw [State.order?_of_table (t := s) (by rw [rest]; rfl)]; exact ho
  have g : (Ctx.emptied s v).g = s.g := by rw [rest]; rfl
  have works := Works.endWaiters (N := fun _ => True) (P := fun _ => True) (Q := False) (F := Frame.UsesOnly) (fun _ _ => rfl)
    (Ctx.emptied s v) (fun w => w.drive == v.val) .mediaChanged (fun _ _ _ _ => trivial) fun _ h => absurd trivial h
  have waits1 : ∀ w ∈ ((Ctx.emptied s v).endWaiters (fun w => w.drive == v.val) .mediaChanged).waiters, w.order ≠ e :=
    fun w hw => waits w (works.waiters.1 w hw)
  have steps := (Ctx.emptied s v).endWaiters_steps (fun w => w.drive == v.val) .mediaChanged
  have stands : (((Ctx.emptied s v).endWaiters (fun w => w.drive == v.val) .mediaChanged).reexamine).Stands e o s.g :=
    ⟨(Ctx.reexamine_other _ waits1).trans ((Ctx.endWaiters_other _ _ _ waits).trans order),
      fun w hw => waits w (steps.waiters.1 w hw), (State.view_g steps.view).trans g⟩
  exact (Ctx.mediaGone_ended s v (stands.engineMediaLost hs hd)).1

end Chain

/-- Settles O18, through the chain of its receivers: the drive, the store, the Lock Table, the orders, the scheduler and the
channel. -/
theorem mediaChange : Obligations.MediaChange := by
  intro v s
  dsimp only
  refine ⟨fun hr => ?_, fun hr hs => ?_, fun hr hs => ?_⟩
  · simp only [exec, execMediaChange, hr, Bool.not_false, if_true]
  · simp only [exec, execMediaChange, hr, Bool.not_true, Bool.false_eq_true, if_false]
    rw [if_pos hs]
    rfl
  · rw [exec_mediaChange hr hs]
    have rest := Ctx.emptied_rest s v
    have at0 := Ctx.emptied_drive s v
    obtain ⟨left, ⟨job, target, quiet⟩, work, owed⟩ := Ctx.mediaGone_leaves s v
    have down := left.down (Ctx.emptied_down s v)
    obtain ⟨final, heads, ⟨job', target', quiet'⟩, kept, taken⟩ := left.finish (Ctx.emptied_down s v) (Ctx.emptied_cleared s v)
      ⟨job, target, quiet⟩
    have ctl : (Ctx.emptied s v).ctl = s.ctl := by rw [rest]; rfl
    rw [ctl] at kept
    have frames := (Ctx.mediaGone s v).finish_noFrameOf down.not_ready
      (left.frameless (Ctx.emptied_down s v).not_ready (by
        have same (f : FrameNo) : (Ctx.emptied s v).frame f = (Ctx.unloaded s v).frame f := by
          rw [State.frame, rest]; rfl
        intro f
        rw [same]
        exact Ctx.unloaded_noFrameOf s v f))
    have locks (h : s.waiters = []) : (Ctx.mediaGone s v).finish.locks = s.locks.filter fun l => l.drive ≠ v.val := by
      have none : (Ctx.emptied s v).waiters = [] := by rw [rest]; exact h
      have none' : (Ctx.mediaGone s v).waiters = [] :=
        List.eq_nil_iff_forall_not_mem.mpr fun w hw => by simpa [none] using left.waiters w hw
      rw [Ctx.finish_locks _ none', left.locks none, rest]
    have waiter := fun w hw hd o ho hs => Ctx.mediaGone_waiter s v (w := w) (o := o) hw hd ho hs
    have order := fun e o ho hs hw detail hd => Ctx.mediaGone_order s v (e := e) (o := o) ho hs hw (detail := detail) hd
    have owes := (Ctx.mediaGone s v).finish_owed owed
    have records := fun hs d bytes => Ctx.emptied_records s v (t := (Ctx.mediaGone s v).finish) hs (d := d) bytes kept
    rw [at0] at final heads
    generalize (Ctx.mediaGone s v).finish = t at final heads job' target' quiet' frames locks waiter order owes records taken ⊢
    have view : (t.drive v).view = Drive.view ((Drive.unload { s.drive v with
        lines := { (s.drive v).lines with ready := false } }).entering .empty .none) := by rw [final]; rfl
    injection view with state cause incomplete known generation count protect stamp expiry _ _ _ _ _ timer
    have ready : (t.drive v).lines.ready = false := by rw [final]; rfl
    have arm : (t.drive v).arm = .free := by rw [final]; rfl
    have cylinder : (t.drive v).cylinder = (s.drive v).cylinder := by rw [final]; rfl
    refine ⟨t, rfl, ready, state, cause, known, incomplete, heads.elim id id, arm, stamp, expiry, generation, count, protect,
      cylinder, timer, job', target', quiet', fun hs => ?_, fun r hr hd => work r (taken _ r hr hd) hd, owes, frames, locks,
      fun w hw hd ⟨o, ho, hs⟩ => ?_, fun e o ho hs hw => ?_⟩
    · exact records hs _ (by rw [timer]; exact Drive.recordBytes_eq _ rfl rfl rfl rfl rfl rfl rfl rfl rfl rfl)
    · obtain ⟨ended, free⟩ := waiter w hw hd o ho hs
      exact ⟨ended, free.2⟩
    · have ends := order e o ho hs hw
      obtain ⟨works, flush, synced, format⟩ := o.mediaLostDetail_eq (v := v)
      exact ⟨fun hk hd => ends _ (works hk hd), fun hk hx hd => ends _ (flush hk hx hd), fun hk hx hy => ends _ (synced hk hx hy),
        fun hk hd => ends _ (format hk hd)⟩

end Sys2Proof.Machine

-- ==== Sys2Proof/Proofs/FaultHeld.lean ====
namespace Sys2Proof.Machine

open Sys2Proof

/-! ### FAULT_EXPIRY (R10, R87, R151) -/

/-- A sector whose drive's fault has come to be held (R87). -/
def Sector.faultHeld (x : Sector) : Sector :=
  match x.state with
  | .dirty => { x with state := .stranded, rush := false, cause := .fault }
  | .wanted => { x with state := .absent, rush := false }
  | _ => x

/-- Frames whose sectors alone, beside their uses, differ. -/
def Frame.SectorsOnly (a b : Frame) : Prop := b = { a with uses := b.uses, sectors := b.sectors }

theorem Frame.sectorsOnly_not_all : ¬ ∀ a b : Frame, a.SectorsOnly b := fun h =>
  absurd (congrArg Frame.held (h {} { held := true })) (by simp)

section Held
variable {v : DriveNo} {c c' : Ctx} {f : FrameNo}

/-- One slot: its record alone changes, if it does. -/
theorem Ctx.slotFaultHeld_sectors (c : Ctx) (f : FrameNo) (i : Nat) :
    ((c.slotFaultHeld f i).frame f).sectors = (c.frame f).sectors.modify i Sector.faultHeld
      ∧ ∀ g, g ≠ f → ((c.slotFaultHeld f i).frame g).sectors = (c.frame g).sectors := by
  unfold Ctx.slotFaultHeld
  split
  · next hx => exact ⟨by rw [List.modify_eq_set_getElem?, hx]; rfl, fun _ _ => rfl⟩
  · next x hx =>
    have modified {y : Sector} (hy : x.faultHeld = y) :
        (c.frame f).sectors.set i y = (c.frame f).sectors.modify i Sector.faultHeld := by
      rw [List.modify_eq_set_getElem?, hx, ← hy]
      rfl
    split
    · next hd =>
      obtain ⟨sectors, others⟩ := c.modSector_sectors hx fun x => { x with state := .stranded, rush := false, cause := .fault }
      have told := (c.modSector f i fun x => { x with state := .stranded, rush := false, cause := .fault }).sectorStranded_ends f
        x.number .fault 0
      have held : x.faultHeld = { x with state := .stranded, rush := false, cause := .fault } := by rw [Sector.faultHeld, hd]
      exact ⟨(told.sectors f).trans (sectors.trans (modified held)),
        fun g hg => (told.sectors g).trans (by rw [others g hg])⟩
    · next hd =>
      obtain ⟨sectors, others⟩ := c.modSector_sectors hx fun x => { x with state := .absent, rush := false }
      have held : x.faultHeld = { x with state := .absent, rush := false } := by rw [Sector.faultHeld, hd]
      exact ⟨sectors.trans (modified held), fun g hg => by rw [others g hg]⟩
    · next h1 h2 =>
      refine ⟨?_, fun _ _ => rfl⟩
      have same : x.faultHeld = x := by
        unfold Sector.faultHeld
        split
        · next h => exact absurd h h1
        · next h => exact absurd h h2
        · rfl
      obtain ⟨hi, at_i⟩ := List.getElem?_eq_some_iff.mp hx
      rw [← modified same, ← at_i, List.set_getElem_self]


/-- The slots below `n` in turn. -/
theorem Ctx.slotsFaultHeld_sectors (c : Ctx) (f : FrameNo) (n : Nat) :
    let c' := (List.range n).foldl (fun c i => c.slotFaultHeld f i) c
    (∀ j : Nat, (c'.frame f).sectors[j]? = if j < n then (c.frame f).sectors[j]?.map Sector.faultHeld else (c.frame f).sectors[j]?)
      ∧ ∀ g, g ≠ f → (c'.frame g).sectors = (c.frame g).sectors := by
  induction n with
  | zero => exact ⟨fun j => by simp, fun _ _ => rfl⟩
  | succ n ih =>
    obtain ⟨done, others⟩ := ih
    rw [List.range_succ, List.foldl_append]
    obtain ⟨last, rest⟩ := ((List.range n).foldl (fun c i => c.slotFaultHeld f i) c).slotFaultHeld_sectors f n
    refine ⟨fun j => ?_, fun g hg => (rest g hg).trans (others g hg)⟩
    rw [List.foldl_cons, List.foldl_nil, last, List.getElem?_modify, done]
    by_cases h : n = j
    · subst h
      simp
    · simp [h, show j < n + 1 ↔ j < n by omega]

theorem Works.slotFaultHeld {N : EntryNo → Prop} {P : Order → Prop} {Q : Prop} (hS : ∀ o, P o → o.Steady) (c : Ctx) (f : FrameNo)
    (i : Nat) : Works N P Q Frame.SectorsOnly c (c.slotFaultHeld f i) := by
  have sector (c : Ctx) (k : Sector → Sector) : Works N P Q Frame.SectorsOnly c (c.modSector f i k) :=
    .putFrame (new := (c.frame f).modSlot i k) c rfl (fun h => ⟨h, rfl⟩)
  unfold Ctx.slotFaultHeld
  split
  · exact .refl c
  · split
    · exact (sector _ _).trans (.sectorStranded (fun _ _ => rfl) hS _ _ _ _ _)
    · exact sector _ _
    · exact .refl c

/-- The store's part at one frame. -/
def Ctx.frameFaultHeld (c : Ctx) (v : DriveNo) (f : FrameNo) : Ctx :=
  let fr := c.frame f
  if fr.held && fr.key.drive == v then
    (List.range fr.sectors.length).foldl (fun c i => c.slotFaultHeld f i) c
  else c

theorem Ctx.storeFaultHeld_eq (c : Ctx) (v : DriveNo) : c.storeFaultHeld v = c.forFrames fun f c => c.frameFaultHeld v f :=
  rfl

theorem Works.frameFaultHeld {N : EntryNo → Prop} {P : Order → Prop} {Q : Prop} (hS : ∀ o, P o → o.Steady) (c : Ctx)
    (v : DriveNo) (f : FrameNo) : Works N P Q Frame.SectorsOnly c (c.frameFaultHeld v f) := by
  unfold Ctx.frameFaultHeld
  dsimp only
  split
  · exact Works.foldl (fun c i => c.slotFaultHeld f i) _ (fun c i _ => .slotFaultHeld hS c f i) c
  · exact .refl c

theorem Works.storeFaultHeld {N : EntryNo → Prop} {P : Order → Prop} {Q : Prop} (hS : ∀ o, P o → o.Steady) (c : Ctx)
    (v : DriveNo) : Works N P Q Frame.SectorsOnly c (c.storeFaultHeld v) :=
  .forFrames c (fun f c => c.frameFaultHeld v f) fun f c => .frameFaultHeld hS c v f

theorem Ctx.storeFaultHeld_steps (c : Ctx) (v : DriveNo) :
    Steps (fun _ => True) Frame.SectorsOnly c (c.storeFaultHeld v) :=
  Works.storeFaultHeld (P := fun _ => False) (Q := False) (fun _ h => h.elim) c v (fun _ _ _ h => h)
    fun _ h => absurd trivial h

/-- The sectors of a frame once the fault of a drive has come to be held. -/
def Frame.faultHeld (fr : Frame) (v : DriveNo) : List Sector := if fr.isOf v then fr.sectors.map Sector.faultHeld else fr.sectors

theorem Ctx.frameFaultHeld_sectors (c : Ctx) (v : DriveNo) (f : FrameNo) :
    ((c.frameFaultHeld v f).frame f).sectors = (c.frame f).faultHeld v
      ∧ ∀ g, g ≠ f → ((c.frameFaultHeld v f).frame g).sectors = (c.frame g).sectors := by
  unfold Ctx.frameFaultHeld Frame.faultHeld
  rw [show (c.frame f).isOf v = ((c.frame f).held && (c.frame f).key.drive == v) from rfl]
  dsimp only
  split
  · obtain ⟨slots, others⟩ := c.slotsFaultHeld_sectors f (c.frame f).sectors.length
    refine ⟨List.ext_getElem? fun j => ?_, others⟩
    rw [slots, List.getElem?_map]
    split
    · rfl
    · next h => rw [List.getElem?_eq_none (Nat.le_of_not_lt h)]; rfl
  · exact ⟨rfl, fun _ _ => rfl⟩

theorem Ctx.frameFaultHeld_isOf (c : Ctx) (v : DriveNo) (g f : FrameNo) : ((c.frameFaultHeld v g).frame f).isOf v = (c.frame f).isOf v := by
  have steps : Steps (fun _ => True) Frame.SectorsOnly c (c.frameFaultHeld v g) := by
    refine Works.frameFaultHeld (P := fun _ => False) (Q := False) (fun _ h => h.elim) c v g (fun _ _ _ h => h)
      fun _ h => absurd trivial h
  exact steps.frame_rel (R := fun a b => b.isOf v = a.isOf v) (fun _ => rfl) (fun _ _ _ h h' => h'.trans h)
    (fun a b hab => by rw [hab]; rfl) f

theorem Ctx.storeFaultHeld_sectors (c : Ctx) (v : DriveNo) (f : FrameNo) :
    ((c.storeFaultHeld v).frame f).sectors = (c.frame f).faultHeld v := by
  have met := Ctx.forFrames_meet (f := f) (k := fun f c => c.frameFaultHeld v f)
    (P := fun c' => (c'.frame f).sectors = (c.frame f).sectors ∧ (c'.frame f).isOf v = (c.frame f).isOf v)
    (Q := fun c' => (c'.frame f).sectors = (c.frame f).faultHeld v) c ⟨rfl, rfl⟩
    (fun g c' hg h => ⟨((c'.frameFaultHeld_sectors v g).2 f hg.symm).trans h.1, (c'.frameFaultHeld_isOf v g f).trans h.2⟩)
    (fun c' h => (c'.frameFaultHeld_sectors v f).1.trans (by rw [Frame.faultHeld, Frame.faultHeld, h.1, h.2]))
    fun g c' hg h => ((c'.frameFaultHeld_sectors v g).2 f hg.symm).trans h
  exact met

/-! #### The orders -/

/-- FAULT HELD at the order of an entry (R151). -/
def Ctx.orderFaultHeld (c : Ctx) (v : DriveNo) (e : EntryNo) : Ctx :=
  match c.order? e with
  | none => c
  | some o =>
    if o.fields.drive = v.val && (o.stage == .frame || o.stage == .fetch || o.stage == .fill) then
      c.endOrder e .notReady o.partBlock
    else c

theorem Ctx.engineFaultHeld_eq (c : Ctx) (v : DriveNo) : c.engineFaultHeld v = c.forEntries fun e c => c.orderFaultHeld v e := rfl

theorem Ctx.orderFaultHeld_cases (c : Ctx) (v : DriveNo) (e : EntryNo) :
    c.orderFaultHeld v e = c ∨ ∃ n, c.orderFaultHeld v e = c.endOrder e .notReady n := by
  unfold Ctx.orderFaultHeld
  split
  · exact .inl rfl
  · split
    · exact .inr ⟨_, rfl⟩
    · exact .inl rfl

theorem Ctx.engineFaultHeld_steps (c : Ctx) (v : DriveNo) :
    Steps (fun _ => True) Frame.UsesOnly c (c.engineFaultHeld v) := by
  refine (Works.forEntries (N := fun _ => True) (P := fun _ => True) (Q := False) c (fun e c => c.orderFaultHeld v e) fun e' c => ?_)
    (fun _ _ _ _ => trivial) fun _ h => absurd trivial h
  obtain eq | ⟨k, eq⟩ := c.orderFaultHeld_cases v e' <;> rw [eq]
  · exact .refl c
  · exact .endOrder (fun _ _ => rfl) c _ _ trivial

/-- The order works at frames (R151). -/
def Order.AtFrames (o : Order) : Prop := o.stage = .frame ∨ o.stage = .fetch ∨ o.stage = .fill

theorem Order.AtFrames.alive {o : Order} (h : o.AtFrames) : o.stage ≠ .finish := by
  obtain h | h | h := h <;> rw [h] <;> simp

theorem Order.AtFrames.steady {o : Order} (h : o.AtFrames) : o.Steady := fun hs => by
  obtain h | h | h := h <;> rw [h] at hs <;> cases hs

theorem Ctx.Stands.engineFaultHeld {e : EntryNo} {o : Order} {g : Word} (h : c.Stands e o g) (hf : o.AtFrames)
    (hd : o.fields.drive = v.val) : (c.engineFaultHeld v).EndedWith e .notReady o.partBlock g := by
  refine Ctx.forEntries_meet (e := e) (P := fun c => c.Stands e o g) (Q := fun c => c.EndedWith e .notReady o.partBlock g) c h
    (fun e' c he h => ?_) (fun c h => ?_) (fun e' c he h => ?_)
  · change (c.orderFaultHeld v e').Stands e o g
    obtain eq | ⟨k, eq⟩ := c.orderFaultHeld_cases v e' <;> rw [eq]
    · exact h
    · exact h.endOrder he _ _
  · change (c.orderFaultHeld v e).EndedWith e .notReady o.partBlock g
    obtain ⟨ho, _, hg⟩ := h
    unfold Ctx.orderFaultHeld
    rw [ho]
    dsimp only
    rw [if_pos (by obtain hf | hf | hf := hf <;> simp [hd, hf]), ← hg]
    exact c.endOrder_endedWith _ _ ho hf.alive
  · change (c.orderFaultHeld v e').EndedWith e .notReady o.partBlock g
    obtain eq | ⟨k, eq⟩ := c.orderFaultHeld_cases v e' <;> rw [eq]
    · exact h
    · exact h.endOrder e' _ _

/-- FAULT HELD at an order that works at frames of the drive. -/
theorem Ctx.faultHeld_ended {e : EntryNo} {o : Order} (ho : c.order? e = some o) (hf : o.AtFrames)
    (hw : ∀ w ∈ c.waiters, w.order ≠ e) (hd : o.fields.drive = v.val) :
    ((c.storeFaultHeld v).engineFaultHeld v).EndedWith e .notReady o.partBlock c.g := by
  have told : Steps (· ≠ e) Frame.SectorsOnly c (c.storeFaultHeld v) :=
    Works.storeFaultHeld (P := Order.AtFrames) (Q := False) (fun _ h => h.steady) c v
      (fun _ _ a h => by rw [Order.AtFrames, a.stage]; exact h) fun e' he => by
        obtain rfl := not_not.mp he
        exact ⟨hw, False.elim, fun o' ho' => by rw [ho] at ho'; cases ho'; exact hf⟩
  obtain ⟨o', ho', a⟩ := (told.order? (by simp)).1 o ho
  have block : o'.partBlock = o.partBlock := by rw [a.rest]; rfl
  rw [← block]
  have stands : (c.storeFaultHeld v).Stands e o' c.g :=
    ⟨ho', fun w hw' => hw w (told.waiters.1 w hw'), State.view_g told.view⟩
  exact stands.engineFaultHeld (by rw [Order.AtFrames, a.stage]; exact hf) (by rw [a.fields]; exact hd)

/-! #### The command -/

theorem State.faultExpiryDue_iff {s : State} : s.faultExpiryDue v = true ↔
    (s.drive v).state = .fault ∧ (s.drive v).expiry = .armed
      ∧ ∃ x, (s.drive v).faultStamp = some x ∧ reached s.g (x + 2000000) = true := by
  unfold State.faultExpiryDue
  split
  · next x h1 h2 h3 =>
    refine ⟨fun h => ⟨h1, h2, x, h3, h⟩, fun ⟨_, _, y, hy, h⟩ => ?_⟩
    rw [h3] at hy
    cases hy
    exact h
  · next h =>
    refine ⟨fun h => by simp at h, fun ⟨h1, h2, x, h3, _⟩ => (h x h1 h2 h3).elim⟩

/-- The command, up to its end. -/
def Ctx.expired (s : State) (v : DriveNo) : Ctx := (Ctx.of s).modDrive v fun d => { d with expiry := .arrived }

end Held

/-- Settles O25: the store's part slot by slot, then the orders' part, then the end of the command. -/
theorem faultExpiry : Obligations.FaultExpiry := by
  unfold Obligations.FaultExpiry
  intro v s d
  refine ⟨fun h => ?_, fun x hs he hx hr => ?_⟩
  · change (if s.faultExpiryDue v then _ else _) = _
    refine if_neg fun due => ?_
    obtain ⟨hs, he, x, hx, hr⟩ := State.faultExpiryDue_iff.mp due
    obtain h | h | h := h
    · exact h hs
    · exact h he
    · rw [h x hx] at hr; cases hr
  · have due := State.faultExpiryDue_iff.mpr ⟨hs, he, x, hx, hr⟩
    have step : exec (.faultExpiry v) s = (((Ctx.expired s v).storeFaultHeld v).engineFaultHeld v).next := by
      change (if s.faultExpiryDue v then _ else _) = _
      rw [if_pos due]
      rfl
    have store := (Ctx.expired s v).storeFaultHeld_steps v
    have engine := ((Ctx.expired s v).storeFaultHeld v).engineFaultHeld_steps v
    refine ⟨_, step, ?_, fun hn hq => ?_, fun e o ho hd hf hw => ?_⟩
    · have kept := (((Ctx.expired s v).storeFaultHeld v).engineFaultHeld v).finish_kept v
      rw [kept.view, (engine.drive v).kept.view, (store.drive v).kept.view]
      exact congrArg Drive.view (Ctx.setDrive_drive_self (Ctx.of s) v _)
    · have idle : (((Ctx.expired s v).storeFaultHeld v).engineFaultHeld v).cascade
          = { ((Ctx.expired s v).storeFaultHeld v).engineFaultHeld v with serve := false } :=
        Ctx.cascade_noQueue _ (engine.readyOrder_none Frame.usesOnly_not_all (store.readyOrder_none Frame.sectorsOnly_not_all hn))
          (engine.fwq_nil Frame.usesOnly_not_all (store.fwq_nil Frame.sectorsOnly_not_all hq))
      have sectors (f : FrameNo) : ((((Ctx.expired s v).storeFaultHeld v).engineFaultHeld v).finish.frame f).sectors
          = (s.frame f).faultHeld v := by
        have held : ((((Ctx.expired s v).storeFaultHeld v).engineFaultHeld v).frame f).sectors = (s.frame f).faultHeld v :=
          (engine.ends.sectors f).trans ((Ctx.expired s v).storeFaultHeld_sectors v f)
        have frames := (((Ctx.expired s v).storeFaultHeld v).engineFaultHeld v).finish_frames.1
        rw [idle] at frames
        generalize ((Ctx.expired s v).storeFaultHeld v).engineFaultHeld v = c at held frames
        rw [← held, State.frame, frames]
        rfl
      refine ⟨fun f hf hk => ?_, fun f hk => ?_⟩
      · rw [sectors, Frame.faultHeld, if_pos (by simp [Frame.isOf, hf, hk])]
        rfl
      · rw [sectors, Frame.faultHeld, if_neg (by simp [Frame.isOf, hk])]
    · have ended := (Ctx.faultHeld_ended (c := Ctx.expired s v) ho hf hw hd).finish
      obtain ⟨o', ho', hs', hr'⟩ := ended.1
      exact ⟨⟨o', ho', hs', hr'⟩, ended.2.1⟩

end Sys2Proof.Machine

-- ==== Sys2Proof/Proofs/ProfileReads.lean ====
namespace Sys2Proof.Machine

open Sys2Proof

/-! ### PROFILE_READ_DONE (R2, R3) -/

section Changes
variable {c : Ctx} {v : DriveNo}

/-- Wherever a media change is made, it leaves its drive unloaded in EMPTY. -/
theorem Ctx.mediaChange_drive (c : Ctx) (v : DriveNo) :
    (c.mediaChange v).drive v = { (Drive.unload (c.drive v)).entering .empty .none with
      sched := ((c.mediaChange v).drive v).sched, health := ((c.mediaChange v).drive v).health
      recordWrites := ((c.mediaChange v).drive v).recordWrites } := by
  have at0 : ((c.modDrive v Drive.unload).storeMediaLost v).drive v = Drive.unload (c.drive v) := Ctx.setDrive_drive_self ..
  have set := ((c.modDrive v Drive.unload).storeMediaLost v).setDriveState_entering v .empty .none
  rw [at0] at set
  unfold Ctx.mediaChange
  dsimp only
  generalize ((c.modDrive v Drive.unload).storeMediaLost v).setDriveState v .empty .none = c1 at set ⊢
  have freed := (c1.freedWrites_reported v v (c.strandedFrames v)).rest
  generalize c1.freedWrites v (c.strandedFrames v) = c2 at freed ⊢
  have fallen : ({ c2 with locks := c2.locks.filter fun l => l.drive ≠ v.val } : Ctx).drive v
      = { (Drive.unload (c.drive v)).entering .empty .none with
        health := (c2.drive v).health, recordWrites := (c2.drive v).recordWrites } := by
    change c2.drive v = _
    generalize c2.drive v = d at freed ⊢
    rw [freed, set]
  unfold Ctx.locksMediaLost
  dsimp only
  generalize ({ c2 with locks := c2.locks.filter fun l => l.drive ≠ v.val } : Ctx) = c3 at fallen ⊢
  have down : (c3.drive v).down := fun k => by rw [fallen]; cases k <;> rfl
  have lost := ((c3.endWaiters_steps (fun w => w.drive == v.val) .mediaChanged).leaves v).trans
    ((Ctx.engineMediaLost_steps _ v).leaves v)
  obtain ⟨dropped, job, _⟩ := Ctx.schedDrop_leaves _ v .mediaLost (lost.down down)
  have left := lost.trans dropped
  have gone := left.trans ((Ctx.channelMediaLost_leaving (N := fun _ => True) _ v job) (left.down down) (Ctx.unnamed_all _))
  have drive := gone.drive
  generalize (((((c3.endWaiters (fun w => w.drive == v.val) .mediaChanged).reexamine).engineMediaLost v).schedDrop v
    .mediaLost).channelMediaLost v).drive v = d at drive ⊢
  rw [drive, fallen]

/-! #### What a start does with a profile -/

theorem Ctx.startProfile_none (hp : (c.drive v).profile = none) (fresh : Bool) : c.startProfile v fresh = c := by
  unfold Ctx.startProfile
  dsimp only
  rw [hp]

/-- An enabled drive is to be probed where it is ABSENT and no probe of it runs or is to begin. -/
theorem Ctx.startProfile_enabled {p : Profile} (hp : (c.drive v).profile = some p) (he : p.enabled = true) (fresh : Bool) :
    c.startProfile v fresh =
      if (c.drive v).state = .absent ∧ (c.drive v).arm = .free ∧ .probe ∉ (c.drive v).profileReads then
        c.modDrive v fun d => { d with profileReads := d.profileReads ++ [.probe] }
      else c := by
  unfold Ctx.startProfile
  dsimp only
  rw [hp]
  dsimp only
  rw [if_neg (by simp [he])]

/-- A disabled drive stands where its profile was not read afresh. -/
theorem Ctx.startProfile_stale {p : Profile} (hp : (c.drive v).profile = some p) (hd : p.enabled = false) :
    c.startProfile v false = c := by
  unfold Ctx.startProfile
  dsimp only
  rw [hp]
  dsimp only
  rw [if_pos (by simp [hd]), if_neg (by simp)]

/-- A drive whose freshly read profile says disabled gives up what it has. -/
def Ctx.disabling (c : Ctx) (v : DriveNo) : Ctx :=
  (if (c.drive v).state = .absent ∨ (c.drive v).state = .empty then c else c.mediaChange v).modDrive v fun d =>
    { d with arm := if d.state = .absent then d.arm else .free }

theorem Ctx.startProfile_disabled {p : Profile} (hp : (c.drive v).profile = some p) (hd : p.enabled = false) :
    c.startProfile v true = (c.disabling v).setDriveState v .absent .none := by
  unfold Ctx.startProfile
  dsimp only
  rw [hp]
  dsimp only
  rw [if_pos (by simp [hd]), if_pos rfl]
  rfl

theorem Ctx.disabling_profile (c : Ctx) (v : DriveNo) : ((c.disabling v).drive v).profile = (c.drive v).profile := by
  unfold Ctx.disabling
  rw [Ctx.modDrive, Ctx.setDrive_drive_self]
  dsimp only
  split
  · rfl
  · rw [c.mediaChange_drive v]
    rfl

/-! #### The end of a command that leaves a start waiting -/

/-- Where a drive is still being probed, a start waits. -/
theorem Ctx.startCheck_probing (h : (c.drive v).probing = true) : c.startCheck = c := by
  unfold Ctx.startCheck
  split
  · rw [if_pos (List.any_eq_true.mpr ⟨v, List.mem_finRange v, h⟩)]
  · rfl

theorem Ctx.startCheck_away (h : ¬ (c.ctl = .starting ∧ ∃ h, c.start = .probing h)) : c.startCheck = c := by
  unfold Ctx.startCheck
  split
  · next h1 h2 => exact absurd ⟨h1, _, h2⟩ h
  · rfl

/-- What a start does at the end of a command keeps the view of every drive. -/
theorem Ctx.started_view (c : Ctx) (v : DriveNo) : (c.startCheck.finish.drive v).view = (c.drive v).view := by
  rw [(c.startCheck.finish_kept v).view, c.startCheck_turns.drive v]
  rfl

/-- A disabled drive is ABSENT at the end of the command. -/
theorem Ctx.startProfile_absent {p : Profile} (hp : (c.drive v).profile = some p) (hd : p.enabled = false) :
    ((c.startProfile v true).startCheck.finish.drive v).state = .absent
      ∧ ((c.startProfile v true).startCheck.finish.drive v).cause = .none
      ∧ ((c.startProfile v true).startCheck.finish.drive v).profile = (c.drive v).profile := by
  have view := (c.startProfile v true).started_view v
  have profile := c.disabling_profile v
  rw [Ctx.startProfile_disabled hp hd] at view ⊢
  rw [Ctx.setDriveState_entering] at view
  generalize ((c.disabling v).setDriveState v .absent .none).startCheck.finish.drive v = t at view ⊢
  generalize (c.disabling v).drive v = d at view profile
  injection view with state cause _ _ _ _ _ _ _ _ _ same
  exact ⟨state, cause, same.trans profile⟩

/-- A state from which no order moves stands. -/
theorem State.still.finish {s : State} (h : s.still) : (Ctx.of s).finish = s :=
  Ctx.finish_none _ h.1 h.2 rfl rfl rfl

theorem State.still.withDrive {s : State} (h : s.still) (v : DriveNo) (d : Drive) : (s.withDrive v d).still := h

theorem State.withDrive_drive (s : State) (v : DriveNo) (d : Drive) : (s.withDrive v d).drive v = d :=
  Ctx.setDrive_drive_self (Ctx.of s) v d

theorem State.withDrive_withDrive (s : State) (v : DriveNo) (d d' : Drive) :
    (s.withDrive v d).withDrive v d' = s.withDrive v d' := by
  simp only [State.withDrive, Vector.set_set]

/-- A change of one drive, as a state of its own. -/
theorem Ctx.of_modDrive (s : State) (v : DriveNo) (k : Drive → Drive) :
    (Ctx.of s).modDrive v k = Ctx.of (s.withDrive v (k (s.drive v))) := rfl

theorem State.withDrive_modDrive (s : State) (v : DriveNo) (d : Drive) (k : Drive → Drive) :
    (Ctx.of (s.withDrive v d)).modDrive v k = Ctx.of (s.withDrive v (k d)) := by
  rw [Ctx.of_modDrive, s.withDrive_drive, s.withDrive_withDrive]

end Changes

/-! #### The command -/

/-- The profile held after a profile read. -/
def profileAfter (r : DmaRead) (old : Option Profile) : Option Profile :=
  match r with
  | .data b => some (profileOf b)
  | .busError => old

/-- The read gave data. -/
def givesData (r : DmaRead) : Bool :=
  match r with
  | .data _ => true
  | .busError => false

/-- A drive after its oldest profile read. -/
def Drive.profiled (d : Drive) (r : DmaRead) (rest : List ReadPurpose) : Drive :=
  { d with profileReads := rest, profile := profileAfter r d.profile }

/-- The state as the read leaves its drive. -/
def State.profiled (s : State) (v : DriveNo) (r : DmaRead) (rest : List ReadPurpose) : State :=
  s.withDrive v ((s.drive v).profiled r rest)

section Reads
variable {v : DriveNo} {r : DmaRead} {tz : Bool} {s : State} {rest : List ReadPurpose} {purpose : ReadPurpose}

theorem profileOf_eq (b : List Byte) : profileOf b =
    { stepMs := max 2 (min 8 (fieldAt b 1 1)), settleMs := max 5 (min 50 (fieldAt b 2 1))
      headLoadMs := max 10 (min 80 (fieldAt b 3 1)), headIdleRevs := fieldAt b 4 1, enabled := byteAt b 0 != 0 } := by
  simp only [fieldAt_one]
  rfl

theorem State.profiled_drive : (Ctx.of (s.profiled v r rest)).drive v = (s.drive v).profiled r rest :=
  s.withDrive_drive v _

theorem exec_profileReadDone (hr : (s.drive v).profileReads = purpose :: rest) (hb : ∀ b, r = .data b → b.length = 5) :
    exec (.profileReadDone v r tz) s = ((Ctx.of s).profileRead v r tz).next := by
  have length : wrongLength r 5 = false := by
    cases r with
    | busError => rfl
    | data b => simp [wrongLength, hb b rfl]
  change execProfileReadDone v r tz s = _
  unfold execProfileReadDone
  rw [hr]
  dsimp only
  rw [length, if_neg Bool.false_ne_true]

theorem Ctx.profileRead_load (hr : (s.drive v).profileReads = .load :: rest) :
    (Ctx.of s).profileRead v r tz = Ctx.of (s.profiled v r rest) := by
  unfold Ctx.profileRead
  rw [show ((Ctx.of s).drive v).profileReads = .load :: rest from hr]
  rfl

/-- A start goes on with a profile that it has read (R2, R3). -/
theorem Ctx.profileRead_start (hr : (s.drive v).profileReads = .start :: rest) {h : Header} (hc : s.ctl = .starting)
    (hs : s.start = .probing h) :
    (Ctx.of s).profileRead v r tz = ((Ctx.of (s.profiled v r rest)).startProfile v (givesData r)).startCheck := by
  unfold Ctx.profileRead
  rw [show ((Ctx.of s).drive v).profileReads = .start :: rest from hr]
  dsimp only
  rw [show ((Ctx.of s).modDrive v _).ctl = .starting from hc, show ((Ctx.of s).modDrive v _).start = .probing h from hs]
  rfl

theorem Ctx.profileRead_startGone (hr : (s.drive v).profileReads = .start :: rest)
    (away : ¬ (s.ctl = .starting ∧ ∃ h, s.start = .probing h)) :
    (Ctx.of s).profileRead v r tz = Ctx.of (s.profiled v r rest) := by
  unfold Ctx.profileRead
  rw [show ((Ctx.of s).drive v).profileReads = .start :: rest from hr]
  dsimp only
  split
  · next h1 h2 => exact absurd ⟨h1, _, h2⟩ away
  · rfl

/-- A drive that is to be probed by the profile that it holds. -/
def Drive.probeable (d : Drive) : Prop := d.profileOrZero.enabled = true ∧ d.state = .absent ∧ d.arm = .free

theorem Ctx.profileRead_probe (hr : (s.drive v).profileReads = .probe :: rest) :
    (((s.drive v).profiled r rest).probeable →
      (Ctx.of s).profileRead v r tz = ((Ctx.of (s.profiled v r rest)).startProbe v tz).startCheck)
    ∧ (¬ ((s.drive v).profiled r rest).probeable →
      (Ctx.of s).profileRead v r tz = (Ctx.of (s.profiled v r rest)).startCheck) := by
  have at1 : (s.profiled v r rest).drive v = (s.drive v).profiled r rest := State.profiled_drive
  unfold Ctx.profileRead
  rw [show ((Ctx.of s).drive v).profileReads = .probe :: rest from hr]
  rw [← at1]
  exact ⟨fun h => congrArg Ctx.startCheck (if_pos h), fun h => congrArg Ctx.startCheck (if_neg h)⟩

/-- A start waits for the drive that a command leaves in its probe. -/
theorem State.still.waits (hs : s.still) {d : Drive} (hp : d.probing = true) :
    (Ctx.of (s.withDrive v d)).startCheck.next = .next (s.withDrive v d) := by
  rw [Ctx.startCheck_probing (v := v) (by
    rw [show (Ctx.of (s.withDrive v d)).drive v = d from s.withDrive_drive v d]; exact hp)]
  exact congrArg _ (hs.withDrive v d).finish

theorem State.profiled_modDrive (k : Drive → Drive) :
    (Ctx.of (s.profiled v r rest)).modDrive v k = Ctx.of (s.withDrive v (k ((s.drive v).profiled r rest))) :=
  s.withDrive_modDrive v _ k

theorem Drive.probing_of_reads {d : Drive} {p : ReadPurpose} (h : p ∈ d.profileReads) (hp : p ≠ .load) : d.probing = true := by
  rw [Drive.probing, Bool.or_eq_true]
  exact .inl (List.any_eq_true.mpr ⟨p, h, by simpa using hp⟩)

end Reads

/-- Settles O27, by what the read was for. -/
theorem profileReadDone : Obligations.ProfileReadDone := by
  unfold Obligations.ProfileReadDone
  intro v r tz s rest hb d held starting enabled
  have held_eq : held = profileAfter r d.profile := by
    cases r with
    | busError => rfl
    | data b => exact congrArg some (profileOf_eq b).symm
  clear_value held
  subst held_eq
  have still1 (h : s.still) : (s.profiled v r rest).still := h.withDrive v _
  have at1 : (Ctx.of (s.profiled v r rest)).drive v = d.profiled r rest := State.profiled_drive
  refine ⟨fun hr => ?_, fun hr hs => ?_, fun hr hs away => ?_, fun hr hs ⟨hc, h, hh⟩ he ha hf hp => ?_,
    fun hr hs ⟨hc, h, hh⟩ he ha hp => ?_, fun hr ⟨hc, h, hh⟩ hdata hn => ?_, fun hr hs he ha hf => ?_⟩
  · change execProfileReadDone v r tz s = _
    unfold execProfileReadDone
    rw [show (s.drive v).profileReads = [] from hr]
  · rw [exec_profileReadDone hr hb, Ctx.profileRead_load hr, Ctx.next, (still1 hs).finish]
    rfl
  · rw [exec_profileReadDone hr hb, Ctx.profileRead_startGone hr away, Ctx.next, (still1 hs).finish]
    rfl
  · obtain ⟨p, hp', hen⟩ := he
    rw [exec_profileReadDone hr hb, Ctx.profileRead_start hr hc hh,
      Ctx.startProfile_enabled (p := p) (by rw [at1]; exact hp') hen, if_pos (by rw [at1]; exact ⟨ha, hf, hp⟩)]
    rw [State.profiled_modDrive]
    exact hs.waits (Drive.probing_of_reads (p := .probe) (List.mem_append_right _ (List.mem_singleton_self _)) (by simp))
  · obtain ⟨p, hp', hen⟩ := he
    have busy : (d.profiled r rest).probing = true := by
      obtain hp | ⟨phase, n, x, harm⟩ | ⟨x, harm⟩ := hp
      · exact Drive.probing_of_reads hp (by simp)
      · simp [Drive.probing, Drive.profiled, harm]
      · simp [Drive.probing, Drive.profiled, harm]
    have idle : ¬ (d.state = .absent ∧ d.arm = .free ∧ .probe ∉ rest) := by
      rintro ⟨_, hf, hn⟩
      obtain hp | ⟨phase, n, x, harm⟩ | ⟨x, harm⟩ := hp
      · exact hn hp
      · rw [harm] at hf; cases hf
      · rw [harm] at hf; cases hf
    rw [exec_profileReadDone hr hb, Ctx.profileRead_start hr hc hh,
      Ctx.startProfile_enabled (p := p) (by rw [at1]; exact hp') hen, if_neg (by rw [at1]; exact idle)]
    exact hs.waits busy
  · obtain ⟨b, rfl⟩ := hdata
    have off : (profileOf b).enabled = false := by
      by_contra hne
      exact hn ⟨profileOf b, rfl, by simpa using hne⟩
    have profile : ((Ctx.of (s.profiled v (.data b) rest)).drive v).profile = some (profileOf b) := by rw [at1]; rfl
    obtain ⟨state, cause, kept⟩ := Ctx.startProfile_absent profile off
    exact ⟨_, by rw [exec_profileReadDone hr hb, Ctx.profileRead_start hr hc hh]; rfl, state, cause, kept.trans profile⟩
  · obtain ⟨p, hp', hen⟩ := he
    have probeable : (d.profiled r rest).probeable := by
      refine ⟨?_, ha, hf⟩
      rw [Drive.profileOrZero, show (d.profiled r rest).profile = some p from hp']
      exact hen
    rw [exec_profileReadDone hr hb, (Ctx.profileRead_probe hr).1 probeable, Ctx.startProbe, State.profiled_modDrive,
      hs.waits (by simp [Drive.probing])]
    refine congrArg (fun d => Host.Outcome.next (s.withDrive v d)) ?_
    rw [State.stepDue, at1]
    rfl

end Sys2Proof.Machine

-- ==== Sys2Proof/Proofs/Probes.lean ====
namespace Sys2Proof.Machine

open Sys2Proof

/-! ### Probes, and what a start does at their end (R3, R117, R182) -/

/-! #### The desks of a run (R117) -/

section Running
variable {c c' : Ctx} {h : Header}

theorem Ctx.forDesks_meet {P Q : Ctx → Prop} {k : DeskNo → Ctx → Ctx} {d : DeskNo} (c : Ctx) (hc : P c)
    (before : ∀ d' c, d' ≠ d → P c → P (k d' c)) (at_d : ∀ c, P c → Q (k d c))
    (after : ∀ d' c, d' ≠ d → Q c → Q (k d' c)) : Q (c.forDesks k) :=
  Ctx.foldl_meet (k := fun c d => k d c) (List.nodup_finRange 16) (List.mem_finRange d) c hc (fun c d' hd => before d' c hd) at_d
    fun c d' hd => after d' c hd

theorem Ctx.forDrives_meet {P Q : Ctx → Prop} {k : DriveNo → Ctx → Ctx} {v : DriveNo} (c : Ctx) (hc : P c)
    (before : ∀ w c, w ≠ v → P c → P (k w c)) (at_v : ∀ c, P c → Q (k v c))
    (after : ∀ w c, w ≠ v → Q c → Q (k w c)) : Q (c.forDrives k) :=
  Ctx.foldl_meet (k := fun c v => k v c) (List.nodup_finRange 4) (List.mem_finRange v) c hc (fun c w hw => before w c hw) at_v
    fun c w hw => after w c hw

theorem Ctx.modDesk_desk (c : Ctx) (d d' : DeskNo) (k : Desk → Desk) :
    (c.modDesk d k).desk d' = if d' = d then k (c.desk d) else c.desk d' := c.setDesk_desk d d' _

/-- A desk of the run as the entry to RUNNING sets it up. -/
def Desk.fetches (k : Desk) : Desk := { k with
  state := .fetching, fault := .none, cursor := none, latch := false, taken := 0, done := 0, inFlight := 0, look := .link }

/-- The desk as the entry to RUNNING leaves it. -/
def Desk.setUp (k : Desk) (inRun : Bool) (addr : Nat) : Desk :=
  if inRun then { k.fetches with entryWrites := k.entryWrites ++ [⟨addr, k.fetches.entryBytes, false⟩] }
  else { k with state := .halted }

/-- The parts that the set-up of a desk reads. -/
def Ctx.Alongside (c c' : Ctx) : Prop := c'.header = c.header ∧ c'.runBase = c.runBase ∧ c'.ctl = c.ctl

/-- What one desk's set-up leaves. -/
structure Ctx.SetUp (c : Ctx) (d : DeskNo) (c' : Ctx) : Prop where
  alongside : c.Alongside c'
  here : c'.desk d = (c.desk d).setUp (c.deskInRun d) (deskEntryAddr c.runBase d)
  others : ∀ d', d' ≠ d → c'.desk d' = c.desk d'

theorem Ctx.setUpDesk_setUp (c : Ctx) (hc : c.ctl = .running) (d : DeskNo) : c.SetUp d (c.setUpDesk d) := by
  have written (c1 : Ctx) (h1 : c1.ctl = .running) (hd : c1.deskInRun d = true) : c1.entryWrite d = c1.modDesk d fun k => { k with
      entryWrites := k.entryWrites ++ [⟨deskEntryAddr c1.runBase d, k.entryBytes, false || k.faultStands⟩] } := by
    rw [Ctx.entryWrite, if_pos (by rw [h1]; rfl), Ctx.beginEntryWrite, if_pos hd]
  unfold Ctx.setUpDesk
  split
  · next hd =>
    rw [written (c.modDesk d _) hc hd]
    refine ⟨⟨rfl, rfl, rfl⟩, ?_, fun d' hd' => ?_⟩
    · rw [Ctx.modDesk_desk, if_pos rfl, Ctx.modDesk_desk, if_pos rfl, Desk.setUp, if_pos hd]
      rfl
    · rw [Ctx.modDesk_desk, if_neg hd', Ctx.modDesk_desk, if_neg hd']
  · next hd =>
    refine ⟨⟨rfl, rfl, rfl⟩, ?_, fun d' hd' => ?_⟩
    · rw [Ctx.modDesk_desk, if_pos rfl, Desk.setUp, if_neg hd]
    · rw [Ctx.modDesk_desk, if_neg hd']

theorem Ctx.Alongside.trans {c'' : Ctx} (a : c.Alongside c') (b : c'.Alongside c'') : c.Alongside c'' :=
  ⟨b.1.trans a.1, b.2.1.trans a.2.1, b.2.2.trans a.2.2⟩

theorem Ctx.Alongside.setUp (a : c.Alongside c') (d : DeskNo) (k : Desk) :
    k.setUp (c'.deskInRun d) (deskEntryAddr c'.runBase d) = k.setUp (c.deskInRun d) (deskEntryAddr c.runBase d) := by
  rw [State.deskInRun, a.1, a.2.1]
  rfl

theorem Ctx.forDesks_setUp (c : Ctx) (hc : c.ctl = .running) (d : DeskNo) :
    (c.forDesks fun d c => c.setUpDesk d).desk d = (c.desk d).setUp (c.deskInRun d) (deskEntryAddr c.runBase d) := by
  have met := Ctx.forDesks_meet (d := d) (k := fun d c => c.setUpDesk d)
    (P := fun c' => c.Alongside c' ∧ c'.desk d = c.desk d)
    (Q := fun c' => c.Alongside c' ∧ c'.desk d = (c.desk d).setUp (c.deskInRun d) (deskEntryAddr c.runBase d)) c ⟨⟨rfl, rfl, rfl⟩, rfl⟩
    (fun d' c' hd ⟨a, h⟩ => by
      have up := c'.setUpDesk_setUp (a.2.2.trans hc) d'
      exact ⟨a.trans up.alongside, (up.others d hd.symm).trans h⟩)
    (fun c' ⟨a, h⟩ => by
      have up := c'.setUpDesk_setUp (a.2.2.trans hc) d
      exact ⟨a.trans up.alongside, up.here.trans (by rw [a.setUp, h])⟩)
    fun d' c' hd ⟨a, h⟩ => by
      have up := c'.setUpDesk_setUp (a.2.2.trans hc) d'
      exact ⟨a.trans up.alongside, (up.others d hd.symm).trans h⟩
  exact met.2

/-! #### The entry to RUNNING -/

/-- The entry to RUNNING before its desks are set up. -/
def Ctx.begun (c : Ctx) (h : Header) : Ctx :=
  ({ c with
    header := some h, start := .idle
    orphans := c.orphans.map fun x => { x with counts := false } } : Ctx).setCtl .running

/-- The desks of the entry to RUNNING. -/
def Ctx.desksBegun (c : Ctx) (h : Header) : Ctx := (c.begun h).forDesks fun d c => c.setUpDesk d

theorem Ctx.begun_view (c : Ctx) (h : Header) : (c.begun h).view = { c.view with
    ctl := .running, header := some h, start := .idle, orphans := c.orphans.map fun x => { x with counts := false } } :=
  Ctx.setCtl_view _ _

theorem Ctx.setUpDesk_rest (c : Ctx) (d : DeskNo) : c.setUpDesk d = { c with desks := (c.setUpDesk d).desks } := by
  unfold Ctx.setUpDesk
  split
  · rw [Ctx.entryWrite]
    split
    · rw [Ctx.beginEntryWrite]
      split <;> rfl
    · rfl
  · rfl

theorem Ctx.forDesks_rest (c : Ctx) : (c.forDesks fun d c => c.setUpDesk d) =
    { c with desks := (c.forDesks fun d c => c.setUpDesk d).desks } := by
  have walk : ∀ (l : List DeskNo) (c : Ctx), l.foldl (fun c d => c.setUpDesk d) c =
      { c with desks := (l.foldl (fun c d => c.setUpDesk d) c).desks } := by
    intro l
    induction l with
    | nil => exact fun _ => rfl
    | cons d l ih =>
      intro c
      rw [List.foldl_cons, ih, c.setUpDesk_rest d]
  exact walk _ c

/-- Every drive record is written at the entry to RUNNING (R113). -/
theorem Ctx.writeAllRecords_drive (c : Ctx) (hc : c.ctl.tableWrites = true) (w : DriveNo) :
    (c.drive w).recordWrites ++ [⟨⟨driveRecordAddr c.runBase w, (c.drive w).recordBytes (c.strandedCount w)⟩, none⟩]
      <+: (c.writeAllRecords.drive w).recordWrites := by
  have met := Ctx.forDrives_meet (v := w) (k := fun v c => c.recordWrite v none)
    (P := fun c' => c.OnlyDrives c' ∧ c'.drive w = c.drive w)
    (Q := fun c' => (c.drive w).recordWrites
      ++ [⟨⟨driveRecordAddr c.runBase w, (c.drive w).recordBytes (c.strandedCount w)⟩, none⟩] <+: (c'.drive w).recordWrites)
    c ⟨rfl, rfl⟩ (fun v c' hv ⟨only, same⟩ => ?_) (fun c' ⟨only, same⟩ => ?_) fun v c' hv h => ?_
  · exact met
  · refine ⟨only.trans (c'.recordWrite_onlyDrives v none), ?_⟩
    rw [c'.recordWrite_drive v w none, if_neg fun h => hv h.1.symm, same]
  · have ctl : c'.ctl = c.ctl := by rw [only]
    have base : c'.runBase = c.runBase := by rw [only]
    have counted : c'.strandedCount w = c.strandedCount w := by rw [only]; rfl
    change _ <+: ((c'.recordWrite w none).drive w).recordWrites
    rw [c'.recordWrite_drive w w none, if_pos ⟨rfl, by rw [ctl]; exact hc⟩, base, counted, same]
  · exact h.trans (c'.recordWrite_reported v w none).recorded

/-- The entry to RUNNING, as the view shows it but for the desks, and at its desks. -/
theorem Ctx.enterRunning_view (c : Ctx) (h : Header) :
    (c.enterRunning h).view = { c.view with
      ctl := .running, header := some h, start := .idle, orphans := c.orphans.map fun x => { x with counts := false }
      snapTimer := if h.snapshotInterval = 0 then none else some (later c.g (h.snapshotInterval * 1000000))
      desks := (c.enterRunning h).desks } := by
  have begun := c.begun_view h
  have desks := (c.begun h).forDesks_rest
  have told := (c.desksBegun h).writeAllRecords_view
  have entered : (c.enterRunning h).view = { (c.desksBegun h).writeAllRecords.view with
    snapTimer := if h.snapshotInterval = 0 then none else some (later c.g (h.snapshotInterval * 1000000)) } := rfl
  have same : (c.enterRunning h).desks = (c.desksBegun h).desks := congrArg View.desks told
  have set : (c.desksBegun h).view = { (c.begun h).view with desks := (c.desksBegun h).desks } := by
    rw [Ctx.desksBegun]
    generalize (c.begun h).forDesks (fun d c => c.setUpDesk d) = x at desks
    rw [desks]
    rfl
  rw [entered, told, same, set, begun]

theorem Ctx.enterRunning_desk (c : Ctx) (h : Header) (d : DeskNo) :
    (c.enterRunning h).desk d = (c.desk d).setUp (decide (d.val < h.deskCount)) (deskEntryAddr c.runBase d) := by
  have begun := c.begun_view h
  have told := (c.desksBegun h).writeAllRecords_view
  have same : (c.enterRunning h).desks = (c.desksBegun h).desks := congrArg View.desks told
  have set := (c.begun h).forDesks_setUp (congrArg View.ctl begun) d
  have base : (c.begun h).runBase = c.runBase := congrArg View.runBase begun
  have desks : (c.begun h).desks = c.desks := congrArg View.desks begun
  have header : (c.begun h).header = some h := congrArg View.header begun
  have here : (c.begun h).desk d = c.desk d := by rw [State.desk, desks]; rfl
  rw [State.deskInRun, base, header, here] at set
  rw [State.desk, same]
  exact set

theorem Ctx.setCtl_rest (c : Ctx) (st : CtlState) : c.setCtl st = { c with ctl := st, picks := (c.setCtl st).picks } := by
  have walk : ∀ (l : List DriveNo) (c : Ctx), l.foldl (fun c v => c.flagPick v) c =
      { c with picks := (l.foldl (fun c v => c.flagPick v) c).picks } := by
    intro l
    induction l with
    | nil => exact fun _ => rfl
    | cons v l ih =>
      intro c
      rw [List.foldl_cons, ih, c.flagPick_eq v]
  unfold Ctx.setCtl
  split
  · next h => rw [← h]
  · exact walk _ { c with ctl := st }

theorem Ctx.enterRunning_records (c : Ctx) (h : Header) (w : DriveNo) :
    (c.drive w).recordWrites ++ [⟨⟨driveRecordAddr c.runBase w, (c.drive w).recordBytes (c.strandedCount w)⟩, none⟩]
      <+: ((c.enterRunning h).drive w).recordWrites := by
  have begun : c.begun h = { c with
      ctl := .running, header := some h, start := .idle, orphans := c.orphans.map fun x => { x with counts := false }
      picks := (c.begun h).picks } := Ctx.setCtl_rest _ _
  have desks : c.desksBegun h = { c.begun h with desks := (c.desksBegun h).desks } := (c.begun h).forDesks_rest
  have rest : c.desksBegun h = { c with
      ctl := .running, header := some h, start := .idle, orphans := c.orphans.map fun x => { x with counts := false }
      picks := (c.begun h).picks, desks := (c.desksBegun h).desks } := by
    generalize c.desksBegun h = x at desks ⊢
    generalize c.begun h = y at begun desks ⊢
    rw [desks, begun]
  have written := (c.desksBegun h).writeAllRecords_drive (by rw [rest]; rfl) w
  have same : (c.enterRunning h).drive w = (c.desksBegun h).writeAllRecords.drive w := rfl
  rw [same]
  generalize (c.desksBegun h).writeAllRecords = y at written ⊢
  generalize c.desksBegun h = x at rest written
  rw [rest] at written
  exact written

/-! #### The end of a start (R182) -/

/-- What a start of header `h` has come to in `t`, begun in `s` and gone on from `u`. -/
structure State.StartsFrom (s u : State) (h : Header) (t : State) : Prop where
  waits : (∃ w, (u.drive w).probing = true) ∨ (s.run = true ∧ s.warning = true) → t.view = u.view
  stops : (∀ w, (u.drive w).probing = false) → s.run = false →
    t.view = { u.view with ctl := .stopped, snapTimer := none, start := .idle }
  runs : (∀ w, (u.drive w).probing = false) → s.run = true → s.warning = false →
    t.ctl = .running ∧ t.header = some h ∧ t.start = .idle
    ∧ t.snapTimer = (if h.snapshotInterval = 0 then none else some (s.g + BitVec.ofNat 32 (h.snapshotInterval * 1000000)))
    ∧ (∀ k : DeskNo, h.deskCount ≤ k.val → t.desk k = { s.desk k with state := .halted })
    ∧ (∀ k : DeskNo, k.val < h.deskCount →
        (t.desk k).entryWrites =
          (s.desk k).entryWrites ++ [⟨deskEntryAddr s.runBase k, (t.desk k).entryBytes, false⟩]
        ∧ ({ t.desk k with entryWrites := [] } : Desk) =
          { state := .fetching, fault := .none, cursor := none, latch := false, taken := 0, done := 0
            inFlight := 0, look := .link })
    ∧ t.orphans = s.orphans.map (fun x => { x with counts := false })
    ∧ (∀ w, (u.drive w).recordWrites ++ [⟨⟨driveRecordAddr s.runBase w,
        (u.drive w).recordBytes (u.strandedCount w)⟩, none⟩] <+: (t.drive w).recordWrites)

theorem Ctx.enterStopped_view (c : Ctx) :
    c.enterStopped.view = { c.view with ctl := .stopped, snapTimer := none, start := .idle } := by
  have set := c.setCtl_view .stopped
  have view : c.enterStopped.view = { (c.setCtl .stopped).view with snapTimer := none, start := .idle } := rfl
  rw [view, set]

/-- A desk set up in the run is a fresh one but for the entries that it is still to write. -/
theorem Desk.setUp_inRun (k : Desk) (addr : Nat) :
    (k.setUp true addr).entryWrites = k.entryWrites ++ [⟨addr, (k.setUp true addr).entryBytes, false⟩]
      ∧ ({ k.setUp true addr with entryWrites := [] } : Desk) =
        { state := .fetching, fault := .none, cursor := none, latch := false, taken := 0, done := 0, inFlight := 0
          look := .link } := ⟨rfl, rfl⟩

/-- The end of a start, past the command that made it (R117, R179, R182). -/
theorem Ctx.startCheck_starts {c : Ctx} {s : State} {v : DriveNo} {d : Drive} {h : Header} (hc : c.toState = s.withDrive v d)
    (ctl : s.ctl = .starting) (start : s.start = .probing h) : s.StartsFrom (s.withDrive v d) h c.startCheck.finish := by
  have drives (w : DriveNo) : c.drive w = (s.withDrive v d).drive w := by rw [← hc]
  have starting : c.ctl = .starting := by rw [show c.ctl = (s.withDrive v d).ctl from congrArg State.ctl hc]; exact ctl
  have probing : c.start = .probing h := by rw [show c.start = (s.withDrive v d).start from congrArg State.start hc]; exact start
  have run : c.run = s.run := (congrArg State.run hc :)
  have warning : c.warning = s.warning := (congrArg State.warning hc :)
  have check : c.startCheck = if (List.finRange 4).any fun v => (c.drive v).probing then c else if !c.run then c.enterStopped
      else if c.warning then c else c.enterRunning h := by
    unfold Ctx.startCheck
    rw [starting, probing]
  have waits : c.finish.view = (s.withDrive v d).view := by
    rw [c.finish_view (by rw [starting]; simp) (by rw [starting]; simp), hc]
  have decides (none : ∀ w, ((s.withDrive v d).drive w).probing = false) :
      c.startCheck = if !c.run then c.enterStopped else if c.warning then c else c.enterRunning h := by
    rw [check, if_neg]
    rw [List.any_eq_true]
    rintro ⟨w, _, hw⟩
    rw [drives, none] at hw
    cases hw
  refine ⟨fun hw => ?_, fun none hr => ?_, fun none hr hw => ?_⟩
  · rw [check]
    split
    · exact waits
    · next idle =>
      obtain ⟨w, hw⟩ | ⟨hr, hw⟩ := hw
      · exact absurd (List.any_eq_true.mpr ⟨w, List.mem_finRange w, by rw [drives]; exact hw⟩) idle
      · rw [if_neg (by rw [run, hr]; simp), if_pos (by rw [warning, hw])]
        exact waits
  · rw [decides none, if_pos (by rw [run, hr]; rfl)]
    have stopped := c.enterStopped_view
    have at1 : c.enterStopped.ctl = .stopped := congrArg View.ctl stopped
    rw [Ctx.finish_view _ (by rw [at1]; simp) (by rw [at1]; simp), stopped, hc]
  · rw [decides none, if_neg (by rw [run, hr]; simp), if_neg (by rw [warning, hw]; simp)]
    have running := c.enterRunning_view h
    have at1 : (c.enterRunning h).ctl = .running := congrArg View.ctl running
    have view := (c.enterRunning h).finish_view (by rw [at1]; simp) (by rw [at1]; simp)
    have desks (k : DeskNo) : (c.enterRunning h).finish.desk k
        = (s.desk k).setUp (decide (k.val < h.deskCount)) (deskEntryAddr s.runBase k) := by
      have same : (c.enterRunning h).finish.desk k = (c.enterRunning h).desk k := by
        rw [State.desk, show (c.enterRunning h).finish.desks = _ from congrArg View.desks view]
        rfl
      rw [same, c.enterRunning_desk h k]
      have desk : c.desk k = s.desk k := (congrArg (fun s : State => s.desk k) hc :)
      have base : c.runBase = s.runBase := (congrArg State.runBase hc :)
      rw [desk, base]
    have records (w : DriveNo) := (c.enterRunning_records h w).trans ((c.enterRunning h).finish_kept w).recorded
    rw [running] at view
    generalize (c.enterRunning h).finish = t at view desks records ⊢
    refine ⟨congrArg View.ctl view, congrArg View.header view, congrArg View.start view, ?_, fun k hk => ?_, fun k hk => ?_, ?_,
      fun w => ?_⟩
    · rw [show t.snapTimer = _ from congrArg View.snapTimer view]
      have g : c.g = s.g := (congrArg State.g hc :)
      dsimp only
      rw [g]
      rfl
    · rw [desks, Desk.setUp, if_neg (by simpa using hk)]
    · rw [desks, decide_eq_true hk]
      exact (s.desk k).setUp_inRun _
    · rw [show t.orphans = _ from congrArg View.orphans view]
      exact (congrArg (fun s : State => s.orphans.map fun x => { x with counts := false }) hc :)
    · have moved := records w
      rw [drives, show c.strandedCount w = (s.withDrive v d).strandedCount w from congrArg (fun s : State => s.strandedCount w) hc,
        show c.runBase = s.runBase from (congrArg State.runBase hc :)] at moved
      exact moved

end Running
/-! #### The steps of a probe (R3) -/

section Steps
variable {s : State} {v : DriveNo} {n : Nat} {tz : Bool}

/-- A drive that saw the level of TRACK ZERO. -/
def Drive.saw (d : Drive) (tz : Bool) : Drive := { d with lines := { d.lines with trackZero := some tz } }

/-- The next pulse of a probe, outward. -/
def Drive.probesOn (d : Drive) (phase : ProbePhase) (n : Nat) (due : Word) : Drive := { d with
  lines := { d.lines with inward := false, steps := d.lines.steps + 1, trackZero := none }
  arm := .probe phase (n + 1) due }

/-- What a step of a probe leaves of its drive. -/
def Drive.probeStepped (d : Drive) (phase : ProbePhase) (n : Nat) (tz : Bool) (step settle : Word) : Drive :=
  match phase with
  | .inward => d.probesOn (.back !tz) n step
  | .back low => if low && tz then { d.saw tz with arm := .probeSettle settle } else { d.saw tz with arm := .free }
  | .outward =>
    if tz then { d.saw tz with arm := .probeSettle settle }
    else if n < pulseLimit then d.probesOn .outward n step else { d.saw tz with arm := .free }

theorem Ctx.probeStep_eq (phase : ProbePhase) : (Ctx.of s).probeStep v phase n tz
    = Ctx.of (s.withDrive v ((s.drive v).probeStepped phase n tz (s.stepDue v) (s.settleDue v))) := by
  have saw : ((Ctx.of s).modDrive v fun d => { d with lines := { d.lines with trackZero := some tz } })
      = Ctx.of (s.withDrive v ((s.drive v).saw tz)) := rfl
  unfold Ctx.probeStep Drive.probeStepped
  dsimp only
  rw [saw]
  simp only [State.withDrive_modDrive]
  cases phase with
  | inward => rfl
  | back low =>
    dsimp only
    split <;> rfl
  | outward =>
    dsimp only
    split
    · rfl
    · split <;> rfl

theorem exec_probeStepDone {phase : ProbePhase} {x : Word} (ha : (s.drive v).arm = .probe phase n x)
    (hr : reached s.g x = true) :
    exec (.probeStepDone v tz) s
      = (Ctx.of (s.withDrive v ((s.drive v).probeStepped phase n tz (s.stepDue v) (s.settleDue v)))).startCheck.next := by
  rw [← Ctx.probeStep_eq]
  change execProbeStepDone v tz s = _
  unfold execProbeStepDone
  rw [ha]
  exact if_pos hr

/-- A probe that has come to no end is waited for. -/
theorem State.still.probes {d : Drive} (hs : s.still) (h : d.probing = true ∨ s.ctl ≠ .starting) :
    (Ctx.of (s.withDrive v d)).startCheck.next = .next (s.withDrive v d) := by
  obtain h | h := h
  · exact hs.waits h
  · rw [Ctx.startCheck_away (c := Ctx.of (s.withDrive v d)) fun hc => h hc.1]
    exact congrArg _ (hs.withDrive v d).finish

end Steps

/-! #### The settle of a probe -/

section Settles
variable {c : Ctx} {s : State} {v : DriveNo}

/-- Where no record is written, a change of state is one of the drive alone. -/
theorem Ctx.setDriveState_silent (c : Ctx) (v : DriveNo) (st : DriveState) (x : Cause) (h : c.ctl.tableWrites = false) :
    (c.setDriveState v st x).toState = (c.modDrive v fun d => d.entering st x).toState := by
  have silent (c1 : Ctx) (h1 : c1.ctl.tableWrites = false) (y : Option Bool) : c1.recordWrite v y = c1 := by
    rw [Ctx.recordWrite, h1]
    exact if_neg Bool.false_ne_true
  unfold Ctx.setDriveState
  dsimp only
  split
  · next same =>
    rw [Ctx.modDrive, Drive.entering, ← same.1, ← same.2]
    exact (congrArg Ctx.toState (c.setDrive_same v)).symm
  · rw [silent (c.modDrive v _) h]
    split
    · rfl
    · rw [Ctx.flagPick_eq]; rfl

/-- A drive that serves nothing keeps its arm and its cylinder over what a start does at the end of the command. -/
theorem Ctx.started_down (hd : (c.drive v).down) (hc : c.Cleared) :
    c.startCheck.finish.drive v = { c.drive v with
      heads := (c.startCheck.finish.drive v).heads, health := (c.startCheck.finish.drive v).health
      recordWrites := (c.startCheck.finish.drive v).recordWrites, sched := (c.startCheck.finish.drive v).sched } := by
  have turned := c.startCheck_turns
  have drive := turned.drive v
  have down : (c.startCheck.drive v).down := by rw [drive]; exact hd
  have cleared : c.startCheck.Cleared := hc.of_eq (by rw [turned.rest]) (by rw [turned.rest])
  obtain ⟨x, _, final⟩ := (c.startCheck.finish_down down cleared).1
  generalize c.startCheck.finish.drive v = t at final ⊢
  generalize c.startCheck.drive v = d at final drive
  rw [final, drive]

/-- The drive at an entry to FAULT, from wherever (R8). -/
theorem Ctx.faultEntry_drive (c : Ctx) (v : DriveNo) (x : Cause) :
    (∃ d, (d = c.drive v ∨ d = (c.drive v).enterFault c.g x) ∧ (c.faultEntry v x).drive v = { d.entering .fault x with
      sched := ((c.faultEntry v x).drive v).sched, health := ((c.faultEntry v x).drive v).health
      recordWrites := ((c.faultEntry v x).drive v).recordWrites }) ∧ (c.Cleared → (c.faultEntry v x).Cleared) := by
  by_cases h : (c.drive v).state = .fault
  · have same : c.faultEntry v x = c.setDriveState v .fault x := if_pos h
    rw [same, c.setDriveState_entering v .fault x]
    exact ⟨⟨_, .inl rfl, rfl⟩, fun hc => Ctx.setDriveState_cleared v .fault x hc⟩
  · rw [c.faultEntry_eq v x h]
    have at0 : (c.modDrive v fun d => d.enterFault c.g x).drive v = (c.drive v).enterFault c.g x := Ctx.setDrive_drive_self ..
    have set := (c.modDrive v fun d => d.enterFault c.g x).setDriveState_entering v .fault x
    have cleared (hc : c.Cleared) := Ctx.setDriveState_cleared v .fault x (Ctx.modDrive_cleared v (fun d => d.enterFault c.g x) hc)
    rw [at0] at set
    generalize (c.modDrive v fun d => d.enterFault c.g x).setDriveState v .fault x = c1 at set cleared ⊢
    have gave := (c1.giveUp_leaves v fun k => by rw [set]; exact ((c.drive v).enterFault c.g x).entering_fault_down x k).1
    refine ⟨⟨_, .inr rfl, ?_⟩, fun hc => gave.cleared (cleared hc)⟩
    have drive := gave.drive
    generalize (c1.giveUp v).drive v = d at drive ⊢
    rw [drive, set]

/-- The drive where the probe has found cylinder 0. -/
def Drive.probed (d : Drive) : Drive := { d with arm := .free, cylinder := 0 }

theorem Ctx.probeSettle_eq (wp ts : Bool) : (Ctx.of s).probeSettle v wp ts =
    if (s.drive v).lines.ready then
      if (s.drive v).lines.driveFault then (Ctx.of (s.withDrive v ((s.drive v).probed.load s.g wp ts))).faultEntry v .drive
      else (Ctx.of (s.withDrive v ((s.drive v).probed.load s.g wp ts))).setDriveState v .spinup .none
    else (Ctx.of (s.withDrive v (s.drive v).probed)).setDriveState v .empty .none := by
  have probed : ((Ctx.of s).modDrive v fun d => { d with arm := .free, cylinder := 0 })
      = Ctx.of (s.withDrive v (s.drive v).probed) := rfl
  have at1 : (Ctx.of (s.withDrive v (s.drive v).probed)).drive v = (s.drive v).probed := s.withDrive_drive v _
  have at2 : (Ctx.of (s.withDrive v ((s.drive v).probed.load s.g wp ts))).drive v = (s.drive v).probed.load s.g wp ts :=
    s.withDrive_drive v _
  unfold Ctx.probeSettle Ctx.mediaLoad
  dsimp only
  rw [probed, s.withDrive_modDrive, at1]
  change (if (s.drive v).lines.ready then if ((Ctx.of (s.withDrive v ((s.drive v).probed.load s.g wp ts))).drive v).lines.driveFault
    then _ else _ else _) = _
  rw [at2]
  rfl

theorem exec_probeSettled {x : Word} {wp ts : Bool} (ha : (s.drive v).arm = .probeSettle x) (hr : reached s.g x = true) :
    exec (.probeSettled v wp ts) s = ((Ctx.of s).probeSettle v wp ts).startCheck.next := by
  change execProbeSettled v wp ts s = _
  unfold execProbeSettled
  rw [ha]
  exact if_pos hr

/-- The end of a command that settled a probe, at its drive. -/
theorem probeSettled_drive {x : Word} {wp ts : Bool} (ha : (s.drive v).arm = .probeSettle x) (hr : reached s.g x = true) :
    ∃ t, exec (.probeSettled v wp ts) s = .next t
      ∧ (t.drive v).cylinder = 0 ∧ (t.drive v).arm = .free
      ∧ ((s.drive v).lines.ready = false → (t.drive v).state = .empty ∧ (t.drive v).cause = .none
          ∧ (t.drive v).generation = (s.drive v).generation)
      ∧ ((s.drive v).lines.ready = true → (t.drive v).generation = (s.drive v).generation + 1 ∧ (t.drive v).writeProtect = wp
          ∧ (t.drive v).headCount = (if ts then 2 else 1)
          ∧ ((s.drive v).lines.driveFault = false → (t.drive v).state = .spinup)
          ∧ ((s.drive v).lines.driveFault = true → (t.drive v).state = .fault ∧ (t.drive v).cause = .drive)) := by
  have at1 : (Ctx.of (s.withDrive v (s.drive v).probed)).drive v = (s.drive v).probed := s.withDrive_drive v _
  have at2 : (Ctx.of (s.withDrive v ((s.drive v).probed.load s.g wp ts))).drive v = (s.drive v).probed.load s.g wp ts :=
    s.withDrive_drive v _
  refine ⟨_, exec_probeSettled ha hr, ?_⟩
  rw [Ctx.probeSettle_eq]
  cases ready : (s.drive v).lines.ready
  · have set := (Ctx.of (s.withDrive v (s.drive v).probed)).setDriveState_entering v .empty .none
    have cleared := Ctx.setDriveState_cleared v .empty .none (Ctx.of_cleared (s.withDrive v (s.drive v).probed))
    rw [if_neg Bool.false_ne_true]
    rw [at1] at set
    generalize (Ctx.of (s.withDrive v (s.drive v).probed)).setDriveState v .empty .none = c at set cleared ⊢
    have final := c.started_down (v := v) (fun k => by rw [set]; cases k <;> rfl) cleared
    generalize c.startCheck.finish.drive v = d at final ⊢
    rw [set] at final
    rw [final]
    exact ⟨rfl, rfl, fun _ => ⟨rfl, rfl, rfl⟩, nofun⟩
  · rw [if_pos rfl]
    cases fault : (s.drive v).lines.driveFault
    · have set := (Ctx.of (s.withDrive v ((s.drive v).probed.load s.g wp ts))).setDriveState_entering v .spinup .none
      have cleared := Ctx.setDriveState_cleared v .spinup .none
        (Ctx.of_cleared (s.withDrive v ((s.drive v).probed.load s.g wp ts)))
      rw [if_neg Bool.false_ne_true]
      rw [at2] at set
      generalize (Ctx.of (s.withDrive v ((s.drive v).probed.load s.g wp ts))).setDriveState v .spinup .none = c at set cleared ⊢
      have final := c.started_down (v := v) (fun k => by rw [set]; cases k <;> rfl) cleared
      generalize c.startCheck.finish.drive v = d at final ⊢
      rw [set] at final
      rw [final]
      exact ⟨rfl, rfl, nofun, fun _ => ⟨rfl, rfl, rfl, fun _ => rfl, nofun⟩⟩
    · obtain ⟨⟨d, hd, set⟩, cleared⟩ := (Ctx.of (s.withDrive v ((s.drive v).probed.load s.g wp ts))).faultEntry_drive v .drive
      have cleared := cleared (Ctx.of_cleared _)
      rw [at2] at hd
      rw [if_pos rfl]
      generalize (Ctx.of (s.withDrive v ((s.drive v).probed.load s.g wp ts))).faultEntry v .drive = c at set cleared ⊢
      have final := c.started_down (v := v) (fun k => by rw [set]; cases k <;> rfl) cleared
      generalize c.startCheck.finish.drive v = t at final ⊢
      rw [set] at final
      rw [final]
      obtain rfl | rfl := hd
      · exact ⟨rfl, rfl, nofun, fun _ => ⟨rfl, rfl, rfl, nofun, fun _ => ⟨rfl, rfl⟩⟩⟩
      · exact ⟨rfl, rfl, nofun, fun _ => ⟨rfl, rfl, rfl, nofun, fun _ => ⟨rfl, rfl⟩⟩⟩

/-- In STARTING a settled probe, but one under DRIVE FAULT, changes its drive alone. -/
theorem Ctx.probeSettle_silent {wp ts : Bool} (hc : s.ctl = .starting) :
    ((s.drive v).lines.ready = false →
      ((Ctx.of s).probeSettle v wp ts).toState = s.withDrive v ((s.drive v).probed.entering .empty .none))
    ∧ ((s.drive v).lines.ready = true → (s.drive v).lines.driveFault = false →
      ((Ctx.of s).probeSettle v wp ts).toState = s.withDrive v (((s.drive v).probed.load s.g wp ts).entering .spinup .none)) := by
  have silent (d : Drive) : (Ctx.of (s.withDrive v d)).ctl.tableWrites = false := by
    rw [show (Ctx.of (s.withDrive v d)).ctl = s.ctl from rfl, hc]
    rfl
  rw [Ctx.probeSettle_eq]
  refine ⟨fun hr => ?_, fun hr hf => ?_⟩
  · rw [hr, if_neg Bool.false_ne_true, Ctx.setDriveState_silent _ v _ _ (silent _), s.withDrive_modDrive]
    rfl
  · rw [hr, hf, if_pos rfl, if_neg Bool.false_ne_true, Ctx.setDriveState_silent _ v _ _ (silent _), s.withDrive_modDrive]
    rfl

end Settles

/-! #### Profile reads that begin no probe -/

section Profiles
variable {c : Ctx} {s : State} {v : DriveNo} {r : DmaRead} {rest : List ReadPurpose} {tz : Bool}

/-- The drive holds a profile that says enabled. -/
def Drive.isEnabled (d : Drive) : Prop := ∃ p, d.profile = some p ∧ p.enabled = true

theorem Drive.profileOrZero_enabled (d : Drive) : d.profileOrZero.enabled = true ↔ d.isEnabled := by
  unfold Drive.profileOrZero Drive.isEnabled
  cases d.profile <;> simp

/-- A start has nothing to do at an enabled drive that answered before, and at a profile kept at a bus error that says
disabled. -/
theorem Ctx.startProfile_same (fresh : Bool)
    (h : ((c.drive v).isEnabled ∧ (c.drive v).state ≠ .absent) ∨ (¬ (c.drive v).isEnabled ∧ fresh = false)) :
    c.startProfile v fresh = c := by
  obtain ⟨⟨p, hp, he⟩, hs⟩ | ⟨off, rfl⟩ := h
  · rw [Ctx.startProfile_enabled hp he, if_neg fun h => hs h.1]
  · cases hp : (c.drive v).profile with
    | none => exact Ctx.startProfile_none hp false
    | some p =>
      refine Ctx.startProfile_stale hp ?_
      by_contra he
      exact off ⟨p, hp, by simpa using he⟩

/-- A drive that its profile disables and that has nothing to give up. -/
def Drive.disabled (d : Drive) : Drive :=
  { d with arm := if d.state = .absent then d.arm else .free, state := .absent, cause := .none }

/-- A disabled drive that is ABSENT or EMPTY gives its arm up at most. -/
theorem Ctx.startProfile_disabling {p : Profile} {d : Drive} (hp : d.profile = some p) (hd : p.enabled = false)
    (hs : d.state = .absent ∨ d.state = .empty) (hc : s.ctl = .starting) :
    ((Ctx.of (s.withDrive v d)).startProfile v true).toState = s.withDrive v d.disabled := by
  have at1 : (Ctx.of (s.withDrive v d)).drive v = d := s.withDrive_drive v d
  have disabling : (Ctx.of (s.withDrive v d)).disabling v
      = Ctx.of (s.withDrive v { d with arm := if d.state = .absent then d.arm else .free }) := by
    rw [Ctx.disabling, at1, if_pos hs, s.withDrive_modDrive]
  rw [Ctx.startProfile_disabled (by rw [at1]; exact hp) hd, disabling,
    Ctx.setDriveState_silent _ v _ _ (by rw [show (Ctx.of (s.withDrive v _)).ctl = s.ctl from rfl, hc]; rfl),
    s.withDrive_modDrive]
  rfl

end Profiles

/-- Settles O28, by the steps of a probe, its settle, and what a start makes of each end. -/
theorem probes : Obligations.Probes := by
  unfold Obligations.Probes
  intro v tz wp ts r s d d1 due outward answers fails loads starts
  have begins {i : Instr} {d' : Drive}
      (run : ∀ h, s.ctl = .starting → s.start = .probing h →
        ∃ c : Ctx, exec i s = c.startCheck.next ∧ c.toState = s.withDrive v d') :
      starts i (s.withDrive v d') := fun h ctl start => by
    obtain ⟨c, run, hc⟩ := run h ctl start
    have begun := Ctx.startCheck_starts hc ctl start
    exact ⟨_, run, begun.waits, begun.stops, begun.runs⟩
  refine ⟨fun phase n x ha hr => ?_, fun ha => ?_, fun phase n x ha hr hs => ?_, fun hx => ?_, fun x ha hr => ?_,
    fun x ha hr hs => ⟨fun hl => ?_, fun hl hf => ?_⟩, fun purpose rest hr hp hb hs => ?_⟩
  · change execProbeStepDone v tz s = _
    unfold execProbeStepDone
    rw [show (s.drive v).arm = _ from ha]
    exact if_neg (by rw [hr]; simp)
  · change execProbeStepDone v tz s = _
    unfold execProbeStepDone
    split
    · next phase n x h => exact absurd h (ha phase n x)
    · rfl
  · have run := exec_probeStepDone (tz := tz) ha hr
    refine ⟨?_, ?_, ?_, ?_, ?_, ?_, ?_⟩
    · rintro rfl
      rw [run]
      exact hs.probes (.inl (by simp [Drive.probing, Drive.probeStepped, Drive.probesOn]))
    · rintro rfl rfl
      rw [run]
      exact hs.probes (.inl (by simp [Drive.probing, Drive.probeStepped]))
    · rintro rfl rfl
      rw [run]
      exact hs.probes (.inl (by simp [Drive.probing, Drive.probeStepped]))
    · rintro rfl rfl hn
      have stepped : d.probeStepped .outward n false (s.stepDue v) (s.settleDue v) = d.probesOn .outward n (s.stepDue v) :=
        if_pos hn
      rw [run, stepped]
      exact hs.probes (.inl (by simp [Drive.probing, Drive.probesOn]))
    · rintro rfl rfl hn hc
      have stepped : d.probeStepped .outward n false (s.stepDue v) (s.settleDue v) = { d1 with arm := .free } :=
        if_neg (Nat.not_lt.mpr hn)
      rw [run, stepped]
      exact hs.probes (.inr hc)
    · intro hphase hc
      have stepped : d.probeStepped phase n tz (s.stepDue v) (s.settleDue v) = { d1 with arm := .free } := by
        obtain rfl | ⟨rfl, rfl⟩ := hphase <;> rfl
      rw [run, stepped]
      exact hs.probes (.inr hc)
    · intro hphase
      have stepped : d.probeStepped phase n tz (s.stepDue v) (s.settleDue v) = { d1 with arm := .free } := by
        obtain rfl | ⟨rfl, rfl⟩ | ⟨rfl, rfl, hn⟩ := hphase
        · rfl
        · rfl
        · exact if_neg (Nat.not_lt.mpr hn)
      exact begins fun _ _ _ => ⟨_, run, by rw [stepped]; rfl⟩
  · change execProbeSettled v wp ts s = _
    unfold execProbeSettled
    split
    · next x h => exact if_neg (by rw [hx x h]; simp)
    · rfl
  · exact probeSettled_drive ha hr
  · exact begins fun _ ctl _ => ⟨_, exec_probeSettled ha hr, (Ctx.probeSettle_silent ctl).1 hl⟩
  · exact begins fun _ ctl _ => ⟨_, exec_probeSettled ha hr, (Ctx.probeSettle_silent ctl).2 hl hf⟩
  · intro held d2 enabled
    have held_eq : held = profileAfter r d.profile := by
      cases r with
      | busError => rfl
      | data b => exact congrArg some (profileOf_eq b).symm
    clear_value held
    subst held_eq
    have at1 : (Ctx.of (s.profiled v r rest)).drive v = d2 := State.profiled_drive
    have run {i : Ctx} {d' : Drive} (read : (Ctx.of s).profileRead v r tz = i.startCheck) (hi : i.toState = s.withDrive v d') :
        ∃ c : Ctx, exec (.profileReadDone v r tz) s = c.startCheck.next ∧ c.toState = s.withDrive v d' :=
      ⟨i, by rw [exec_profileReadDone hr hb, read], hi⟩
    have off {b : List Byte} (hb : r = .data b) (hn : ¬ enabled) : (profileOf b).enabled = false := by
      by_contra he
      exact hn ⟨profileOf b, by rw [hb]; rfl, by simpa using he⟩
    have stands (h : (enabled ∧ d.state ≠ .absent) ∨ (¬ enabled ∧ givesData r = false)) :
        ((Ctx.of (s.profiled v r rest)).startProfile v (givesData r)).toState = s.withDrive v d2 := by
      rw [Ctx.startProfile_same _ (by rw [at1]; exact h)]
      rfl
    have disabling {b : List Byte} (hb : r = .data b) (hn : ¬ enabled) (hst : d.state = .absent ∨ d.state = .empty)
        (ctl : s.ctl = .starting) :
        ((Ctx.of (s.profiled v r rest)).startProfile v (givesData r)).toState = s.withDrive v d2.disabled := by
      subst hb
      exact Ctx.startProfile_disabling (d := d2) rfl (off rfl hn) hst ctl
    refine ⟨fun hst he => begins fun h ctl start => ?_, fun hst he hcause => begins fun h ctl start => ?_,
      fun hst hpurpose hdata he => begins fun h ctl start => ?_⟩
    · cases purpose with
      | load => exact absurd rfl hp
      | start =>
        refine run (Ctx.profileRead_start hr ctl start) (stands ?_)
        by_cases hen : enabled
        · exact .inl ⟨hen, hst⟩
        · obtain he | rfl | he := he
          · exact absurd he hen
          · exact .inr ⟨hen, rfl⟩
          · cases he
      | probe => exact run ((Ctx.profileRead_probe hr).2 fun hprobe => hst hprobe.2.1) rfl
    · cases purpose with
      | load => exact absurd rfl hp
      | start =>
        cases r with
        | busError => exact run (Ctx.profileRead_start hr ctl start) (stands (.inr ⟨he, rfl⟩))
        | data b =>
          have none : d.cause = .none := by
            obtain h | h | h := hcause
            · exact h
            · cases h
            · cases h
          have same : d2.disabled = d2 := by
            rw [Drive.disabled, if_pos (show d2.state = .absent from hst), ← hst, ← none]
          refine run (Ctx.profileRead_start hr ctl start) ?_
          rw [disabling rfl he (.inl hst) ctl, same]
      | probe => exact run ((Ctx.profileRead_probe hr).2 fun hprobe => he (d2.profileOrZero_enabled.mp hprobe.1)) rfl
    · subst hpurpose
      obtain ⟨b, hdata⟩ := hdata
      refine run (Ctx.profileRead_start hr ctl start) ?_
      rw [disabling hdata he (.inr hst) ctl, Drive.disabled, if_neg (by rw [show d2.state = d.state from rfl, hst]; simp)]

end Sys2Proof.Machine

-- ==== Sys2Proof/Proofs/Homes.lean ====
namespace Sys2Proof.Machine

open Sys2Proof

/-! ### Where the arm stands over the picks of a command (R13, R14, R100) -/

/-- The job of a scheduler, if it holds one, is discovery's on cylinder 0. -/
def Sched.JobAtZero (x : Sched) : Prop := ∀ j, x.job = some j → j.kind = .discover ∧ j.cylinder = 0

/-- Where no frame is held for a drive and its job is at cylinder 0, all it serves is there. -/
theorem State.served_atZero {s : State} {v : DriveNo} (frames : ∀ f, (s.frame f).held = true → (s.frame f).key.drive ≠ v)
    (job : (s.drive v).sched.JobAtZero) : ∀ x ∈ s.served v, x.place.cylinder = 0 ∧ x.kind = .discover := by
  have none : s.framesOf v = [] := by
    refine List.filter_eq_nil_iff.mpr fun fr hfr => ?_
    obtain ⟨i, hi, rfl⟩ := Vector.mem_iff_getElem.mp (Vector.mem_toList_iff.mp hfr)
    intro hh
    simp only [Bool.and_eq_true, beq_iff_eq] at hh
    exact frames ⟨i, hi⟩ hh.1 hh.2
  intro x hx
  have cand := List.mem_of_mem_filter hx
  rw [State.cands, none, List.map_nil, List.flatten_nil, List.nil_append] at cand
  split at cand
  · next j hj =>
    split at cand
    · cases cand
    · rw [List.mem_singleton.mp cand]
      exact ⟨(job j hj).2, (job j hj).1⟩
  · cases cand

/-- The arm of the drive stands free at cylinder 0, or moves. -/
def Drive.HomeIfFree (d : Drive) : Prop := d.arm = .free → d.cylinder = 0

/-- The arm of the drive stands free at cylinder 0. -/
def Drive.Home (d : Drive) : Prop := d.arm = .free ∧ d.cylinder = 0

section Homes
variable {c c' : Ctx} {ps : List PortNo} {v : DriveNo}

theorem Ctx.startSeek_home (c : Ctx) (v : DriveNo) (n : Nat) (b : Bool) (h : (c.drive v).cylinder = 0) :
    ((c.startSeek v n b).drive v).HomeIfFree := by
  unfold Ctx.startSeek
  dsimp only
  split
  · intro _
    rw [Ctx.modDrive, Ctx.setDrive_drive_self]
    exact h
  · intro hf
    rw [Ctx.setDrive_drive_self] at hf
    cases hf

theorem Ctx.recalJobDone_arm (c : Ctx) (v : DriveNo) :
    ((c.recalJobDone v).drive v).arm = (c.drive v).arm ∧ ((c.recalJobDone v).drive v).cylinder = (c.drive v).cylinder := by
  have ended := ((c.modChan (portOf v) fun h => h.setOwed v false).jobEnded_jobs v).drive
  unfold Ctx.recalJobDone
  split
  · split
    · dsimp only
      generalize (c.modChan (portOf v) fun h => h.setOwed v false).jobEnded v = c2 at ended ⊢
      have same : (c2.drive v).arm = (c.drive v).arm ∧ (c2.drive v).cylinder = (c.drive v).cylinder := by
        rw [ended]; exact ⟨rfl, rfl⟩
      have quiet : ((c2.modSched v fun x => { x with state := .quiet }).drive v).arm = (c2.drive v).arm
          ∧ ((c2.modSched v fun x => { x with state := .quiet }).drive v).cylinder = (c2.drive v).cylinder := by
        rw [Ctx.modSched, Ctx.modDrive, Ctx.setDrive_drive_self]
        exact ⟨rfl, rfl⟩
      split
      · split
        · exact ⟨quiet.1.trans same.1, quiet.2.trans same.2⟩
        · rw [Ctx.flagPick_drive]
          exact ⟨quiet.1.trans same.1, quiet.2.trans same.2⟩
      · exact same
    · exact ⟨rfl, rfl⟩
  · exact ⟨rfl, rfl⟩

theorem Ctx.startRecal_home (c : Ctx) (v : DriveNo) (n : Nat) : ((c.startRecal v (some n)).drive v).HomeIfFree := by
  unfold Ctx.startRecal
  dsimp only
  split
  · have zeroed : ((c.count v .recal).modDrive v fun d => { d with cylinder := 0, arm := .free }).drive v
        = { (c.count v .recal).drive v with cylinder := 0, arm := .free } := Ctx.setDrive_drive_self ..
    unfold Ctx.recalSucceeded
    dsimp only
    split
    · intro _
      rw [(Ctx.recalJobDone_arm _ v).2, zeroed]
    · exact Ctx.startSeek_home _ v n true (by rw [zeroed])
  · intro hf
    rw [Ctx.setDrive_drive_self] at hf
    cases hf

/-- What a drive's arm and cylinder show stands over all release rounds and picks where a seek and a recalibration keep it. -/
theorem Picked.arm {R : Drive → Prop} (hR : ∀ d d' : Drive, d'.arm = d.arm → d'.cylinder = d.cylinder → R d → R d')
    (recal : ∀ c1 : Ctx, Picked ps c c1 → (∃ x ∈ c1.served v, x.kind = .recal) → R ((c1.recalPick v).drive v))
    (move : ∀ (c1 : Ctx) x, Picked ps c c1 → R (c1.drive v) → x ∈ c1.served v → x.place.cylinder ≠ (c1.drive v).cylinder →
      (c1.drive v).arm = .free → R ((c1.movePick v x).drive v))
    (h : Picked ps c c') (h0 : R (c.drive v)) : R (c'.drive v) := by
  have step {c1 c2 : Ctx} {w : DriveNo} (a : c1.AtPick w c2) (ih : R (c1.drive v))
      (here : w = v → R (c2.drive v)) : R (c2.drive v) := by
    by_cases hw : v = w
    · exact here hw.symm
    · rw [a.others v hw]; exact ih
  have granted {c1 : Ctx} (p : PortNo) (r : Request) (ih : R (c1.drive v)) : R ((c1.grant p r).drive v) := by
    rw [Ctx.grant_drive]
    split
    · exact hR (c1.drive v) _ rfl rfl ih
    · exact ih
  have sched {c1 : Ctx} (w : DriveNo) (k : Sched → Sched) (ih : R (c1.drive v)) : R ((c1.modSched w k).drive v) := by
    rw [Ctx.modSched, Ctx.modDrive, Ctx.setDrive_drive]
    split
    · next h => subst h; exact hR (c1.drive v) _ rfl rfl ih
    · exact ih
  induction h with
  | refl => exact h0
  | lists _ _ _ ih => exact ih
  | quiet w _ ih => exact sched w _ ih
  | recal w h1 hr _ ih =>
    refine step (Ctx.recalPick_atPick _ w) ih ?_
    rintro rfl
    exact recal _ h1 hr
  | move w x h1 hx hcyl harm ih =>
    refine step (Ctx.movePick_atPick _ w x) ih ?_
    rintro rfl
    exact move _ x h1 ih hx hcyl harm
  | @file c1 w x a r _ _ _ _ ih =>
    have filed := step (Ctx.filePick_atPick _ w x a) ih (by
      rintro rfl
      rw [Ctx.filePick_drive]
      exact hR (c1.drive w) _ rfl rfl ih)
    have asked := sched r.drive (fun x => { x with state := .filed }) filed
    unfold Ctx.fileRequest
    dsimp only
    split
    · exact granted _ r asked
    · exact asked
  | close p _ _ ih => exact ih
  | grant p r _ _ _ ih => exact granted p r ih

/-- An arm at cylinder 0 is there still, or moves, after all release rounds and picks. -/
theorem Picked.homeIfFree (h : Picked ps c c') (h0 : (c.drive v).HomeIfFree) : (c'.drive v).HomeIfFree := by
  refine h.arm (R := Drive.HomeIfFree) (fun d d' harm hcyl hd hf => hcyl.trans (hd (harm.symm.trans hf)))
    (fun c1 _ _ => Ctx.startRecal_home _ _ _) (fun c1 x _ ih _ _ harm => ?_) h0
  unfold Ctx.movePick
  dsimp only
  refine Ctx.startSeek_home _ v _ _ ?_
  rw [Ctx.loadIfUnloaded_drive]
  simpa [Ctx.leaveQuiet, Ctx.modSched, Ctx.modDrive] using ih harm

/-- An arm at cylinder 0 stays there where all the work is. -/
theorem Picked.home (h : Picked ps c c') (frames : ∀ f, (c.frame f).held = true → (c.frame f).key.drive ≠ v)
    (job : (c.drive v).sched.JobAtZero) (h0 : (c.drive v).Home) : (c'.drive v).Home := by
  have served {c1 : Ctx} (h1 : Picked ps c c1) : ∀ x ∈ c1.served v, x.place.cylinder = 0 ∧ x.kind = .discover := by
    have store : c1.frames = c.frames := congrArg StoreView.frames h1.store
    have same := h1.sameJob (v := v) fun j hj => by rw [(job j hj).1]; simp
    refine State.served_atZero (fun f => ?_) fun j hj => ?_
    · rw [State.frame, store]
      exact frames f
    · obtain ⟨h | h, _⟩ := same
      · exact job j (h ▸ hj)
      · rw [h] at hj
        obtain ⟨j', hj', rfl⟩ := Option.map_eq_some_iff.mp hj
        exact job j' hj'
  refine h.arm (R := Drive.Home) (fun d d' harm hcyl hd => ⟨harm.trans hd.1, hcyl.trans hd.2⟩) (fun c1 h1 hr => ?_)
    (fun c1 x h1 ih hx hcyl _ => absurd ((served h1 x hx).1.trans ih.2.symm) hcyl) h0
  obtain ⟨x, hx, hk⟩ := hr
  rw [(served h1 x hx).2] at hk
  cases hk

/-- To the end of the command. -/
theorem Ctx.finish_homeIfFree (c : Ctx) (h : (c.drive v).HomeIfFree) : (c.finish.drive v).HomeIfFree := by
  refine c.finish_picked.homeIfFree ?_
  rw [(c.tested_drive v).1]
  exact h

theorem Ctx.finish_home (c : Ctx) (frames : ∀ f, (c.cascade.frame f).held = true → (c.cascade.frame f).key.drive ≠ v)
    (job : (c.drive v).sched.JobAtZero) (h : (c.drive v).Home) : (c.finish.drive v).Home := by
  have turned := c.cascade.testDone_turns
  refine c.finish_picked.home ?_ ?_ ?_
  · have same : c.cascade.testDone.frames = c.cascade.frames := by rw [turned.rest]
    intro f
    rw [State.frame, same]
    exact frames f
  · rw [(c.tested_drive v).1]
    exact job
  · rw [(c.tested_drive v).1]
    exact h

end Homes
end Sys2Proof.Machine

-- ==== Sys2Proof/Proofs/Recalibrating.lean ====
namespace Sys2Proof.Machine

open Sys2Proof

/-! ### RECAL_STEP_DONE and RECAL_SETTLED (R6, R14, R52, R103) -/

section Leaving
variable {c : Ctx} {v : DriveNo}

/-- The job of a drive stands on cylinder 0, and the counters as they were, once it has left RECAL with no job. -/
theorem Ctx.postDiscover_atZero (c : Ctx) (v : DriveNo) (h : (c.drive v).sched.job = none) :
    ((c.postDiscover v).drive v).sched.JobAtZero := by
  unfold Ctx.postDiscover Ctx.postJob
  dsimp only
  split
  · exact fun j hj => by rw [h] at hj; cases hj
  · rw [h]
    dsimp only
    simp [Ctx.modSched, Ctx.raiseMarks, Ctx.modDrive, Sched.JobAtZero]

/-- A change of state leaves the scheduler, the counters, the arm and all that is not the drive's. -/
theorem Ctx.setDriveState_sched (c : Ctx) (v : DriveNo) (st : DriveState) (x : Cause) :
    ((c.setDriveState v st x).drive v).sched = (c.drive v).sched
      ∧ ((c.setDriveState v st x).drive v).health = (c.drive v).health
      ∧ ((c.setDriveState v st x).drive v).state = st := by
  rw [c.setDriveState_entering v st x]
  exact ⟨rfl, rfl, rfl⟩

/-- How a drive that had no job stands when it has left RECAL. -/
structure Ctx.LeftFree (c : Ctx) (v : DriveNo) (c' : Ctx) : Prop where
  job : (c'.drive v).sched.JobAtZero
  counters : (c'.drive v).health.counters = (c.drive v).health.counters
  frames : c'.frames = c.frames
  asleep : (c'.drive v).state = .ready → c'.table = c.table ∧ c'.serve = c.serve

theorem Ctx.leaveRecal_free (hn : (c.drive v).sched.job = none) : c.LeftFree v (c.leaveRecal v) := by
  have set (c : Ctx) (st : DriveState) (x : Cause) (hn : (c.drive v).sched.job = none) : c.LeftFree v (c.setDriveState v st x) := by
    obtain ⟨sched, health, _⟩ := c.setDriveState_sched v st x
    refine ⟨fun j hj => ?_, by rw [health], by rw [Ctx.setDriveState_rest], fun _ => ?_⟩
    · rw [sched, hn] at hj; cases hj
    · rw [Ctx.setDriveState_rest]; exact ⟨rfl, rfl⟩
  have changed (k : Drive → Drive) : (c.modDrive v k).drive v = k (c.drive v) := Ctx.setDrive_drive_self ..
  unfold Ctx.leaveRecal
  dsimp only
  split
  · exact set c _ _ hn
  · split
    · have left := set (c.modDrive v fun d => { d with incomplete := false }) .blank .incomplete (by rw [changed]; exact hn)
      exact ⟨left.job, by rw [left.counters, changed], left.frames, left.asleep⟩
    · have left := set (c.modDrive v fun d => { d with revolution := 1 }) .discovery .none (by rw [changed]; exact hn)
      obtain ⟨sched, _, state⟩ := (c.modDrive v fun d => { d with revolution := 1 }).setDriveState_sched v .discovery .none
      rw [Ctx.enterDiscovery]
      rw [changed] at sched
      generalize (c.modDrive v fun d => { d with revolution := 1 }).setDriveState v .discovery .none = c1 at left sched state ⊢
      have posted := c1.postDiscover_jobs v
      refine ⟨c1.postDiscover_atZero v (by rw [sched]; exact hn), ?_, posted.frames.trans left.frames, fun hs => ?_⟩
      · rw [posted.counters, left.counters, changed]
      · rw [posted.state, state] at hs
        cases hs

/-- A drive that left RECAL with no job and no frame has its arm at cylinder 0 to the end of the command. -/
theorem Ctx.leaveRecal_home (hn : (c.drive v).sched.job = none) (frames : c.NoFrameOf v) (hr : c.readyOrder? = none)
    (hs : c.serve = false) (home : (c.drive v).Home) : ((c.leaveRecal v).finish.drive v).Home := by
  have left := Ctx.leaveRecal_free hn
  have drive := c.leaveRecal_drive v
  generalize c.leaveRecal v = c1 at left drive ⊢
  have frames1 : c1.NoFrameOf v := fun f => by rw [State.frame, left.frames]; exact frames f
  refine c1.finish_home ?_ left.job (by rw [drive]; exact home)
  by_cases hst : (c1.drive v).state = .ready
  · obtain ⟨table, serve⟩ := left.asleep hst
    have ready : c1.readyOrder? = none := by
      refine (State.readyOrder_none_iff _).mpr fun e o ho => (State.readyOrder_none_iff _).mp hr e o ?_
      rwa [State.order?_of_table table e] at ho
    rw [c1.cascade_none ready (serve.trans hs)]
    exact frames1
  · exact (c1.cascade_steps.leaves v).frameless hst frames1

/-! #### The end of a RECAL job (R52, R103) -/

/-- A RECAL job that is complete leaves the job slot free and the channel owed none; nothing is counted. -/
theorem Ctx.recalJobDone_done {j : Job} (hj : (c.drive v).sched.job = some j) (hk : j.kind = .recal) (hr : j.running = true)
    (hd : (c.drive v).state ≠ .discovery) :
    ((c.recalJobDone v).drive v).sched.job = none
      ∧ ((c.recalJobDone v).drive v).health.counters = (c.drive v).health.counters
      ∧ ((c.recalJobDone v).chan (portOf v)).owed v = false := by
  have owed : ((c.modChan (portOf v) fun h => h.setOwed v false).chan (portOf v)).owed v = false := by
    rw [Ctx.modChan, Ctx.setChan_chan_self, Channel.owed, Channel.setOwed]
    cases hl : isLow v <;> simp
  have ended := (c.modChan (portOf v) fun h => h.setOwed v false).jobEnded_drive v fun _ => hd
  have channels : ((c.modChan (portOf v) fun h => h.setOwed v false).jobEnded v).chan (portOf v)
      = (c.modChan (portOf v) fun h => h.setOwed v false).chan (portOf v) :=
    State.chan_of_channels (Ctx.jobEnded_jobs _ v).channels _
  rw [← channels] at owed
  have same : (c.modChan (portOf v) fun h => h.setOwed v false).drive v = c.drive v := rfl
  rw [same] at ended
  unfold Ctx.recalJobDone
  rw [hj]
  dsimp only
  rw [if_pos ⟨hk, hr⟩]
  generalize (c.modChan (portOf v) fun h => h.setOwed v false).jobEnded v = c2 at ended owed ⊢
  have quiet : (c2.modSched v fun x => { x with state := .quiet }).drive v
      = { c2.drive v with sched := { (c2.drive v).sched with state := .quiet } } := Ctx.setDrive_drive_self ..
  split
  · split
    · rw [quiet, ended]
      exact ⟨rfl, rfl, owed⟩
    · rw [Ctx.flagPick_drive, quiet, ended, Ctx.flagPick_eq]
      exact ⟨rfl, rfl, owed⟩
  · rw [ended]
    exact ⟨rfl, rfl, owed⟩

/-- What stands of it to the end of the command. -/
theorem Ctx.finish_jobDone (job : (c.drive v).sched.job = none) (owed : (c.chan (portOf v)).owed v = false) :
    (c.finish.drive v).sched.job = none ∧ (c.finish.chan (portOf v)).owed v = false
      ∧ (c.finish.drive v).health.counters = (c.drive v).health.counters := by
  have same := c.finish_sameJob (v := v) fun j hj => by rw [job] at hj; cases hj
  exact ⟨same.none job, c.finish_owed owed, same.2.2⟩

end Leaving

/-! #### The commands -/

/-- The count of recalibrations, saturating (R175). -/
theorem Health.count_recal (h : Health) : (h.count .recal).counters[7]
    = (if h.counters[7] = 0xFFFF then (0xFFFF : Half) else h.counters[7] + 1) := by
  unfold Health.count
  dsimp only
  split
  · next hx =>
    have full : h.counters[7] = 0xFFFF := hx
    exact full.trans (if_pos full).symm
  · next hx =>
    have more : h.counters[7] ≠ 0xFFFF := hx
    exact (Vector.getElem_set_self ..).trans (if_neg more).symm

theorem Health.count_snapshot (h : Health) (k : Counter) : (h.count k).snapshot = h.snapshot := by
  unfold Health.count
  dsimp only
  split <;> rfl

section Commands
variable {s : State} {v : DriveNo} {x : Word}

theorem exec_recalStepDone {n : Nat} {b : Option Nat} {tz : Bool} (ha : (s.drive v).arm = .recal n x b)
    (hr : reached s.g x = true) : exec (.recalStepDone v tz) s = ((Ctx.of s).recalStep v n b tz).next := by
  change execRecalStepDone v tz s = _
  unfold execRecalStepDone
  rw [ha]
  exact if_pos hr

/-- A recalibration of a RECAL job that succeeded, before what it goes on with. -/
def Ctx.recalZeroed (c : Ctx) (v : DriveNo) : Ctx :=
  (c.count v .recal).modDrive v fun d => { d with cylinder := 0, arm := .free }

theorem Ctx.recalZeroed_drive (c : Ctx) (v : DriveNo) : (c.recalZeroed v).drive v
    = { c.drive v with cylinder := 0, arm := .free, health := (c.drive v).health.count .recal } := by
  have at0 : (c.count v .recal).drive v = { c.drive v with health := (c.drive v).health.count .recal } :=
    Ctx.setDrive_drive_self ..
  rw [Ctx.recalZeroed, Ctx.modDrive, Ctx.setDrive_drive_self, at0]

theorem Ctx.recalSucceeded_some (c : Ctx) (v : DriveNo) (b : Nat) : c.recalSucceeded v (some b) =
    if b = 0 then (c.recalZeroed v).recalJobDone v else (c.recalZeroed v).startSeek v b true := rfl

/-- A drive at cylinder 0 that seeks back from there. -/
def Drive.seeksBack (d : Drive) (b : Nat) (due : Word) : Drive := { d with
  cylinder := b
  lines := { d.lines with inward := true, steps := d.lines.steps + 1, trackZero := none }
  arm := .seek (b - 1) due true }

theorem Ctx.startSeek_back {d : Drive} {b : Nat} (h0 : d.cylinder = 0) (hb : b ≠ 0) :
    (Ctx.of (s.withDrive v d)).startSeek v b true
      = Ctx.of (s.withDrive v (d.seeksBack b (later s.g (ms d.profileOrZero.stepMs)))) := by
  have at1 : (Ctx.of (s.withDrive v d)).drive v = d := s.withDrive_drive v d
  unfold Ctx.startSeek
  dsimp only
  rw [State.stepDue, at1, h0, if_neg (by omega), decide_eq_true (Nat.pos_of_ne_zero hb), Nat.sub_zero, Nat.zero_sub, Nat.add_zero]
  exact congrArg Ctx.of (s.withDrive_withDrive v _ _)

/-- A drive whose recalibration succeeded. -/
def Drive.zeroed (d : Drive) : Drive := { d with cylinder := 0, arm := .free, health := d.health.count .recal }

theorem Ctx.recalZeroed_of : (Ctx.of s).recalZeroed v = Ctx.of (s.withDrive v (s.drive v).zeroed) := by
  rw [Ctx.recalZeroed, Ctx.count, Ctx.of_modDrive, s.withDrive_modDrive]
  rfl

theorem exec_recalSettled {b : Option Nat} (ha : (s.drive v).arm = .recalSettle x b) (hr : reached s.g x = true) :
    exec (.recalSettled v) s = ((Ctx.of s).recalSucceeded v b).next := by
  change execRecalSettled v s = _
  unfold execRecalSettled
  rw [ha]
  exact if_pos hr

/-- A recalibration that has given its last pulse in vain. -/
def Ctx.recalFailed (s : State) (v : DriveNo) : Ctx :=
  (Ctx.of (s.withDrive v { (s.drive v).saw false with arm := .free })).count v .recal

theorem Ctx.recalStep_eq (n : Nat) (b : Option Nat) (tz : Bool) : (Ctx.of s).recalStep v n b tz =
    if tz then Ctx.of (s.withDrive v { (s.drive v).saw tz with arm := .recalSettle (s.settleDue v) b })
    else if n < pulseLimit then Ctx.of (s.withDrive v { (s.drive v).saw tz with
      lines := ((s.drive v).saw tz).lines.pulse false, arm := .recal (n + 1) (s.stepDue v) b })
    else (Ctx.recalFailed s v).faultEntry v .seek := by
  have saw : ((Ctx.of s).modDrive v fun d => { d with lines := { d.lines with trackZero := some tz } })
      = Ctx.of (s.withDrive v ((s.drive v).saw tz)) := rfl
  unfold Ctx.recalStep
  dsimp only
  rw [saw]
  simp only [State.withDrive_modDrive]
  cases tz <;> rfl

theorem Ctx.recalFailed_drive : (Ctx.recalFailed s v).drive v
    = { (s.drive v).saw false with arm := .free, health := (s.drive v).health.count .recal } := by
  rw [Ctx.recalFailed, Ctx.count, s.withDrive_modDrive]
  exact s.withDrive_drive v _

/-- A recalibration of bring-up that succeeded. -/
theorem recalSettled_bringUp (ha : (s.drive v).arm = .recalSettle x none) (hr : reached s.g x = true)
    (hst : (s.drive v).state = .recal) :
    ∃ t, exec (.recalSettled v) s = .next t
      ∧ ((s.drive v).sched.job = none → (t.drive v).health.counters[7] =
          (if (s.drive v).health.counters[7] = 0xFFFF then (0xFFFF : Half) else (s.drive v).health.counters[7] + 1))
      ∧ (t.chan (portOf v)).owed v = false
      ∧ (s.still → ((t.drive v).arm = .free → (t.drive v).cylinder = 0)
        ∧ ((s.drive v).sched.job = none → (∀ f, (s.frame f).held = true → (s.frame f).key.drive ≠ v) →
            (t.drive v).arm = .free ∧ (t.drive v).cylinder = 0))
      ∧ ((s.drive v).layoutKnown = true → (t.drive v).state = .ready ∧ (t.drive v).cause = .none
          ∧ s.recordsChange t v { s.drive v with state := .ready, cause := .none, cylinder := 0 } (s.strandedCount v) true)
      ∧ ((s.drive v).layoutKnown = false → (s.drive v).incomplete = true →
          (t.drive v).state = .blank ∧ (t.drive v).cause = .incomplete)
      ∧ ((s.drive v).layoutKnown = false → (s.drive v).incomplete = false →
          (t.drive v).state = .discovery ∧ (t.drive v).cause = .none ∧ (t.drive v).revolution = 1) := by
  have at1 := (Ctx.of s).recalled_drive v
  change _ = { s.drive v with cylinder := 0, arm := .free, health := (s.drive v).health.count .recal } at at1
  have owed := (Ctx.of s).recalled_owed v
  have frames : ((Ctx.of s).recalled v).frames = s.frames := rfl
  have ready (hs : s.still) : ((Ctx.of s).recalled v).readyOrder? = none := hs.2
  have serve : ((Ctx.of s).recalled v).serve = false := rfl
  have stranded : ((Ctx.of s).recalled v).strandedCount v = s.strandedCount v := rfl
  have ctl : ((Ctx.of s).recalled v).ctl = s.ctl := rfl
  have base : ((Ctx.of s).recalled v).runBase = s.runBase := rfl
  have run : exec (.recalSettled v) s = (((Ctx.of s).recalled v).leaveRecal v).next := by
    rw [exec_recalSettled ha hr, Ctx.recalSucceeded_none hst]
  generalize (Ctx.of s).recalled v = c at at1 owed frames ready serve stranded ctl base run
  have left := Ctx.leaveRecal_finish (c := c) (v := v) (by rw [at1]; exact hst)
  have known := left.known
  have blank := left.blank
  have discovery := left.discovery
  rw [at1] at known blank discovery
  refine ⟨_, run, fun hn => ?_, ?_, fun hs => ⟨?_, fun hn hf => ?_⟩, fun hk => ?_, blank, discovery⟩
  · have free := Ctx.leaveRecal_free (c := c) (v := v) (by rw [at1]; exact hn)
    have same := (c.leaveRecal v).finish_sameJob (v := v) fun j hj => by rw [(free.job j hj).1]; simp
    rw [same.2.2, free.counters, at1]
    exact Health.count_recal _
  · refine Ctx.finish_owed _ ?_
    rw [State.chan_of_channels (c.leaveRecal_channels v)]
    exact owed
  · refine Ctx.finish_homeIfFree _ ?_
    intro _
    rw [c.leaveRecal_drive v, at1]
  · refine Ctx.leaveRecal_home (by rw [at1]; exact hn) (fun f => ?_) (ready hs) serve (by rw [at1]; exact ⟨rfl, rfl⟩)
    rw [State.frame, frames]
    exact hf f
  · have entered := known hk
    have view := entered.view
    rw [at1] at view
    injection view with state cause
    refine ⟨state, cause, entered.records s _ _ true ctl base (by rw [at1]) stranded ?_ ?_⟩
    · rw [at1, hst]; rfl
    · rw [at1]
      exact Drive.recordBytes_eq _ rfl rfl rfl rfl rfl rfl rfl rfl rfl (Health.count_snapshot _ _)

end Commands

/-- Settles O30, by the wait that ends. -/
theorem recalibrations : Obligations.Recalibrations := by
  unfold Obligations.Recalibrations
  intro v tz s d counted
  refine ⟨fun ha => ?_, fun n x b ha hr => ⟨fun htz hs => ?_, fun htz hn hs => ?_, fun htz hn hf => ?_⟩, fun ha => ?_,
    fun x ha hr hst => ?_, fun x b ha hr hb hs => ?_, fun x j ha hr hj hk hrun hd => ?_⟩
  · change execRecalStepDone v tz s = _
    unfold execRecalStepDone
    split
    · next n x b h => exact if_neg (by rw [ha n x b h]; simp)
    · rfl
  · subst htz
    rw [exec_recalStepDone ha hr, Ctx.recalStep_eq, if_pos rfl, Ctx.next, (hs.withDrive v _).finish]
    rfl
  · subst htz
    rw [exec_recalStepDone ha hr, Ctx.recalStep_eq, if_neg Bool.false_ne_true, if_pos (show n < pulseLimit from hn), Ctx.next, (hs.withDrive v _).finish]
    rfl
  · subst htz
    have at1 := Ctx.recalFailed_drive (s := s) (v := v)
    have faulted := (Ctx.recalFailed s v).faultEntry_finish .seek (v := v) (by rw [at1]; exact hf)
      (Ctx.modDrive_cleared _ _ (Ctx.of_cleared _))
    refine ⟨_, by rw [exec_recalStepDone ha hr, Ctx.recalStep_eq, if_neg Bool.false_ne_true, if_neg (show ¬ n < pulseLimit from Nat.not_lt.mpr hn)]; rfl, ?_⟩
    generalize ((Ctx.recalFailed s v).faultEntry v .seek).finish = t at faulted ⊢
    have drive := faulted.drive
    have recals := faulted.recals
    rw [at1] at recals
    refine ⟨by rw [drive]; rfl, by rw [drive]; rfl, by rw [drive, at1]; rfl, recals.trans (Health.count_recal _)⟩
  · change execRecalSettled v s = _
    unfold execRecalSettled
    split
    · next x b h => exact if_neg (by rw [ha x b h]; simp)
    · rfl
  · exact recalSettled_bringUp ha hr hst
  · have run : exec (.recalSettled v) s = .next (s.withDrive v (d.zeroed.seeksBack b (later s.g (ms d.profileOrZero.stepMs)))) := by
      rw [exec_recalSettled ha hr, Ctx.recalSucceeded_some, if_neg hb, Ctx.recalZeroed_of, Ctx.startSeek_back rfl hb, Ctx.next,
        (hs.withDrive v _).finish]
      rfl
    refine ⟨_, run, ?_⟩
    dsimp only [counted]
    rw [s.withDrive_drive]
    exact ⟨Health.count_recal _, rfl⟩
  · have at1 := (Ctx.of s).recalZeroed_drive v
    change _ = { s.drive v with cylinder := 0, arm := .free, health := (s.drive v).health.count .recal } at at1
    have run : exec (.recalSettled v) s = (((Ctx.of s).recalZeroed v).recalJobDone v).next := by
      rw [exec_recalSettled ha hr, Ctx.recalSucceeded_some, if_pos rfl]
    generalize (Ctx.of s).recalZeroed v = c at at1 run
    obtain ⟨job, counters, owed⟩ := Ctx.recalJobDone_done (c := c) (v := v) (j := j) (by rw [at1]; exact hj) hk hrun
      (by rw [at1]; exact hd)
    obtain ⟨job', owed', counters'⟩ := (c.recalJobDone v).finish_jobDone job owed
    refine ⟨_, run, ?_, job', owed'⟩
    change (((c.recalJobDone v).finish.drive v).health.counters)[7] = _
    rw [counters', counters, at1]
    exact Health.count_recal _

end Sys2Proof.Machine

-- ==== Sys2Proof/Proofs/Seeks.lean ====
namespace Sys2Proof.Machine

open Sys2Proof

/-! ### HEAD_LOAD_DONE, SEEK_STEP_DONE and ARM_SETTLED (R12, R13, R99, R100, R106) -/

section Picks
variable {s : State} {v : DriveNo}

/-! #### A pick does not look at the arm -/

theorem State.withDrive_served {d : Drive} (hs : d.state = (s.drive v).state) (hj : d.sched.job = (s.drive v).sched.job) :
    (s.withDrive v d).served v = s.served v :=
  State.served_eq rfl rfl (by rw [s.withDrive_drive]; exact hs) (by rw [s.withDrive_drive]; exact hj)

theorem State.withDrive_pick (a : Arm) (target : Option Place) :
    (s.withDrive v { s.drive v with arm := a }).pick v target = s.pick v target := by
  have at1 := s.withDrive_drive v { s.drive v with arm := a }
  have served : (s.withDrive v { s.drive v with arm := a }).served v = s.served v := State.withDrive_served rfl rfl
  have rank (on : Bool) : (s.withDrive v { s.drive v with arm := a }).rank v on target = s.rank v on target := by
    funext x
    have cost : (s.withDrive v { s.drive v with arm := a }).cost v x = s.cost v x := by
      unfold State.cost
      rw [at1]
      rfl
    unfold State.rank
    rw [cost]
    rfl
  unfold State.pick
  rw [served, at1]
  simp only [rank]
  rfl

/-! #### What a filed pick leaves -/

/-- A pick that is filed changes drives and channels alone. -/
theorem Ctx.filed_rest (c : Ctx) (v : DriveNo) (x : Cand) (b : Bool) (r : Request) :
    (c.filePick v x b).fileRequest r = { c with
      drives := ((c.filePick v x b).fileRequest r).drives, channels := ((c.filePick v x b).fileRequest r).channels } := by
  have loaded : c.filePick v x b = { c with drives := (c.filePick v x b).drives } := by
    have load (c1 : Ctx) : (if (c1.drive v).unloaded then c1.loadRequest v else c1)
        = { c1 with drives := (if (c1.drive v).unloaded then c1.loadRequest v else c1).drives } := by split <;> rfl
    exact load ((c.leaveQuiet v).modSched v fun y => { y with target := if b then some x.place else y.target })
  have asked (c1 : Ctx) : c1.fileRequest r = { c1 with
      drives := (c1.fileRequest r).drives, channels := (c1.fileRequest r).channels } := by
    unfold Ctx.fileRequest
    dsimp only
    split <;> rfl
  have filed := asked (c.filePick v x b)
  generalize (c.filePick v x b).fileRequest r = c2 at filed ⊢
  generalize c.filePick v x b = c1 at loaded filed
  rw [filed, loaded]

/-- A filed request is granted at once, or pends. -/
theorem Ctx.fileRequest_asked (c : Ctx) (r : Request) :
    (((c.fileRequest r).chan (portOf r.drive)).work = some r ∨ ((c.fileRequest r).chan (portOf r.drive)).pend r.drive = some r)
    ∧ ((c.fileRequest r).drive r.drive).sched.target = (c.drive r.drive).sched.target
    ∧ ((c.fileRequest r).drive r.drive).sched.state ≠ .moving := by
  have filed : (c.modSched r.drive fun x => { x with state := .filed }).drive r.drive
      = { c.drive r.drive with sched := { (c.drive r.drive).sched with state := .filed } } := Ctx.setDrive_drive_self ..
  unfold Ctx.fileRequest
  dsimp only
  split
  · refine ⟨.inl (Ctx.grant_chan _ _ r).1, ?_, ?_⟩
    · rw [Ctx.grant_drive, if_pos rfl, filed]
    · rw [Ctx.grant_drive, if_pos rfl]
      simp
  · refine ⟨.inr ?_, ?_, ?_⟩
    · rw [Ctx.modChan, Ctx.setChan_chan_self, Channel.pend, Channel.setPend]
      cases hl : isLow r.drive <;> simp
    · exact congrArg (fun d => d.sched.target) filed
    · change ((c.modSched r.drive fun x => { x with state := .filed }).drive r.drive).sched.state ≠ _
      rw [filed]
      simp

theorem Ctx.pickNow_nothing {c : Ctx} {target : Option Place} (h : c.served v = []) :
    c.pickNow v target = c.modSched v fun x => { x with state := .quiet } := by
  rw [Ctx.pickNow, Ctx.pickN, State.pick_nothing h]

/-- The request that a pick files. -/
def Ctx.picked (c : Ctx) (v : DriveNo) (x : Cand) (cost : Nat) (overdue armPick : Bool) : Request :=
  ((c.leaveQuiet v).modSched v fun y => { y with target := if armPick then some x.place else y.target }).requestFor v x cost overdue

theorem Ctx.pickNow_file {c : Ctx} {target : Option Place} {x : Cand} {cost : Nat} {overdue armPick : Bool}
    (h : c.pick v target = .file x cost overdue armPick) :
    c.pickNow v target = (c.filePick v x armPick).fileRequest (c.picked v x cost overdue armPick) := by
  rw [Ctx.pickNow, Ctx.pickN, h]
  rfl

end Picks

/-! #### ARM SETTLED -/

section Settles
variable {s : State} {v : DriveNo} {x : Word} {b : Bool}

theorem exec_armSettled (ha : (s.drive v).arm = .seekSettle x b) (hr : reached s.g x = true) :
    exec (.armSettled v) s = ((Ctx.of s).armSettled v b).next := by
  change execArmSettled v s = _
  unfold execArmSettled
  rw [ha]
  exact if_pos hr

/-- The state with the arm of a drive free. -/
def State.settled (s : State) (v : DriveNo) : State := s.withDrive v { s.drive v with arm := .free }

theorem State.settled_drive : (Ctx.of (s.settled v)).drive v = { s.drive v with arm := .free } := s.withDrive_drive v _

/-- The settle of a seek, outside RECAL (R99). -/
theorem Ctx.armSettled_seek (hs : (s.drive v).state ≠ .recal) : (Ctx.of s).armSettled v false =
    if (s.drive v).sched.state ≠ .moving then Ctx.of (s.settled v)
    else if (s.drive v).sched.hold then (Ctx.of (s.settled v)).modSched v fun x => { x with state := .quiet }
    else (Ctx.of (s.settled v)).pickNow v (s.drive v).sched.target := by
  have settled : ((Ctx.of s).modDrive v fun d => { d with arm := .free }) = Ctx.of (s.settled v) := rfl
  unfold Ctx.armSettled
  dsimp only
  rw [settled]
  simp only [Bool.false_eq_true, if_false]
  rw [State.settled_drive, if_neg hs]

/-- The settle of a RECAL job's seek back, outside RECAL. -/
theorem Ctx.armSettled_back (hs : ((((Ctx.of (s.settled v)).recalJobDone v).drive v).state ≠ .recal)) :
    (Ctx.of s).armSettled v true = (Ctx.of (s.settled v)).recalJobDone v := by
  have settled : ((Ctx.of s).modDrive v fun d => { d with arm := .free }) = Ctx.of (s.settled v) := rfl
  unfold Ctx.armSettled
  dsimp only
  rw [settled]
  simp only [if_true]
  rw [if_neg hs]

theorem Ctx.recalJobDone_none {c : Ctx} (h : (c.drive v).sched.job = none) : c.recalJobDone v = c := by
  unfold Ctx.recalJobDone
  rw [h]

/-- In RECAL the recalibration that waited begins (R6, log 67). -/
theorem Ctx.armSettled_recal (hn : (s.drive v).sched.job = none) (hs : (s.drive v).state = .recal) :
    (Ctx.of s).armSettled v b = (Ctx.of (s.settled v)).startRecal v none := by
  have settled : ((Ctx.of s).modDrive v fun d => { d with arm := .free }) = Ctx.of (s.settled v) := rfl
  have none : (Ctx.of (s.settled v)).recalJobDone v = Ctx.of (s.settled v) :=
    Ctx.recalJobDone_none (by rw [State.settled_drive]; exact hn)
  unfold Ctx.armSettled
  dsimp only
  rw [settled, none, ite_self, State.settled_drive, if_pos hs]

end Settles
/-! #### The idle count (R104) -/

section Idles
variable {c c' : Ctx} {ps : List PortNo} {v : DriveNo}

theorem Ctx.recalJobDone_idle (hd : (c.drive v).state ≠ .discovery) :
    ((c.recalJobDone v).drive v).sched.idle = (c.drive v).sched.idle := by
  have ended := (c.modChan (portOf v) fun h => h.setOwed v false).jobEnded_drive v fun _ => hd
  have same : (c.modChan (portOf v) fun h => h.setOwed v false).drive v = c.drive v := rfl
  rw [same] at ended
  unfold Ctx.recalJobDone
  split
  · split
    · dsimp only
      generalize (c.modChan (portOf v) fun h => h.setOwed v false).jobEnded v = c2 at ended ⊢
      have quiet : (c2.modSched v fun x => { x with state := .quiet }).drive v
          = { c2.drive v with sched := { (c2.drive v).sched with state := .quiet } } := Ctx.setDrive_drive_self ..
      split
      · split
        · rw [quiet, ended]
        · rw [Ctx.flagPick_drive, quiet, ended]
      · rw [ended]
    · rfl
  · rfl

theorem Ctx.startRecal_idle (hd : (c.drive v).state ≠ .discovery) (n : Nat) :
    ((c.startRecal v (some n)).drive v).sched.idle = (c.drive v).sched.idle := by
  have zeroed := c.recalZeroed_drive v
  unfold Ctx.startRecal
  dsimp only
  rw [Ctx.recalSucceeded_some]
  generalize c.recalZeroed v = c1 at zeroed ⊢
  split
  · split
    · rw [Ctx.recalJobDone_idle (by rw [zeroed]; exact hd), zeroed]
    · rw [Ctx.startSeek_drive, zeroed]
  · rw [Ctx.setDrive_drive_self]

/-- A RECAL job is served outside DISCOVERY alone (R95). -/
theorem State.served_recal_state {s : State} (h : ∃ x ∈ s.served v, x.kind = .recal) : (s.drive v).state ≠ .discovery := by
  obtain ⟨x, hx, hk⟩ := h
  have serves := (List.mem_filter.mp hx).2
  intro hs
  rw [hk, hs] at serves
  simp [DriveState.serves] at serves

/-- An idle count of 0 stands over all release rounds and picks. -/
theorem Picked.idleZero (h : Picked ps c c') (h0 : (c.drive v).sched.idle = 0) : (c'.drive v).sched.idle = 0 := by
  have step {c1 c2 : Ctx} {w : DriveNo} (a : c1.AtPick w c2) (ih : (c1.drive v).sched.idle = 0)
      (here : w = v → (c2.drive v).sched.idle = 0) : (c2.drive v).sched.idle = 0 := by
    by_cases hw : v = w
    · exact here hw.symm
    · rw [a.others v hw]; exact ih
  have granted {c1 : Ctx} (p : PortNo) (r : Request) (ih : (c1.drive v).sched.idle = 0) :
      ((c1.grant p r).drive v).sched.idle = 0 := by
    rw [Ctx.grant_drive]
    split
    · exact ih
    · exact ih
  have sched {c1 : Ctx} (w : DriveNo) (x : SchedState) (ih : (c1.drive v).sched.idle = 0) :
      ((c1.modSched w fun y => { y with state := x }).drive v).sched.idle = 0 := by
    rw [Ctx.modSched, Ctx.modDrive, Ctx.setDrive_drive]
    split
    · next h => subst h; exact ih
    · exact ih
  induction h with
  | refl => exact h0
  | lists _ _ _ ih => exact ih
  | quiet w _ ih => exact sched w .quiet ih
  | @recal c1 w _ hr _ ih =>
    refine step (Ctx.recalPick_atPick _ w) ih ?_
    rintro rfl
    have at1 : (((c1.withdraw w).modSched w fun x => { x with
        state := .recalibrating, idle := 0, job := x.job.map fun j => { j with running := true } }).drive w)
        = { c1.drive w with sched := { (c1.drive w).sched with
            state := .recalibrating, idle := 0, job := (c1.drive w).sched.job.map fun j => { j with running := true } } } :=
      Ctx.setDrive_drive_self ..
    unfold Ctx.recalPick
    dsimp only
    rw [Ctx.startRecal_idle (by rw [at1]; exact State.served_recal_state hr), at1]
  | move w x _ _ _ _ ih =>
    refine step (Ctx.movePick_atPick _ w x) ih ?_
    rintro rfl
    rw [Ctx.movePick_drive]
  | file w x a r _ _ _ _ ih =>
    have filed := step (Ctx.filePick_atPick _ w x a) ih (by
      rintro rfl
      rw [Ctx.filePick_drive])
    have asked := sched r.drive .filed filed
    unfold Ctx.fileRequest
    dsimp only
    split
    · exact granted _ r asked
    · exact asked
  | close p _ _ ih => exact ih
  | grant p r _ _ _ ih => exact granted p r ih

theorem Ctx.finish_idleZero (h : (c.drive v).sched.idle = 0) : (c.finish.drive v).sched.idle = 0 := by
  refine c.finish_picked.idleZero ?_
  rw [(c.tested_drive v).1]
  exact h

/-- Where no order can go on and nothing is served, the end of a command leaves a drive but for its scheduler's state. -/
theorem Ctx.finish_unserved (hc : c.calm) (hr : c.readyOrder? = none) (hs : c.serve = false) (hv : c.served v = [])
    (cleared : c.Cleared) : ∃ x, c.finish.drive v = { c.drive v with sched := { (c.drive v).sched with state := x } } := by
  have picked := c.finish_picked
  rw [c.cascade_none hr hs, Ctx.testDone_id c hc.1 hc.2] at picked
  obtain ⟨⟨x, _, hd⟩, _⟩ := picked.idle hv cleared
  refine ⟨x, ?_⟩
  rw [← hd]
  unfold Ctx.finish
  rw [c.cascade_none hr hs, Ctx.testDone_id c hc.1 hc.2]

/-- An accepted pulse reports nothing at a drive that is neither in SPINUP nor in FAULT (R28). -/
theorem Ctx.speedReports_running {x y : Timer} (hs : (c.drive v).state ≠ .spinup) (hf : (c.drive v).state ≠ .fault)
    (hr : y.rej = 0) : c.speedReports v x y = c := by
  unfold Ctx.speedReports
  split
  · rw [Ctx.speedReached, if_neg hs]
  · split
    · rw [Ctx.speedRegained, if_neg fun h => hf h.1]
    · rw [if_neg (by rw [hr]; simp)]

/-- The idle count and the heads after an accepted pulse (R104). -/
theorem Ctx.idled_drive (c : Ctx) (v : DriveNo) :
    let d := c.drive v
    let n := min 255 (d.sched.idle + 1)
    let limit := d.profileOrZero.headIdleRevs
    (d.sched.state ≠ .quiet ∨ d.heads = .unloaded ∨ d.arm ≠ .free →
      (c.idled v .accepted).drive v = { d with sched := { d.sched with idle := 0 } })
    ∧ (d.sched.state = .quiet → d.heads ≠ .unloaded → d.arm = .free →
      (limit ≠ 0 → limit ≤ n →
        (c.idled v .accepted).drive v = { d with heads := .unloaded, sched := { d.sched with idle := 0 } })
      ∧ (limit = 0 ∨ n < limit → (c.idled v .accepted).drive v = { d with sched := { d.sched with idle := n } })) := by
  have counted (c : Ctx) (k : Sched → Sched) : (c.modSched v k).drive v = { c.drive v with sched := k (c.drive v).sched } :=
    Ctx.setDrive_drive_self ..
  have unloaded : (c.unloadRequest v).drive v = { c.drive v with heads := .unloaded } := Ctx.setDrive_drive_self ..
  have idled : (c.idled v .accepted).drive v = (c.idlePulse v).drive v := by
    rw [Ctx.idled, if_pos rfl, Ctx.flagPick_drive]
  dsimp only
  rw [idled]
  unfold Ctx.idlePulse
  dsimp only
  refine ⟨fun h => ?_, fun hq hh ha => ⟨fun h0 hn => ?_, fun h => ?_⟩⟩
  · rw [if_neg (by rintro ⟨h1, h2, h3⟩; exact h.elim (· h1) fun h => h.elim h2 (· h3)), counted]
  · rw [if_pos ⟨hq, hh, ha⟩, if_pos ⟨h0, hn⟩, counted, unloaded]
  · rw [if_pos ⟨hq, hh, ha⟩, if_neg (by omega), counted]

end Idles

section Commands
variable {s : State} {v : DriveNo} {x : Word} {b : Bool}

/-- Idle heads at the end of an accepted pulse (R104). -/
theorem Ctx.idled_pulse (hs : s.still) :
    let d := s.drive v
    let t := ((Ctx.pulsed s v).idled v .accepted).finish
    (d.sched.state ≠ .quiet ∨ d.heads = .unloaded ∨ d.arm ≠ .free → (t.drive v).sched.idle = 0)
    ∧ (d.sched.state = .quiet → d.heads ≠ .unloaded → d.arm = .free → s.served v = [] →
        let n := min 255 (d.sched.idle + 1)
        let limit := d.profileOrZero.headIdleRevs
        (limit ≠ 0 → limit ≤ n → (t.drive v).heads = .unloaded ∧ (t.drive v).sched.idle = 0)
        ∧ (limit = 0 ∨ n < limit → (t.drive v).heads = d.heads ∧ (t.drive v).sched.idle = n)) := by
  have pulsed := Ctx.pulsed_drive s v
  have rest := Ctx.pulsed_rest s v
  have counted := (Ctx.pulsed s v).idled_counted v .accepted
  have idled := (Ctx.pulsed s v).idled_drive v
  generalize (Ctx.pulsed s v).idled v .accepted = c at counted idled ⊢
  generalize Ctx.pulsed s v = c0 at pulsed rest counted idled
  rw [pulsed] at idled
  obtain ⟨busy, idle⟩ := idled
  refine ⟨fun h => c.finish_idleZero (by rw [busy h]), fun hq hh ha hv => ?_⟩
  obtain ⟨unloads, counts⟩ := idle hq hh ha
  have parts : c = { Ctx.of s with drives := c.drives, picks := c.picks } := by
    have rest1 := counted.rest
    rw [rest] at rest1
    exact rest1
  have unserved (job : (c.drive v).sched.job = (s.drive v).sched.job) : c.served v = [] := by
    have state : (c.drive v).state = (s.drive v).state := by rw [counted.drive, pulsed]
    rw [State.served_eq (s := s) (by rw [parts]; rfl) (by rw [parts]; rfl) state job]
    exact hv
  have ends (job : (c.drive v).sched.job = (s.drive v).sched.job) :=
    c.finish_unserved (by rw [parts]; exact hs.1) (by rw [parts]; exact hs.2) (by rw [parts]; rfl) (unserved job)
      (by rw [parts]; exact (Ctx.of_cleared s).of_eq rfl rfl)
  refine ⟨fun h0 hn => ?_, fun h => ?_⟩
  · have at1 := unloads h0 hn
    obtain ⟨_, final⟩ := ends (by rw [at1])
    rw [final, at1]
    exact ⟨rfl, rfl⟩
  · have at1 := counts h
    obtain ⟨_, final⟩ := ends (by rw [at1])
    rw [final, at1]
    exact ⟨rfl, rfl⟩

theorem State.headLoadDue_iff : s.headLoadDue v = true ↔ ∃ x, (s.drive v).heads = .loading x
    ∧ reached s.g (x + BitVec.ofNat 32 (1000 * (s.drive v).profileOrZero.headLoadMs)) = true := by
  unfold State.headLoadDue
  split
  · next x hx =>
    refine ⟨fun h => ⟨x, hx, h⟩, fun ⟨y, hy, h⟩ => ?_⟩
    rw [hx] at hy
    cases hy
    exact h
  · next h => exact ⟨fun h => (nomatch h), fun ⟨y, hy, _⟩ => (h y hy).elim⟩

/-- The pick at ARM SETTLED that files a request (R99, R100). -/
theorem armSettled_files {y : Cand} {cost : Nat} {overdue armPick : Bool} (ha : (s.drive v).arm = .seekSettle x false)
    (hr : reached s.g x = true) (still : s.still) (hst : (s.drive v).state ≠ .recal) (hm : (s.drive v).sched.state = .moving)
    (hh : (s.drive v).sched.hold = false) (hp : s.pick v (s.drive v).sched.target = .file y cost overdue armPick) :
    ∃ t r, exec (.armSettled v) s = .next t
      ∧ ((t.chan (portOf v)).work = some r ∨ (t.chan (portOf v)).pend v = some r)
      ∧ r.drive = v ∧ r.kind = y.kind ∧ r.cylinder = y.place.cylinder ∧ r.head = y.place.head
      ∧ r.start = s.g + BitVec.ofNat 32 cost
      ∧ (t.drive v).sched.target = (if armPick then some y.place else (s.drive v).sched.target)
      ∧ (t.drive v).sched.state ≠ .moving := by
  have pick : (Ctx.of (s.settled v)).pick v (s.drive v).sched.target = .file y cost overdue armPick :=
    (State.withDrive_pick .free _).trans hp
  have run : (Ctx.of s).armSettled v false
      = ((Ctx.of (s.settled v)).filePick v y armPick).fileRequest ((Ctx.of (s.settled v)).picked v y cost overdue armPick) := by
    rw [Ctx.armSettled_seek hst, if_neg (by simp [hm]), if_neg (by simp [hh]), Ctx.pickNow_file pick]
  have rest := (Ctx.of (s.settled v)).filed_rest v y armPick ((Ctx.of (s.settled v)).picked v y cost overdue armPick)
  obtain ⟨asked, target, moving⟩ := ((Ctx.of (s.settled v)).filePick v y armPick).fileRequest_asked
    ((Ctx.of (s.settled v)).picked v y cost overdue armPick)
  have aim := (Ctx.of (s.settled v)).filePick_drive v y armPick
  rw [State.settled_drive] at aim
  refine ⟨_, (Ctx.of (s.settled v)).picked v y cost overdue armPick, by rw [exec_armSettled ha hr, run]; rfl, ?_⟩
  have drive : ((Ctx.of (s.settled v)).picked v y cost overdue armPick).drive = v := rfl
  rw [drive] at asked target moving
  generalize ((Ctx.of (s.settled v)).filePick v y armPick).fileRequest ((Ctx.of (s.settled v)).picked v y cost overdue armPick)
    = c at rest asked target moving ⊢
  have same : c.finish = c.toState := Ctx.finish_none c (by rw [rest]; exact still.1) (by rw [rest]; exact still.2)
    (by rw [rest]; rfl) (by rw [rest]; rfl) (by rw [rest]; rfl)
  rw [same]
  exact ⟨asked, rfl, rfl, rfl, rfl, rfl, target.trans (by rw [aim]), moving⟩

end Commands

/-- Settles O29, by the command and by what the arm was moved for. -/
theorem headsAndSeeks : Obligations.HeadsAndSeeks := by
  unfold Obligations.HeadsAndSeeks
  intro v tz s d zero loaded
  have hz : zero = s.trackZero v := by
    simp only [zero, d, State.trackZero]
    cases (s.drive v).lines.trackZero <;> rfl
  clear_value zero
  subst hz
  have at1 : (Ctx.of (s.settled v)).drive v = { d with arm := .free } := State.settled_drive
  have settles (hs : s.still) : (Ctx.of (s.settled v)).finish = s.settled v := (hs.withDrive v _).finish
  refine ⟨fun hl => if_pos (State.headLoadDue_iff.mpr hl), fun hl => if_neg fun h => hl (State.headLoadDue_iff.mp h),
    fun ha => ?_, fun n x b ha hr => ?_, fun ha => ?_, fun x ha hr hs hst => ⟨fun hm => ?_, fun hm hh => ?_, ?_⟩,
    fun x j ha hr hj hk hrun hd hst => ?_, fun x ha hr hn hs hst => ?_, fun x b ha hr hn hs hst => ⟨fun hz => ?_, fun hz => ?_⟩,
    fun p hp h1 h2 hs hst away => ?_⟩
  · change execSeekStepDone v tz s = _
    unfold execSeekStepDone
    split
    · next n x b h => exact if_neg (by rw [ha n x b h]; simp)
    · rfl
  · change execSeekStepDone v tz s = _
    unfold execSeekStepDone
    rw [show (s.drive v).arm = _ from ha]
    dsimp only
    rw [if_pos hr]
    rfl
  · change execArmSettled v s = _
    unfold execArmSettled
    split
    · next x b h => exact if_neg (by rw [ha x b h]; simp)
    · rfl
  · rw [exec_armSettled ha hr, Ctx.armSettled_seek hst, if_pos hm, Ctx.next, settles hs]
    rfl
  · have quiet : (Ctx.of (s.settled v)).modSched v (fun x => { x with state := .quiet })
        = Ctx.of (s.withDrive v { d with arm := .free, sched := { d.sched with state := .quiet } }) := s.withDrive_modDrive v _ _
    have settled : (Ctx.of s).armSettled v false = (Ctx.of (s.settled v)).modSched v fun x => { x with state := .quiet } := by
      rw [Ctx.armSettled_seek hst, if_neg (not_not.mpr hm)]
      split
      · rfl
      · next hold =>
        refine Ctx.pickNow_nothing ?_
        exact (State.withDrive_served (d := { d with arm := .free }) rfl rfl).trans (hh.resolve_left hold)
    rw [exec_armSettled ha hr, settled, quiet, Ctx.next, (hs.withDrive v _).finish]
  · exact fun y cost overdue armPick hm hh hp => armSettled_files ha hr hs hst hm hh hp
  · obtain ⟨job, _, owed⟩ := Ctx.recalJobDone_done (c := Ctx.of (s.settled v)) (v := v) (j := j) (by rw [at1]; exact hj) hk hrun
      (by rw [at1]; exact hd)
    obtain ⟨job', owed', _⟩ := ((Ctx.of (s.settled v)).recalJobDone v).finish_jobDone job owed
    have kept := ((Ctx.of (s.settled v)).recalJobDone_atPick v).kept false
    have away : (((Ctx.of (s.settled v)).recalJobDone v).drive v).state ≠ .recal := by
      rw [show ((Ctx.of (s.settled v)).recalJobDone v |>.drive v).state = _ from congrArg DriveView.state kept.view, at1]
      exact hst
    exact ⟨_, by rw [exec_armSettled ha hr, Ctx.armSettled_back away]; rfl, job', owed'⟩
  · have none : (Ctx.of (s.settled v)).recalJobDone v = Ctx.of (s.settled v) :=
      Ctx.recalJobDone_none (by rw [at1]; exact hn)
    rw [exec_armSettled ha hr, Ctx.armSettled_back (by rw [none, at1]; exact hst), none, Ctx.next, settles hs]
    rfl
  · have low : (Ctx.of (s.settled v)).trackZero v = false :=
      (Ctx.trackZero_of_lines (c := Ctx.of s) (by rw [at1]; rfl)).trans hz
    have begun : (Ctx.of (s.settled v)).startRecal v none = Ctx.of (s.withDrive v { d with
        lines := { d.lines with trackZero := none, inward := false, steps := d.lines.steps + 1 }
        arm := .recal 1 (s.g + BitVec.ofNat 32 (1000 * d.profileOrZero.stepMs)) none }) := by
      rw [Ctx.startRecal, low, if_neg Bool.false_ne_true, State.stepDue, at1]
      exact congrArg Ctx.of (s.withDrive_withDrive v _ _)
    rw [exec_armSettled ha hr, Ctx.armSettled_recal hn hst, begun, Ctx.next, (hs.withDrive v _).finish]
  · have high : (Ctx.of (s.settled v)).trackZero v = true :=
      (Ctx.trackZero_of_lines (c := Ctx.of s) (by rw [at1]; rfl)).trans hz
    have at2 := (Ctx.of (s.settled v)).recalled_drive v
    rw [at1] at at2
    have run : exec (.armSettled v) s = (((Ctx.of (s.settled v)).recalled v).leaveRecal v).next := by
      rw [exec_armSettled ha hr, Ctx.armSettled_recal hn hst, Ctx.startRecal_zero high (by rw [at1]; exact hst)]
    generalize (Ctx.of (s.settled v)).recalled v = c at at2 run
    have left := Ctx.leaveRecal_finish (c := c) (v := v) (by rw [at2]; exact hst)
    have known := left.known
    have blank := left.blank
    have discovery := left.discovery
    rw [at2] at known blank discovery
    refine ⟨_, run, fun hk => ?_, blank, discovery⟩
    have view := (known hk).view
    injection view with state cause
    exact ⟨state, cause⟩
  · obtain ⟨verdict, _, rej⟩ := Timer.accepted hp h1 h2 (d.state == .spinup)
    have pulsed := Ctx.pulsed_drive s v
    have rest := Ctx.pulsed_rest s v
    have state : ((Ctx.pulsed s v).drive v).state = d.state := by rw [pulsed]
    have same : (Ctx.pulsed s v).chan (portOf v) = s.chan (portOf v) := State.chan_of_channels (by rw [rest]; rfl) _
    have run : exec (.indexPulse v) s = .next ((Ctx.pulsed s v).idled v .accepted).finish := by
      rw [exec_indexPulse (by obtain h | h | h | h | h := hst <;> simp [show (s.drive v).state = _ from h, DriveState.timerIdle]),
        Ctx.pulseTaken, Ctx.speedReports_running (by rw [state]; obtain h | h | h | h | h := hst <;> simp [h])
          (by rw [state]; obtain h | h | h | h | h := hst <;> simp [h]) rej, verdict,
        Ctx.afterReports _ fun r hr => away r (by rw [← hr, same])]
    exact ⟨_, run, Ctx.idled_pulse hs⟩

end Sys2Proof.Machine

-- ==== Sys2Proof/Proofs/LayoutReads.lean ====
namespace Sys2Proof.Machine

open Sys2Proof

/-! ### LAYOUT_READ_DONE (R167 to R170) -/

/-! #### The end of a command where no order waits -/

section NoneFill
variable {c : Ctx} {e : EntryNo}

/-- Where no order waits, the end of a command is its picks and its release rounds. -/
theorem Ctx.finish_noneFill (hc : c.calm) (hn : c.NoneFill) :
    c.finish = ({ c with serve := false } : Ctx).picksAndRounds.toState := by
  unfold Ctx.finish
  rw [c.cascade_noQueue (c.readyOrder_none hn.2) hn.1, Ctx.testDone_id { c with serve := false } hc.1 hc.2]

theorem Ctx.finish_noPicks (hc : c.calm) (hn : c.NoneFill) (hp : c.picks = []) (hr : c.rounds = []) :
    c.finish = c.toState := by
  rw [Ctx.finish_noneFill hc hn]
  simp [Ctx.picksAndRounds, hp, hr]

/-- States of one store differ, of an order, in the phase of a FORMAT alone. -/
theorem State.order_of_store {s t : State} (h : t.store = s.store) {o : Order} (ho : s.order? e = some o) :
    ∃ o', t.order? e = some o' ∧ o' = { o with phase := o'.phase } := by
  have views : t.table.map Slot.view = s.table.map Slot.view := congrArg StoreView.table h
  have slots : (t.slot e).view = (s.slot e).view := by
    have := congrArg (fun x => x[e.val]) views
    simpa [State.slot] using this
  unfold State.order? at ho ⊢
  cases hs : s.slot e <;> cases ht : t.slot e <;> simp_all [Slot.view]
  next o1 => cases o1; cases ho; simp_all

/-- Of an order, the picks change at most the phase of a FORMAT whose job slot became free. -/
theorem Ctx.finish_order_eq (hc : c.calm) (hn : c.NoneFill) {o : Order} (ho : c.order? e = some o) (hp : o.phase ≠ .busy) :
    c.finish.order? e = some o := by
  have picked := ({ c with serve := false } : Ctx).picksAndRounds_picked
  rw [Ctx.finish_noneFill hc hn]
  generalize ({ c with serve := false } : Ctx).picksAndRounds = c' at picked ⊢
  obtain ⟨o', ho', a⟩ := (picked.orders e).1 o ho
  obtain ⟨o2, ho2, same⟩ := State.order_of_store (s := c.toState) (t := c'.toState) picked.store ho
  rw [ho'] at ho2
  cases ho2
  rw [a.phase.resolve_right fun h => hp h.1] at same
  exact ho'.trans (congrArg some same)

theorem Ctx.NoneFill.setOrder (hn : c.NoneFill) (e : EntryNo) {o : Order} (ho : o.stage ≠ .fill) : (c.setOrder e o).NoneFill := by
  refine ⟨hn.1, fun e' o' ho' => ?_⟩
  rw [Ctx.setOrder_order?] at ho'
  split at ho'
  · cases ho'
    exact ho
  · exact hn.2 e' o' ho'

theorem Ctx.NoneFill.modOrder (hn : c.NoneFill) (e : EntryNo) {k : Order → Order} (hk : ∀ o, (k o).stage = o.stage) :
    (c.modOrder e k).NoneFill := by
  unfold Ctx.modOrder
  split
  · next o ho => exact hn.setOrder e (by rw [hk]; exact hn.2 e o ho)
  · exact hn

end NoneFill

/-! #### A frame that is FREE stays so as orders end -/

section Free
variable {c : Ctx} {f : FrameNo} {m : Mem}

/-- The frame is FREE: of its contents its data area alone is kept (R63). -/
def Ctx.FreeAt (c : Ctx) (f : FrameNo) (m : Mem) : Prop := c.frame f = { area := m }

theorem Ctx.FreeAt.of_frames {c' : Ctx} (h : c.FreeAt f m) (frames : c'.frames = c.frames) : c'.FreeAt f m := by
  rw [Ctx.FreeAt, State.frame, frames]
  exact h

theorem Ctx.blankIncomplete_parts (c : Ctx) (v : DriveNo) :
    (c.blankIncomplete v).frames = c.frames ∧ (c.blankIncomplete v).ctl = c.ctl := by
  unfold Ctx.blankIncomplete
  split
  · rw [Ctx.setDriveState_rest]
    exact ⟨rfl, rfl⟩
  · exact ⟨rfl, rfl⟩

theorem Ctx.FreeAt.dropUse (h : c.FreeAt f m) (f' : FrameNo) : (c.dropUse f').FreeAt f m := by
  rw [Ctx.FreeAt, Ctx.dropUse, Ctx.modFrame, Ctx.putFrame_frame]
  split
  · next eq => rw [← eq, h]; rfl
  · exact h

theorem Ctx.FreeAt.modOrder (h : c.FreeAt f m) (e : EntryNo) (k : Order → Order) : (c.modOrder e k).FreeAt f m := by
  unfold Ctx.modOrder
  split
  · exact h.of_frames rfl
  · exact h

theorem Ctx.FreeAt.finishOrder (h : c.FreeAt f m) (e : EntryNo) (code : Code) (n : Nat) :
    (c.finishOrder e code n).FreeAt f m := by
  unfold Ctx.finishOrder
  split
  · exact h
  · split
    · exact h
    · dsimp only
      split
      · exact (h.dropUse _).of_frames rfl
      · exact h.of_frames rfl

theorem Ctx.FreeAt.reexamine (h : c.FreeAt f m) : c.reexamine.FreeAt f m := by
  have walk : ((c.waiters.foldl reexamineOne (c, [])).1).FreeAt f m := by
    refine List.foldlRecOn (motive := fun acc : Ctx × List Waiter => acc.1.FreeAt f m) c.waiters reexamineOne h fun acc h w _ => ?_
    obtain ⟨c, kept⟩ := acc
    unfold reexamineOne
    dsimp only
    split
    · exact h.finishOrder _ _ _
    · split
      · split
        · next locks _ => exact Ctx.FreeAt.finishOrder (c := { c with locks := locks }) h _ _ _
        · exact h
      · exact h
  exact walk

theorem Ctx.FreeAt.endOrder (h : c.FreeAt f m) (e : EntryNo) (code : Code) (n : Nat) :
    (c.endOrder e code n).FreeAt f m := by
  unfold Ctx.endOrder
  split
  · exact h
  · split
    · exact h
    · have ended := h.finishOrder e code n
      dsimp only
      split
      · split
        · exact ended.reexamine
        · exact ended
      · exact ended

end Free

/-! #### The discard of a quiet frame -/

/-- A change of the use count alone brings no new candidate. -/
theorem Frame.UsesOnly.newCandidate {a b : Frame} (h : a.UsesOnly b) : a.newCandidate b = false := by
  rw [Bool.eq_false_iff]
  intro hc
  rw [h] at hc
  simp only [Frame.newCandidate, Bool.and_eq_true, List.any_eq_true] at hc
  obtain ⟨held, i, _, hi⟩ := hc
  cases hx : a.sectors[i]? <;> simp_all

/-- What every step of a walk over the entries keeps holds at its end. -/
theorem Ctx.forEntries_keeps {P : Ctx → Prop} {k : EntryNo → Ctx → Ctx} (c : Ctx) (hc : P c)
    (step : ∀ e c, P c → P (k e c)) : P (c.forEntries k) :=
  List.foldlRecOn (motive := P) (List.finRange 32) (fun c e => k e c) hc fun c h e _ => step e c h

section Discard
variable {c : Ctx} {e : EntryNo}

/-- What the discard of a frame does to one order: it gives up the frame, as a FORMAT, or ends (R88, R170). -/
def Ctx.orderDiscarded (c : Ctx) (f : FrameNo) (e : EntryNo) : Ctx :=
  match c.order? e with
  | none => c
  | some o =>
    match lowestAwaited o.targets f with
    | none => c
    | some block =>
      if o.fields.kind? = some .format then
        c.setOrder e { o with targets := o.targets.filter fun t => !(t.frame == f && t.awaited) }
      else c.endOrder e .discarded block

theorem Ctx.frameDiscarded_eq (c : Ctx) (f : FrameNo) : c.frameDiscarded f = c.forEntries fun e c => c.orderDiscarded f e := rfl

theorem Ctx.orderDiscarded_ends (c : Ctx) (f : FrameNo) (e : EntryNo) :
    Steps (fun _ => True) Frame.UsesOnly c (c.orderDiscarded f e) := by
  unfold Ctx.orderDiscarded
  split
  · exact .refl
  · next o ho =>
    split
    · exact .refl
    · split
      · exact .report e o _ .refl ho ⟨rfl, .inl rfl⟩
      · exact c.endOrder_ends e _ _

theorem Ctx.FreeAt.orderDiscarded {f : FrameNo} {m : Mem} (h : c.FreeAt f m) (f' : FrameNo) (e : EntryNo) :
    (c.orderDiscarded f' e).FreeAt f m := by
  unfold Ctx.orderDiscarded
  split
  · exact h
  · split
    · exact h
    · split
      · exact h.of_frames rfl
      · exact h.endOrder _ _ _

/-- An order without a target hears nothing of a discard. -/
theorem Ctx.Stands.orderDiscarded {o : Order} {g : Word} (h : c.Stands e o g) (ht : o.targets = []) (f : FrameNo) (e' : EntryNo) :
    (c.orderDiscarded f e').Stands e o g := by
  obtain ⟨ho, free, hg⟩ := h
  unfold Ctx.orderDiscarded
  split
  · exact ⟨ho, free, hg⟩
  · next o' ho' =>
    split
    · exact ⟨ho, free, hg⟩
    · next b hb =>
      have other : e' ≠ e := by
        rintro rfl
        rw [ho] at ho'
        cases ho'
        rw [ht] at hb
        cases hb
      split
      · refine ⟨?_, free, hg⟩
        rw [Ctx.setOrder_order?, if_neg (Ne.symm other)]
        exact ho
      · exact Ctx.Stands.endOrder ⟨ho, free, hg⟩ other _ _

end Discard

/-! #### The post of a track format (R169) -/

section Post
variable {s : State} {c c' : Ctx} {e : EntryNo} {v : DriveNo} {a : Order}

/-- The FORMAT in entry `e` comes to its post: the drive stands as it did but for its marks and its record, no order waits, and no
pick is to be made. -/
structure Ctx.ToPost (s : State) (e : EntryNo) (v : DriveNo) (a : Order) (c : Ctx) : Prop where
  stands : c.Stands e a s.g
  ctl : c.ctl = s.ctl
  noneFill : c.NoneFill
  drive : (s.drive v).Reported s.ctl.tableWrites (c.drive v)
  picks : c.picks = []
  rounds : c.rounds = []

/-- Orders that end on the way leave it so. -/
theorem Ctx.ToPost.steps (h : c.ToPost s e v a) (l : Steps (fun _ => True) Frame.UsesOnly c c') (stands : c'.Stands e a s.g) :
    c'.ToPost s e v a := by
  refine ⟨stands, (State.view_ctl l.view).trans h.ctl, l.ends.fills h.noneFill, h.drive.trans ?_, ?_, l.channels.2.trans h.rounds⟩
  · rw [← h.ctl]
    exact l.drive v
  · exact (l.picks fun _ _ uses => uses.newCandidate).trans h.picks

/-- The FORMAT, once its refusals are met. -/
theorem Ctx.toPost_start (nw : s.noneWaiting) (free : ∀ w ∈ s.waiters, w.order ≠ e) (ha : a.stage = .job) :
    ((Ctx.of s).setOrder e a).ToPost s e v a where
  stands := ⟨(Ctx.setOrder_order? _ e e a).trans (if_pos rfl), free, rfl⟩
  ctl := rfl
  noneFill := Ctx.NoneFill.setOrder (c := Ctx.of s) nw.2 e (by rw [ha]; decide)
  drive := .refl _ _
  picks := rfl
  rounds := rfl

/-- The discard of the track's frame, where the store does not refuse it (R88). -/
theorem Ctx.ToPost.discard (h : c.ToPost s e v a) (ht : a.targets = []) {k : Key}
    (quiet : ∀ f, c.frameOf k = some f → (c.frame f).isQuiet = true) :
    (c.discard k).1 = false ∧ (c.discard k).2.ToPost s e v a
      ∧ ∀ f, c.frameOf k = some f → (c.discard k).2.FreeAt f (c.frame f).area := by
  unfold Ctx.discard
  split
  · next none => exact ⟨rfl, h, fun f hf => by rw [none] at hf; cases hf⟩
  · next f hf =>
    rw [if_pos (quiet f hf)]
    have freed : (c.freeFrame f).ToPost s e v a := by
      obtain ⟨⟨ho, free, hg⟩, ctl, none, drive, picks, rounds⟩ := h
      have table : (c.freeFrame f).order? = c.order? := funext (State.order?_of_table (c.putFrame_table f _))
      have view := c.putFrame_view f { area := (c.frame f).area }
      refine ⟨⟨by rw [table]; exact ho, by rw [Ctx.freeFrame, Ctx.modFrame, Ctx.putFrame_waiters]; exact free,
        (State.view_g view).trans hg⟩, (State.view_ctl view).trans ctl,
        ⟨by rw [Ctx.freeFrame, Ctx.modFrame, Ctx.putFrame_fwq]; exact none.1, by rw [table]; exact none.2⟩, drive.trans ?_, ?_, ?_⟩
      · rw [← ctl]
        exact c.putFrame_reported f _ v
      · rw [Ctx.freeFrame, Ctx.modFrame, Ctx.putFrame_picks, if_neg (by simp [Frame.newCandidate])]
        exact picks
      · rw [Ctx.freeFrame, Ctx.modFrame, Ctx.putFrame_rounds]
        exact rounds
    have freeAt : (c.freeFrame f).FreeAt f (c.frame f).area := by
      rw [Ctx.FreeAt, Ctx.freeFrame, Ctx.modFrame, Ctx.putFrame_frame, if_pos rfl]
    have told : ((c.freeFrame f).frameDiscarded f).ToPost s e v a ∧ ((c.freeFrame f).frameDiscarded f).FreeAt f (c.frame f).area := by
      rw [Ctx.frameDiscarded_eq]
      refine Ctx.forEntries_keeps (P := fun c' => c'.ToPost s e v a ∧ c'.FreeAt f (c.frame f).area) _ ⟨freed, freeAt⟩
        fun e' c' h => ⟨?_, h.2.orderDiscarded f e'⟩
      exact h.1.steps (c'.orderDiscarded_ends f e') (h.1.stands.orderDiscarded ht f e')
    generalize (c.freeFrame f).frameDiscarded f = c' at told ⊢
    refine ⟨rfl, told.1, fun f' hf' => ?_⟩
    obtain rfl : f = f' := Option.some.inj (hf.symm.trans hf')
    exact told.2

/-- What the post of a track format gives (R169), from the state before the command. -/
def State.posted (s t : State) (e : EntryNo) (o a : Order) (v : DriveNo) : Prop :=
  let n := o.fields.block
  let d := s.drive v
  (o.generation ≠ d.generation →
    ∃ x, t.order? e = some x ∧ x.stage = .finish ∧ x.result = some ⟨.mediaChanged, 0, s.g⟩)
  ∧ (o.generation = d.generation → d.state ≠ .ready → d.state ≠ .blank →
    ∃ x, t.order? e = some x ∧ x.stage = .finish ∧ x.result = some ⟨.notReady, n, s.g⟩)
  ∧ (o.generation = d.generation → d.state = .ready ∨ d.state = .blank → 0 < d.headCount →
    n < 77 * d.headCount →
    (d.sched.job = none →
      (∃ j, (t.drive v).sched.job = some j ∧ j.kind = .formatTrack ∧ j.cylinder = n / d.headCount
        ∧ j.head = n % d.headCount ∧ j.requester = .format e ∧ j.rush = o.fields.rush
        ∧ j.fill = o.fields.mode)
      ∧ t.order? e = some { a with phase := .posted })
    ∧ ∀ j, d.sched.job = some j → (t.drive v).sched.job = some j
      ∧ (t.drive v).sched.busy = d.sched.busy ++ [.format e]
      ∧ t.order? e = some { a with phase := .busy })

/-- The job of a FORMAT's track `n` on drive `v` (R169). -/
def State.formatJob (s : State) (e : EntryNo) (f : OrderFields) (v : DriveNo) (n : Nat) : Job :=
  { kind := .formatTrack, cylinder := (s.trackKey v n).cylinder, head := (s.trackKey v n).head, stamp := s.g, rush := f.rush
    requester := .format e, running := false, density := .mfm, fill := f.mode }

/-- The free job slot of a drive takes a job. -/
def Ctx.slotTaken (c : Ctx) (v : DriveNo) (j : Job) : Ctx :=
  ((c.modSched v fun x => { x with job := some j }).raiseMarks v).flagPick v

theorem Ctx.slotTaken_jobs (c : Ctx) (v : DriveNo) (j : Job) : c.Jobs v (c.slotTaken v j) :=
  ((c.modSched_jobs v _).trans (Ctx.raiseMarks_jobs _ v)).trans (Ctx.flagPick_jobs _ v)

theorem Ctx.slotTaken_job (c : Ctx) (v : DriveNo) (j : Job) : ((c.slotTaken v j).drive v).sched.job = some j := by
  simp [Ctx.slotTaken, Ctx.modSched, Ctx.raiseMarks, Ctx.modDrive]

theorem Ctx.slotTaken_table (c : Ctx) (v : DriveNo) (j : Job) : (c.slotTaken v j).table = c.table := by
  simp [Ctx.slotTaken, Ctx.modSched, Ctx.modDrive, Ctx.setDrive]

/-- The busy job slot of a drive keeps one more requester. -/
def Ctx.slotAsked (c : Ctx) (v : DriveNo) (r : Requester) : Ctx := c.modSched v fun x => { x with busy := x.busy ++ [r] }

section Track
variable {j : Job} (hk : j.kind = .formatTrack) (hc : j.cylinder < cylinders) (hh : j.head < (c.drive v).headCount)
include hk hc hh

/-- A free job slot takes the job of a track of the diskette (R94). -/
theorem Ctx.postJob_track_taken (free : (c.drive v).sched.job = none) :
    c.postJob v j = (.taken, c.slotTaken v j) := by
  have inside : ¬ (j.cylinder ≥ cylinders ∨ j.head ≥ (c.drive v).headCount) := by omega
  simp [Ctx.postJob, Ctx.slotTaken, hk, inside, free]

/-- A busy job slot keeps the requester (R94). -/
theorem Ctx.postJob_track_busy {j' : Job} (busy : (c.drive v).sched.job = some j') :
    c.postJob v j = (.busy, c.slotAsked v j.requester) := by
  have inside : ¬ (j.cylinder ≥ cylinders ∨ j.head ≥ (c.drive v).headCount) := by omega
  simp [Ctx.postJob, Ctx.slotAsked, hk, inside, busy]

end Track

theorem Ctx.modOrder_some (c : Ctx) {e : EntryNo} {o : Order} (ho : c.order? e = some o) (k : Order → Order) :
    c.modOrder e k = c.setOrder e (k o) := by
  rw [Ctx.modOrder, ho]

/-- An order of which a track format is made up. -/
structure Order.TrackFormat (o a : Order) (v : DriveNo) : Prop where
  format : a.isFormat = true
  stage : a.stage = .job
  fields : a.fields = o.fields
  generation : a.generation = o.generation
  drive : driveOf? o.fields.drive = some v
  scope : o.fields.trackScope = true
  track : a.track = some o.fields.block

theorem Order.TrackFormat.format? {o : Order} (ha : o.TrackFormat a v) (ho : c.order? e = some a) : c.format? e = some (a, v) := by
  rw [State.format?, ho]
  simp [ha.format, ha.stage, ha.fields, ha.drive]

section Posting
variable {o : Order} (h : c.ToPost s e v a) (ha : o.TrackFormat a v)
include h ha

omit ha in
theorem Ctx.ToPost.trackKey (n : Nat) : c.trackKey v n = s.trackKey v n := by
  have heads : (c.drive v).headCount = (s.drive v).headCount := by rw [h.drive.rest]
  rw [State.trackKey, State.trackKey, heads]

/-- A FORMAT of an earlier generation of the diskette ends at its post. -/
theorem Ctx.ToPost.post_changed (hg : o.generation ≠ (s.drive v).generation) : c.formatPost e = c.endOrder e .mediaChanged 0 := by
  rw [Ctx.formatPost, ha.format? h.stands.1]
  dsimp only
  rw [if_pos]
  rw [ha.generation, h.drive.rest]
  exact hg

/-- A track format on a drive neither READY nor BLANK ends at its post. -/
theorem Ctx.ToPost.post_notReady (hg : o.generation = (s.drive v).generation) (hr : (s.drive v).state ≠ .ready)
    (hb : (s.drive v).state ≠ .blank) : c.formatPost e = c.endOrder e .notReady o.fields.block := by
  have drive := h.drive.rest
  rw [Ctx.formatPost, ha.format? h.stands.1]
  dsimp only
  rw [if_neg, if_pos, ha.track]
  · rfl
  · rw [ha.fields, drive]
    exact ⟨ha.scope, hr, hb⟩
  · rw [ha.generation, drive]
    exact not_not.mpr hg

section InReach
variable (hg : o.generation = (s.drive v).generation) (hs : (s.drive v).state = .ready ∨ (s.drive v).state = .blank)
  (h0 : 0 < (s.drive v).headCount) (hn : o.fields.block < 77 * (s.drive v).headCount)
include hg hs h0 hn

omit hg hs ha in
theorem Ctx.ToPost.jobInside : let j := s.formatJob e o.fields v o.fields.block
    j.cylinder < cylinders ∧ j.head < (c.drive v).headCount := by
  have heads : (c.drive v).headCount = (s.drive v).headCount := by rw [h.drive.rest]
  rw [heads]
  exact ⟨Nat.div_lt_of_lt_mul (by rw [Nat.mul_comm]; exact hn), Nat.mod_lt _ h0⟩

omit h0 hn in
/-- The post asks for the job of the order's track, and the answer places the order. -/
theorem Ctx.ToPost.post_asks {answer : PostAnswer} {c1 : Ctx}
    (asked : c.postJob v (s.formatJob e o.fields v o.fields.block) = (answer, c1)) :
    (answer = .taken → c.formatPost e = c1.modOrder e fun o => { o with phase := .posted })
      ∧ (answer = .busy → c.formatPost e = c1.modOrder e fun o => { o with phase := .busy }) := by
  have drive := h.drive.rest
  have same : c.trackKey v o.fields.block = s.trackKey v o.fields.block := h.trackKey _
  rw [Ctx.formatPost, ha.format? h.stands.1]
  dsimp only
  rw [ha.track, ha.fields, Option.getD_some, same, h.stands.2.2, if_neg, if_neg]
  · rw [State.formatJob] at asked
    rw [asked]
    exact ⟨fun taken => by rw [taken], fun busy => by rw [busy]⟩
  · rw [drive]
    rintro ⟨_, hr, hb⟩
    exact hs.elim hr hb
  · rw [ha.generation, drive]
    exact not_not.mpr hg

end InReach

/-- What the post of a track format gives, to the end of the command. -/
theorem Ctx.ToPost.posted (hc : s.calm) : s.posted (c.formatPost e).finish e o a v := by
  have drive := h.drive.rest
  have calm : c.calm := ⟨fun x => hc.1 (h.ctl.symm.trans x), fun x => hc.2 (h.ctl.symm.trans x)⟩
  have alive : a.stage ≠ .finish := by rw [ha.stage]; decide
  have ended (code : Code) (n : Nat) : ∃ x, (c.endOrder e code n).finish.order? e = some x ∧ x.stage = .finish
      ∧ x.result = some ⟨code, n, s.g⟩ := by
    rw [← h.stands.2.2]
    exact (c.endOrder_endedWith code n h.stands.1 alive).finish.1
  refine ⟨fun hg => ?_, fun hg hr hb => ?_, fun hg hs h0 hn => ⟨fun free => ?_, fun j hj => ?_⟩⟩
  · rw [h.post_changed ha hg]
    exact ended _ _
  · rw [h.post_notReady ha hg hr hb]
    exact ended _ _
  · obtain ⟨cylinder, head⟩ := h.jobInside h0 hn
    have asked := Ctx.postJob_track_taken (c := c) (v := v) rfl cylinder head (by rw [drive]; exact free)
    rw [(h.post_asks ha hg hs asked).1 rfl]
    have jobs := c.slotTaken_jobs v (s.formatJob e o.fields v o.fields.block)
    have job := c.slotTaken_job v (s.formatJob e o.fields v o.fields.block)
    have here := (State.order?_of_table (c.slotTaken_table v (s.formatJob e o.fields v o.fields.block)) e).trans h.stands.1
    generalize c.slotTaken v (s.formatJob e o.fields v o.fields.block) = c1 at jobs job here ⊢
    rw [Ctx.modOrder_some c1 here]
    have none1 := (jobs.ends.fills h.noneFill).setOrder e (o := { a with phase := .posted }) (by rw [ha.stage]; decide)
    have calm1 : (c1.setOrder e { a with phase := .posted }).calm :=
      ⟨fun x => calm.1 (jobs.ctl.symm.trans x), fun x => calm.2 (jobs.ctl.symm.trans x)⟩
    have slot : ((c1.setOrder e { a with phase := .posted }).drive v).sched.job = some (s.formatJob e o.fields v o.fields.block) := job
    have here1 : (c1.setOrder e { a with phase := .posted }).order? e = some { a with phase := .posted } :=
      (Ctx.setOrder_order? c1 e e _).trans (if_pos rfl)
    generalize c1.setOrder e { a with phase := .posted } = c2 at none1 calm1 slot here1 ⊢
    obtain ⟨b, hb⟩ := (c2.finish_sameJob (v := v) fun j hj => by rw [slot] at hj; cases hj; simp [State.formatJob]).some slot
    exact ⟨⟨_, hb, rfl, rfl, rfl, rfl, rfl, rfl⟩, Ctx.finish_order_eq calm1 none1 here1 (by simp)⟩
  · obtain ⟨cylinder, head⟩ := h.jobInside h0 hn
    have asked : c.postJob v (s.formatJob e o.fields v o.fields.block) = (.busy, c.slotAsked v (.format e)) :=
      Ctx.postJob_track_busy rfl cylinder head (by rw [drive]; exact hj)
    rw [(h.post_asks ha hg hs asked).2 rfl]
    have jobs : c.Jobs v (c.slotAsked v (.format e)) := c.modSched_jobs v _
    have none1 := jobs.ends.fills h.noneFill
    have sched : ((c.slotAsked v (.format e)).drive v).sched
        = { (s.drive v).sched with busy := (s.drive v).sched.busy ++ [.format e] } := by
      rw [Ctx.slotAsked, Ctx.modSched, Ctx.modDrive, Ctx.setDrive_drive_self, drive]
    have here : (c.slotAsked v (.format e)).order? e = some a := h.stands.1
    have lists : (c.slotAsked v (.format e)).picks = [] ∧ (c.slotAsked v (.format e)).rounds = [] := ⟨h.picks, h.rounds⟩
    have calm1 : (c.slotAsked v (.format e)).calm := calm
    generalize c.slotAsked v (.format e) = c1 at sched here lists calm1 none1 ⊢
    have none2 := none1.setOrder e (o := { a with phase := .busy }) (by rw [ha.stage]; decide)
    have ends : (c1.setOrder e { a with phase := .busy }).finish = (c1.setOrder e { a with phase := .busy }).toState :=
      Ctx.finish_noPicks calm1 none2 lists.1 lists.2
    rw [Ctx.modOrder_some c1 here, ends]
    exact ⟨(congrArg Sched.job sched).trans hj, congrArg Sched.busy sched, (Ctx.setOrder_order? c1 e e _).trans (if_pos rfl)⟩

end Posting

/-! #### The frame of a discard, to the end of the command -/

/-- What a post does to the store and the orders: none is set going, and a FREE frame stays FREE. -/
theorem Ctx.formatPost_free {f : FrameNo} {m : Mem} (c : Ctx) (e : EntryNo) (hn : c.NoneFill) (h : c.FreeAt f m) :
    (c.formatPost e).NoneFill ∧ (c.formatPost e).FreeAt f m ∧ (c.formatPost e).ctl = c.ctl := by
  have ends (c1 : Ctx) (code : Code) (n : Nat) (hn : c1.NoneFill) (h : c1.FreeAt f m) (ctl : c1.ctl = c.ctl) :
      (c1.endOrder e code n).NoneFill ∧ (c1.endOrder e code n).FreeAt f m ∧ (c1.endOrder e code n).ctl = c.ctl :=
    ⟨(c1.endOrder_ends e code n).ends.fills hn, h.endOrder _ _ _, (State.view_ctl (c1.endOrder_view e code n)).trans ctl⟩
  have places (c1 : Ctx) (p : FormatPhase) (hn : c1.NoneFill) (h : c1.FreeAt f m) (ctl : c1.ctl = c.ctl) :
      let c2 := c1.modOrder e fun o => { o with phase := p }
      c2.NoneFill ∧ c2.FreeAt f m ∧ c2.ctl = c.ctl :=
    ⟨hn.modOrder e fun _ => rfl, h.modOrder e _, (State.view_ctl (c1.modOrder_view e _)).trans ctl⟩
  unfold Ctx.formatPost
  split
  · exact ⟨hn, h, rfl⟩
  · next o v ho =>
    have jobs := c.postJob_jobs v (c.formatJob e o.fields v (o.track.getD 0))
    rw [State.formatJob] at jobs
    have none1 := jobs.ends.fills hn
    have free1 := h.of_frames jobs.frames
    dsimp only
    split
    · exact ends c _ _ hn h rfl
    · split
      · exact ends c _ _ hn h rfl
      · split
        · exact places _ _ none1 free1 jobs.ctl
        · exact places _ _ none1 free1 jobs.ctl
        all_goals
          exact ends _ _ _ ((Ctx.blankIncomplete_ends _ v).fills none1) (free1.of_frames (Ctx.blankIncomplete_parts _ v).1)
            ((Ctx.blankIncomplete_parts _ v).2.trans jobs.ctl)

end Post

/-! #### The drain set of a diskette format (R146, R170) -/

/-- One frame's part of a set that is gathered without unstranding. -/
def Ctx.gatherFrame (test : DriveNo → Bool) (acc : List Target × Ctx) (f : FrameNo) : List Target × Ctx :=
  if (acc.2.frame f).held && test (acc.2.frame f).key.drive then (acc.1 ++ acc.2.setEntries f, acc.2) else acc

theorem Ctx.gather_eq (c : Ctx) (test : DriveNo → Bool) :
    c.gather test false = (List.finRange 16).foldl (Ctx.gatherFrame test) ([], c) := rfl

/-- A set gathered without unstranding changes nothing, and holds every unsettled sector of the drives asked for. -/
theorem Ctx.gather_entries (c : Ctx) (test : DriveNo → Bool) :
    (c.gather test false).2 = c ∧ ∀ f y, (c.frame f).held = true → test (c.frame f).key.drive = true →
      y ∈ c.setEntries f → y ∈ (c.gather test false).1 := by
  have walk : ∀ (l : List FrameNo) (ts : List Target), let r := l.foldl (Ctx.gatherFrame test) (ts, c)
      r.2 = c ∧ (∀ y ∈ ts, y ∈ r.1) ∧ ∀ f ∈ l, (c.frame f).held = true → test (c.frame f).key.drive = true →
        ∀ y ∈ c.setEntries f, y ∈ r.1 := by
    intro l
    induction l with
    | nil => exact fun ts => ⟨rfl, fun _ h => h, fun _ h => nomatch h⟩
    | cons f l ih =>
      intro ts
      have taken : ∃ ts', Ctx.gatherFrame test (ts, c) f = (ts', c) ∧ (∀ y ∈ ts, y ∈ ts')
          ∧ ((c.frame f).held = true → test (c.frame f).key.drive = true → ∀ y ∈ c.setEntries f, y ∈ ts') := by
        unfold Ctx.gatherFrame
        by_cases hb : (c.frame f).held = true ∧ test (c.frame f).key.drive = true
        · refine ⟨ts ++ c.setEntries f, by simp [hb], fun y hy => List.mem_append_left _ hy, fun _ _ y hy => List.mem_append_right _ hy⟩
        · refine ⟨ts, by simp [hb], fun _ h => h, fun hh ht => absurd ⟨hh, ht⟩ hb⟩
      obtain ⟨ts', eq, old, new⟩ := taken
      rw [List.foldl_cons, eq]
      obtain ⟨same, kept, all⟩ := ih ts'
      refine ⟨same, fun y hy => kept y (old y hy), fun f' hf' hh ht y hy => ?_⟩
      obtain rfl | hf' := List.mem_cons.mp hf'
      · exact kept y (new hh ht y hy)
      · exact all f' hf' hh ht y hy
  rw [Ctx.gather_eq]
  obtain ⟨same, _, all⟩ := walk (List.finRange 16) []
  exact ⟨same, fun f y hh ht hy => all f (List.mem_finRange f) hh ht y hy⟩

/-! #### The refusals of a FORMAT, and the way of an accepted one (R167) -/

section Accept
variable {s : State} {c : Ctx} {e : EntryNo} {o : Order} {v : DriveNo}

theorem exec_layoutReadDone (hf : s.format? e = some (o, v)) (hp : o.phase = .readLayout) {r : DmaRead}
    (hr : wrongLength r 68 = false) :
    exec (.layoutReadDone e r) s = .next ((Ctx.of s).layoutRead e o r).finish := by
  change execLayoutReadDone e r s = _
  rw [execLayoutReadDone, hf]
  simp [hp, hr, Ctx.next]

/-- A track format that has met its refusals (R167, R169). -/
def Order.accepted (o : Order) (l : Layout) : Order :=
  { o with layout := some l, passed := true, stage := .job, phase := .discard1, track := some o.fields.block }

/-- A supplied layout is of FM or of MFM (9.1). -/
theorem suppliedLayout_none {b : List Byte} (h : 2 ≤ fieldAt b 0 1) : suppliedLayout b = none := by
  have first : fieldAt b 0 1 = (byteAt b 0).toNat := by
    cases b with
    | nil => rfl
    | cons x b => simp [fieldAt, byteAt, leNat]
  rw [first] at h
  have not0 : byteAt b 0 ≠ 0 := fun h0 => by rw [h0] at h; exact absurd h (by decide)
  have not1 : byteAt b 0 ≠ 1 := fun h1 => by rw [h1] at h; exact absurd h (by decide)
  rw [suppliedLayout, if_neg not0, if_neg not1]

section Layout
variable (hd : driveOf? o.fields.drive = some v) {l : Layout}
include hd

theorem Ctx.formatAccept_illegal (hl : l.legal o.period = false) : c.formatAccept e o (some l) = c.endOrder e .badOrder 0 := by
  simp [Ctx.formatAccept, hd, hl]

theorem Ctx.formatAccept_other (hl : l.legal o.period = true) (h2 : o.fields.scope = 2)
    (ha : (c.drive v).timer.active ≠ some l) : c.formatAccept e o (some l) = c.endOrder e .badOrder 0 := by
  simp [Ctx.formatAccept, hd, hl, h2, ha]

section Legal
variable (hl : l.legal o.period = true) (ha : o.fields.scope = 2 → (c.drive v).timer.active = some l)
include hl ha

theorem Ctx.formatAccept_inUse (hu : c.formatInUse e o.fields v = true) :
    c.formatAccept e o (some l) = c.endOrder e .inUse 0 := by
  have same : ¬ (o.fields.scope = 2 ∧ (c.drive v).timer.active ≠ some l) := fun h => h.2 (ha h.1)
  simp only [Ctx.formatAccept, hd]
  rw [if_neg (by simp [hl]), if_neg same, if_pos hu]

theorem Ctx.formatAccept_track (hu : c.formatInUse e o.fields v = false) (h2 : o.fields.scope = 2) :
    c.formatAccept e o (some l) = (c.setOrder e (o.accepted l)).formatDiscard1 e := by
  have same : ¬ (o.fields.scope = 2 ∧ (c.drive v).timer.active ≠ some l) := fun h => h.2 (ha h.1)
  simp only [Ctx.formatAccept, hd]
  rw [if_neg (by simp [hl]), if_neg same, if_neg (by simp [hu]), if_pos (by simp [OrderFields.trackScope, h2])]
  rfl

theorem Ctx.formatAccept_diskette (hu : c.formatInUse e o.fields v = false) (h3 : o.fields.scope = 3) :
    c.formatAccept e o (some l) = c.setOrder e { o with
      layout := some l, passed := true, stage := .settle, phase := .drain, targets := (c.gather (fun w => w == v) false).1 } := by
  have same : ¬ (o.fields.scope = 2 ∧ (c.drive v).timer.active ≠ some l) := fun h => h.2 (ha h.1)
  simp only [Ctx.formatAccept, hd]
  rw [if_neg (by simp [hl]), if_neg same, if_neg (by simp [hu]), if_neg (by simp [OrderFields.trackScope, h3]),
    (c.gather_entries _).1]

end Legal
end Layout

/-- The first discard of a track format, which the store refuses or which leads to the post (R169). -/
theorem Ctx.formatDiscard1_eq {a : Order} (ha : o.TrackFormat a v) (ho : c.order? e = some a) :
    let k := c.trackKey v o.fields.block
    ((c.discard k).1 = true → c.formatDiscard1 e = (c.discard k).2.waitQuiet e k)
      ∧ ((c.discard k).1 = false → c.formatDiscard1 e = (c.discard k).2.formatPost e) := by
  dsimp only
  rw [Ctx.formatDiscard1, ha.format? ho]
  dsimp only
  rw [ha.track, Option.getD_some]
  exact ⟨fun h => by rw [if_pos h], fun h => by rw [if_neg (by simp [h])]⟩

section Track
variable {a : Order} (nw : s.noneWaiting) (free : ∀ w ∈ s.waiters, w.order ≠ e) (ha : o.TrackFormat a v) (ht : a.targets = [])
include nw free ha ht

/-- A track format whose frame the store discards comes to its post. -/
theorem Ctx.trackFormat_posts (quiet : ∀ f, s.frameOf (s.trackKey v o.fields.block) = some f → (s.frame f).isQuiet = true) :
    let t := (((Ctx.of s).setOrder e a).formatDiscard1 e).finish
    s.posted t e o a v ∧ ∀ f, s.frameOf (s.trackKey v o.fields.block) = some f → t.frame f = { area := (s.frame f).area } := by
  have start := Ctx.toPost_start (v := v) nw free ha.stage
  obtain ⟨granted, ready, freed⟩ := start.discard ht (k := s.trackKey v o.fields.block) quiet
  have asked : ((Ctx.of s).setOrder e a).formatDiscard1 e
      = (((Ctx.of s).setOrder e a).discard (s.trackKey v o.fields.block)).2.formatPost e :=
    (Ctx.formatDiscard1_eq ha start.stands.1).2 granted
  dsimp only
  rw [asked]
  refine ⟨ready.posted ha nw.1, fun f hf => ?_⟩
  obtain ⟨none1, free1, ctl⟩ := Ctx.formatPost_free _ e ready.noneFill (freed f hf)
  have same := ctl.trans ready.ctl
  rw [Ctx.finish_sectors _ ⟨fun x => nw.1.1 (same.symm.trans x), fun x => nw.1.2 (same.symm.trans x)⟩ none1]
  exact free1

omit ht in
/-- A track format whose frame is in use waits for it (R168). -/
theorem Ctx.trackFormat_waits {f : FrameNo} (hf : s.frameOf (s.trackKey v o.fields.block) = some f)
    (used : (s.frame f).isQuiet = false) :
    (((Ctx.of s).setOrder e a).formatDiscard1 e).finish
      = { s with table := s.table.set e.val (.order a), quiet := s.quiet ++ [⟨e, f, false⟩] } := by
  have start := Ctx.toPost_start (v := v) nw free ha.stage
  have refusal : ((Ctx.of s).setOrder e a).discard (s.trackKey v o.fields.block) = (true, (Ctx.of s).setOrder e a) := by
    have found : ((Ctx.of s).setOrder e a).frameOf (s.trackKey v o.fields.block) = some f := hf
    have busy : (((Ctx.of s).setOrder e a).frame f).isQuiet = false := used
    simp [Ctx.discard, found, busy]
  have waits : ((Ctx.of s).setOrder e a).formatDiscard1 e
      = { (Ctx.of s).setOrder e a with quiet := s.quiet ++ [⟨e, f, false⟩] } := by
    have asked := (Ctx.formatDiscard1_eq ha start.stands.1).1
    change (((Ctx.of s).setOrder e a).discard (s.trackKey v o.fields.block)).1 = true → _
      = (((Ctx.of s).setOrder e a).discard (s.trackKey v o.fields.block)).2.waitQuiet e (s.trackKey v o.fields.block) at asked
    rw [refusal] at asked
    have found : ((Ctx.of s).setOrder e a).frameOf (s.trackKey v o.fields.block) = some f := hf
    rw [asked rfl, Ctx.waitQuiet, found]
    rfl
  rw [waits]
  exact Ctx.finish_noPicks nw.1 start.noneFill rfl rfl

end Track
end Accept

/-- Settles O41: each refusal is the end of the order that the checks reach first; a track format comes to its post by a
discard that ends orders at most, and a diskette format's set is gathered without a change. -/
theorem layoutReadDone : Obligations.LayoutReadDone := by
  intro e o v s hf hp
  obtain ⟨ho, format, alive, hd⟩ := State.format?_some hf
  have ended {r : DmaRead} {code : Code} {n : Nat} (hr : wrongLength r 68 = false)
      (refused : (Ctx.of s).layoutRead e o r = (Ctx.of s).endOrder e code n) : ∃ t, exec (.layoutReadDone e r) s = .next t
        ∧ ∃ o', t.order? e = some o' ∧ o'.stage = .finish ∧ o'.result = some ⟨code, n, s.g⟩ :=
    ⟨_, exec_layoutReadDone hf hp hr, by rw [refused]; exact ((Ctx.of s).endOrder_endedWith code n ho alive).finish.1⟩
  refine ⟨ended rfl rfl, fun b hb => ?_⟩
  have whole : wrongLength (.data b) 68 = false := by simp [wrongLength, hb]
  refine ⟨fun x l hx hl => ended whole ?_, fun unlocked => ?_⟩
  · simp [Ctx.layoutRead, hx, hl, Ctx.of]
  have passes : (Ctx.of s).layoutRead e o (.data b) = (Ctx.of s).formatAccept e o (suppliedLayout b) := by
    have none : o.extent.bind ((Ctx.of s).refusingLock o.desk) = none := by
      cases hx : o.extent with
      | none => rfl
      | some x => exact unlocked x hx
    simp only [Ctx.layoutRead, none]
  have runs := exec_layoutReadDone hf hp whole
  rw [passes] at runs
  refine ⟨fun h2 => ended whole ?_, fun l hl => ⟨fun bad => ended whole ?_, fun legal h2 other => ended whole ?_,
    fun legal same used => ended whole ?_, fun legal h2 same unused nw free targets => ?_, fun legal h3 unused nq => ?_⟩⟩
  · rw [passes, suppliedLayout_none h2]
    simp [Ctx.formatAccept, hd]
  · rw [passes, hl, Ctx.formatAccept_illegal hd bad]
  · rw [passes, hl, Ctx.formatAccept_other hd legal h2 other]
  · rw [passes, hl, Ctx.formatAccept_inUse hd legal same used]
  · have track : o.TrackFormat (o.accepted l) v := ⟨format, rfl, rfl, rfl, hd, by simp [OrderFields.trackScope, h2], rfl⟩
    rw [hl, Ctx.formatAccept_track hd legal (fun _ => same) unused h2] at runs
    refine ⟨fun none => ⟨_, runs, (Ctx.trackFormat_posts nw free track targets fun f hf => ?_).1⟩,
      fun f hframe => ⟨fun quiet => ?_, fun busy => ?_⟩⟩
    · exact nomatch none.symm.trans hf
    · obtain ⟨posts, freed⟩ := Ctx.trackFormat_posts nw free track targets fun f' hf' => by
        rw [Option.some.inj (hf'.symm.trans hframe)]; exact quiet
      exact ⟨_, runs, posts, freed f hframe⟩
    · rw [runs, Ctx.trackFormat_waits nw free track hframe busy]
      rfl
  · rw [hl, Ctx.formatAccept_diskette hd legal (fun h2 => absurd (h3.symm.trans h2) (by decide)) unused h3] at runs
    have entries := ((Ctx.of s).gather_entries fun w => w == v).2
    generalize ((Ctx.of s).gather (fun w => w == v) false).1 = ts at runs entries
    have here := (Ctx.setOrder_order? (Ctx.of s) e e { o with
        layout := some l, passed := true, stage := .settle, phase := .drain, targets := ts }).trans (if_pos rfl)
    obtain ⟨⟨o', ho', a⟩, _⟩ := Ctx.finish_order _ here (.inr ⟨format, .inl rfl⟩) nq
    refine ⟨_, runs, o', ho', a.stage, a.phase.resolve_right (fun h => nomatch h.1), by rw [a.rest], by rw [a.rest], ?_⟩
    intro f x held drive hx unsettled nw
    have still := Ctx.finish_order_eq nw.1 (Ctx.NoneFill.setOrder (c := Ctx.of s) nw.2 e (by simp)) here (by simp)
    rw [ho'] at still
    cases still
    refine ⟨_, entries f _ held (by simp [drive]) (List.mem_map_of_mem (List.mem_filter.mpr ⟨hx, ?_⟩)), rfl, rfl, rfl⟩
    obtain h | h | h | h := unsettled <;> rw [h] <;> rfl

end Sys2Proof.Machine

-- ==== Sys2Proof/Proofs/GateWrites.lean ====
namespace Sys2Proof.Machine

open Sys2Proof

/-! ### GATE_OPEN_TIME and GATE_CLOSE (R54, R62, R71, R72) -/

theorem Density.byteTime_eq (d : Density) : d.byteTime = if d = .fm then 32 else 16 := by cases d <;> rfl

/-! #### A sector comes under the head -/

section Busy
variable {c : Ctx} {f : FrameNo} {n : Nat} {x : Sector} {k : Sector → Sector}

theorem SectorState.busy_not {st : SectorState} (h : st.busy = true) : st.candidate = false ∧ st.evictable = false := by
  cases st <;> first | exact ⟨rfl, rfl⟩ | cases h

/-- A record that is no candidate brings no new one to its frame. -/
theorem Frame.modSlot_newCandidate {fr : Frame} (hx : fr.sectors[n]? = some x) (hk : (k x).state.candidate = false) :
    fr.newCandidate (fr.modSlot n k) = false := by
  rw [Bool.eq_false_iff]
  intro hc
  simp only [Frame.newCandidate, Frame.modSlot, Bool.and_eq_true, List.any_eq_true, List.getElem?_modify] at hc
  obtain ⟨held, i, _, hi⟩ := hc
  by_cases hin : n = i
  · subst hin
    simp [hx, hk] at hi
  · cases hy : fr.sectors[i]? <;> simp_all

/-- A frame with a record that may not be evicted may not be. -/
theorem Frame.modSlot_evictable {fr : Frame} (hx : fr.sectors[n]? = some x) (hk : (k x).state.evictable = false) :
    (fr.modSlot n k).evictable = false := by
  rw [Bool.eq_false_iff]
  intro hc
  simp only [Frame.evictable, Frame.modSlot, Bool.and_eq_true, List.all_eq_true] at hc
  have at_n : (fr.sectors.modify n k)[n]? = some (k x) := by simp [hx]
  have := hc.2 _ (List.mem_of_getElem? at_n)
  rw [hk] at this
  cases this

theorem Ctx.putFrame_serve (c : Ctx) (f : FrameNo) (new : Frame) : (c.putFrame f new).serve
    = (c.serve || ((c.frame f).held && !new.held) || (new.evictable && !(c.frame f).evictable)) := by
  rw [c.putFrame_onlyDrives f new, c.replaceFrame_eq f new]

/-- A sector that comes under the head asks for no pick and no service of the queue. -/
theorem Ctx.modSector_busy (hx : (c.frame f).sectors[n]? = some x) (hk : (k x).state.busy = true) :
    (c.modSector f n k).serve = c.serve ∧ (c.modSector f n k).picks = c.picks
      ∧ (c.modSector f n k).rounds = c.rounds := by
  obtain ⟨candidate, evictable⟩ := SectorState.busy_not hk
  rw [Ctx.modSector, Ctx.modFrame]
  refine ⟨?_, ?_, Ctx.putFrame_rounds c f _⟩
  · rw [Ctx.putFrame_serve, Frame.modSlot_evictable hx evictable]
    simp [Frame.modSlot]
  · rw [Ctx.putFrame_picks, Frame.modSlot_newCandidate hx candidate]
    rfl

end Busy

/-! #### The gate opens -/

section Open
variable {s : State} {p : PortNo} {r : Request} {m : Word}

theorem exec_gateOpenTime (hw : (s.chan p).work = some r) (hk : r.kind = .write) (hs : (s.chan p).state = .armed)
    (hm : (s.chan p).found = some m) :
    (reached s.g ((s.chan p).gateOpenDue m) = false → exec (.gateOpenTime p) s = .next s)
    ∧ (reached s.g ((s.chan p).gateOpenDue m) = true → exec (.gateOpenTime p) s = .next ((Ctx.of s).openGate p r).finish) := by
  have work : s.gateWork p = if reached s.g ((s.chan p).gateOpenDue m) = true then some r else none := by
    simp [State.gateWork, State.foundWork, hw, hs, hm, hk, WorkKind.isSector]
  constructor
  all_goals
    intro hr
    change execGateOpenTime p s = _
    rw [execGateOpenTime, work, hr]
    rfl

/-- The channel as its gate opens on the bytes `b` of version `w` (R54). -/
def Channel.opening (h : Channel) (b : List Byte) (w g : Word) : Channel :=
  { h with state := .gate, staging := b, captured := w, opened := g, stream := .sector h.settings.density b }

/-- A sector whose gate has opened (R71). -/
def Sector.begun (x : Sector) : Sector :=
  { x with writtenVer := x.dataVer, check := x.verify, verify := false, redirty := false, state := .writing }

variable {f : FrameNo} {x : Sector}

/-- What GATE_OPEN_TIME makes of a sector that is still DIRTY. -/
def Ctx.gateOpening (s : State) (p : PortNo) (f : FrameNo) (n : Nat) (x : Sector) : Ctx :=
  ((Ctx.of s).modChan p fun h =>
    h.opening (s.areaBytes f ((s.frame f).sectorStart x.number) (s.frame f).size) x.dataVer s.g).modSector f n Sector.begun

theorem Ctx.openGate_dirty (hk : r.kind = .write) (hx : s.sectorAt ⟨r.drive, r.cylinder, r.head⟩ r.slot = some (f, x))
    (hg : (s.frame f).generation = (s.drive r.drive).generation) (hd : x.state = .dirty) :
    (Ctx.of s).openGate p r = Ctx.gateOpening s p f r.slot x := by
  have here : (Ctx.of s).sectorAt ⟨r.drive, r.cylinder, r.head⟩ r.slot = some (f, x) := hx
  have ready : (Ctx.of s).sectorReady r = true := by
    rw [State.sectorReady, here]
    simp only [Bool.and_eq_true, beq_iff_eq]
    exact ⟨hg, by rw [hd, hk]; rfl⟩
  rw [Ctx.openGate, here]
  dsimp only
  rw [if_pos ready]
  rfl

theorem State.readyOrder_of_table {s t : State} (h : s.table = t.table) : s.readyOrder? = t.readyOrder? := by
  simp only [State.readyOrder?, State.order?_of_table h]

/-- The opening of a gate leaves no report and no pick: it ends with the state it made. -/
theorem Ctx.gateOpening_finish (hs : s.still) {n : Nat} (hx : (s.frame f).sectors[n]? = some x) :
    (Ctx.gateOpening s p f n x).finish = (Ctx.gateOpening s p f n x).toState := by
  obtain ⟨serve, picks, rounds⟩ := Ctx.modSector_busy (c := (Ctx.of s).modChan p fun h =>
    h.opening (s.areaBytes f ((s.frame f).sectorStart x.number) (s.frame f).size) x.dataVer s.g) (k := Sector.begun) hx rfl
  have table : (Ctx.gateOpening s p f n x).table = s.table := Ctx.putFrame_table _ f _
  have ctl : (Ctx.gateOpening s p f n x).ctl = s.ctl := State.view_ctl (Ctx.putFrame_view _ f _)
  exact Ctx.finish_none _ ⟨fun h => hs.1.1 (ctl.symm.trans h), fun h => hs.1.2 (ctl.symm.trans h)⟩
    ((State.readyOrder_of_table table).trans hs.2) serve picks rounds

theorem Ctx.gateOpening_chan (n : Nat) (q : PortNo) : (Ctx.gateOpening s p f n x).chan q = if q = p then
    (s.chan p).opening (s.areaBytes f ((s.frame f).sectorStart x.number) (s.frame f).size) x.dataVer s.g else s.chan q := by
  have channels : (Ctx.gateOpening s p f n x).channels = ((Ctx.of s).modChan p fun h =>
      h.opening (s.areaBytes f ((s.frame f).sectorStart x.number) (s.frame f).size) x.dataVer s.g).channels :=
    Ctx.putFrame_channels _ f _
  rw [State.chan_of_channels channels, Ctx.modChan, Ctx.setChan_chan]
  rfl

theorem Ctx.gateOpening_frame {n : Nat} (hx : (s.frame f).sectors[n]? = some x) (f' : FrameNo) :
    (Ctx.gateOpening s p f n x).frame f' = if f' = f then { s.frame f with sectors := (s.frame f).sectors.set n x.begun }
      else s.frame f' := by
  refine (Ctx.putFrame_frame _ f f' _).trans ?_
  split
  · change (s.frame f).modSlot n Sector.begun = _
    rw [Frame.modSlot, List.modify_eq_set_getElem?, hx]
    rfl
  · rfl

/-- The bytes of a sector write: the sync run, the mark, the data with its check, and one byte of gap fill (R54). -/
theorem sectorStream_eq (d : Density) (b : List Byte) : (Stream.sector d b).recorded (b.length + 12)
    = List.replicate 8 ⟨0, false⟩ ++ [⟨0xCB, true⟩]
      ++ (b ++ [crcHigh (crc (0xCB :: b)), crcLow (crc (0xCB :: b)), 0xB4]).map (fun x => ⟨x, false⟩) := by
  have bytes : sectorStream b = List.replicate 8 ⟨0, false⟩ ++ [⟨0xCB, true⟩]
      ++ (b ++ [crcHigh (crc (0xCB :: b)), crcLow (crc (0xCB :: b)), 0xB4]).map (fun x => ⟨x, false⟩) := by
    simp [sectorStream, dataStream, syncAndMark, plain, dataCrc, dataMark, gapFill]
  rw [Stream.recorded, bytes, List.take_of_length_le]
  simp

/-- A channel that becomes IDLE changes itself, the schedulers' holds and the release rounds. -/
theorem Ctx.toIdle_parts (c : Ctx) (p : PortNo) :
    ∃ channels drives rounds, c.toIdle p = { c with channels := channels, drives := drives, rounds := rounds } := by
  unfold Ctx.toIdle
  dsimp only
  split
  · exact ⟨_, _, _, rfl⟩
  · exact ⟨_, _, _, rfl⟩

/-- A write that ends ABANDONED is counted nowhere, owes nothing and tells the store nothing (R52, R53, R76). -/
theorem Ctx.endAttempt_abandoned {c : Ctx} (hw : (c.chan p).work = some r) (hk : r.kind = .write) :
    c.endAttempt p .abandoned = (c.modChan p fun h => h.closeGate c.g).toIdle p := by
  have counted (c : Ctx) : c.countOutcome r .abandoned = c := by
    simp [Ctx.countOutcome, State.outcomeCounters, hk, Outcome.failed]
  have owed (c : Ctx) : c.oweRecal p r .abandoned = c := by
    simp [Ctx.oweRecal, owesRecal, Outcome.failed]
  have told (c : Ctx) : c.reportOutcome p r .abandoned = c := by
    unfold Ctx.reportOutcome Ctx.writeOutcome
    rw [hk]
    dsimp only
    split
    · rfl
    · split
      · rfl
      · rfl
  rw [Ctx.endAttempt, hw]
  dsimp only
  rw [counted, owed, told]
  rfl

/-- The end of a write that ends ABANDONED leaves the store and the orders. -/
theorem Ctx.abandoned_store (hs : s.still) (hw : (s.chan p).work = some r) (hk : r.kind = .write) :
    ((Ctx.of s).endAttempt p .abandoned).finish.store = s.store := by
  rw [Ctx.endAttempt_abandoned (c := Ctx.of s) hw hk]
  obtain ⟨channels, drives, rounds, eq⟩ := ((Ctx.of s).modChan p fun h => h.closeGate (Ctx.of s).g).toIdle_parts p
  rw [eq, Ctx.finish, Ctx.cascade_none _ hs.2 rfl, Ctx.testDone_id _ hs.1.1 hs.1.2, Ctx.picksAndRounds_store]
  rfl

theorem Ctx.openGate_gone (hk : r.kind = .write)
    (hx : s.sectorAt ⟨r.drive, r.cylinder, r.head⟩ r.slot = none
      ∨ ∃ f x, s.sectorAt ⟨r.drive, r.cylinder, r.head⟩ r.slot = some (f, x) ∧ x.state ≠ .dirty) :
    (Ctx.of s).openGate p r = (Ctx.of s).endAttempt p .abandoned := by
  obtain hx | ⟨f, x, hx, hd⟩ := hx
  · have here : (Ctx.of s).sectorAt ⟨r.drive, r.cylinder, r.head⟩ r.slot = none := hx
    rw [Ctx.openGate, here]
  · have here : (Ctx.of s).sectorAt ⟨r.drive, r.cylinder, r.head⟩ r.slot = some (f, x) := hx
    have gone : (Ctx.of s).sectorReady r = false := by
      rw [State.sectorReady, here]
      simp [hk, WorkKind.sectorState, hd]
    rw [Ctx.openGate, here]
    dsimp only
    rw [gone]
    rfl

end Open

/-! #### What a WRITE in SETTLE hears of a settling (R77, R143, R144) -/

section Settling
variable {c : Ctx} {e : EntryNo} {o : Order} {g : Word}

/-- A report about a sector reaches one order (R143). -/
def Ctx.reportTo (c : Ctx) (f : FrameNo) (sector attempt : Nat) (change : Target → TargetState) (e : EntryNo) : Ctx :=
  match c.order? e with
  | none => c
  | some o =>
    let hit (t : Target) : Bool := t.frame == f && t.sector == sector && t.awaited
    if o.targets.any hit then
      let o1 := { o with
        targets := o.targets.map fun t => if hit t then { t with state := change t } else t
        highest := if o.fields.kind? = some .format then o.highest else max o.highest attempt }
      (c.setOrder e (if o.fields.kind? = some .write then o1.noteFailure else o1)).settleCheck e
    else c

theorem Ctx.reportTargets_eq (c : Ctx) (f : FrameNo) (n a : Nat) (change : Target → TargetState) :
    c.reportTargets f n a change = c.forEntries fun e c => c.reportTo f n a change e := rfl

theorem Ctx.settleCheck_cases (c : Ctx) (e : EntryNo) :
    c.settleCheck e = c ∨ ∃ code n, c.settleCheck e = c.endOrder e code n := by
  unfold Ctx.settleCheck
  repeat' split
  all_goals first | exact .inl rfl | exact .inr ⟨_, _, rfl⟩

/-- What a report about a sector does to an order leaves the others, and what has ended, as they were. -/
theorem Ctx.reportTo_cases (c : Ctx) (f : FrameNo) (n a : Nat) (change : Target → TargetState) (e : EntryNo) :
    c.reportTo f n a change e = c ∨ ∃ o, c.reportTo f n a change e = c.setOrder e o
      ∨ ∃ code k, c.reportTo f n a change e = (c.setOrder e o).endOrder e code k := by
  unfold Ctx.reportTo
  split
  · exact .inl rfl
  · dsimp only
    split
    · exact .inr ⟨_, (Ctx.settleCheck_cases _ e).imp id fun ⟨code, k, h⟩ => ⟨code, k, h⟩⟩
    · exact .inl rfl

theorem Ctx.Stands.reportTo (h : c.Stands e o g) {e' : EntryNo} (he : e' ≠ e) (f : FrameNo) (n a : Nat)
    (change : Target → TargetState) : (c.reportTo f n a change e').Stands e o g := by
  have placed (o' : Order) : (c.setOrder e' o').Stands e o g := by
    obtain ⟨ho, free, hg⟩ := h
    exact ⟨by rw [Ctx.setOrder_order?, if_neg (Ne.symm he)]; exact ho, free, hg⟩
  obtain eq | ⟨o', eq | ⟨code, k, eq⟩⟩ := c.reportTo_cases f n a change e' <;> rw [eq]
  · exact h
  · exact placed o'
  · exact (placed o').endOrder he code k

/-- The targets of an order after the settling of version `w` of a sector (R77). -/
def Order.settledTargets (o : Order) (f : FrameNo) (n : Nat) (w : Word) : List Target :=
  o.targets.map fun y =>
    if y.frame = f ∧ y.sector = n ∧ y.state = .awaited ∧ (w - y.version).toNat < 2 ^ 31 then { y with state := .durable } else y

/-- A WRITE in SETTLE that follows a sector, told of its settling. -/
def Order.hears (o : Order) (f : FrameNo) (n : Nat) (w : Word) (a : Nat) : Order :=
  { o with targets := o.settledTargets f n w, highest := max o.highest a }

theorem Order.settling.noFailure (h : o.settling) (f : FrameNo) (n : Nat) (w : Word) (a : Nat) :
    (o.hears f n w a).noteFailure = o.hears f n w a := by
  obtain ⟨_, _, failure, _, clean⟩ := h
  have none : firstFailure (o.settledTargets f n w) = none := by
    rw [firstFailure, List.findSome?_eq_none_iff]
    intro y hy
    obtain ⟨z, hz, rfl⟩ := List.mem_map.mp hy
    split
    · rfl
    · exact clean z hz
  unfold Order.noteFailure
  have same : (o.hears f n w a).failure = o.failure := rfl
  rw [same, failure]
  dsimp only
  have targets : (o.hears f n w a).targets = o.settledTargets f n w := rfl
  rw [targets, none, ← failure]
  rfl

/-- What the settling of its sector does to a WRITE in SETTLE: it stands while a target is awaited, and ends OK after the last. -/
theorem Ctx.reportTo_settling (ho : c.order? e = some o) (hs : o.settling) {f : FrameNo} {n : Nat} (hf : o.follows f n) (w : Word)
    (a : Nat) :
    let c' := c.reportTo f n a (fun t => if notOlder w t.version then .durable else .awaited) e
    ((∃ y ∈ o.settledTargets f n w, y.state = .awaited) → c' = c.setOrder e (o.hears f n w a))
    ∧ ((∀ y ∈ o.settledTargets f n w, y.state ≠ .awaited) → c' = (c.setOrder e (o.hears f n w a)).endOrder e .ok 0) := by
  obtain ⟨kind, stage, failure, fill, clean⟩ := id hs
  obtain ⟨y, hy, hframe, hsector, hstate⟩ := hf
  have hit : o.targets.any (fun t => t.frame == f && t.sector == n && t.awaited) = true :=
    List.any_eq_true.mpr ⟨y, hy, by simp [hframe, hsector, hstate, Target.awaited]⟩
  have targets : o.targets.map (fun t => if t.frame == f && t.sector == n && t.awaited then
      { t with state := if notOlder w t.version then .durable else .awaited } else t) = o.settledTargets f n w := by
    refine List.map_congr_left fun t _ => ?_
    by_cases ht : t.frame = f ∧ t.sector = n ∧ t.state = .awaited
    · obtain ⟨hfr, hse, hst⟩ := ht
      rw [if_pos (show _ = true by simp [hfr, hse, hst, Target.awaited])]
      by_cases hw : (w - t.version).toNat < 2 ^ 31
      · have older : t.frame = f ∧ t.sector = n ∧ t.state = .awaited ∧ (w - t.version).toNat < 2 ^ 31 := ⟨hfr, hse, hst, hw⟩
        rw [if_pos older, show notOlder w t.version = true from decide_eq_true hw]
        rfl
      · have newer : ¬ (t.frame = f ∧ t.sector = n ∧ t.state = .awaited ∧ (w - t.version).toNat < 2 ^ 31) := fun h => hw h.2.2.2
        rw [if_neg newer, show notOlder w t.version = false from decide_eq_false hw, ← hst]
        rfl
    · have plain : ¬ (t.frame = f ∧ t.sector = n ∧ t.state = .awaited ∧ (w - t.version).toNat < 2 ^ 31) :=
        fun h => ht ⟨h.1, h.2.1, h.2.2.1⟩
      rw [if_neg plain, if_neg (by simpa [Target.awaited, and_assoc] using ht)]
  have told : c.reportTo f n a (fun t => if notOlder w t.version then .durable else .awaited) e
      = (c.setOrder e (o.hears f n w a)).settleCheck e := by
    rw [Ctx.reportTo, ho]
    dsimp only
    rw [if_pos hit, if_pos kind, if_neg (by rw [kind]; decide), targets]
    rw [← hs.noFailure f n w a]
    rfl
  have here : (c.setOrder e (o.hears f n w a)).order? e = some (o.hears f n w a) := by rw [Ctx.setOrder_order?, if_pos rfl]
  have check : (c.setOrder e (o.hears f n w a)).settleCheck e = if (o.settledTargets f n w).any Target.awaited then
      c.setOrder e (o.hears f n w a) else (c.setOrder e (o.hears f n w a)).endOrder e .ok 0 := by
    have settle : ¬ (o.hears f n w a).stage ≠ .settle := not_not.mpr stage
    have write : (o.hears f n w a).fields.kind? = some .write := kind
    have clear : (o.hears f n w a).failure = none := failure
    have code : (o.hears f n w a).okCode = (.ok, 0) := by
      have same : (o.hears f n w a).fillUsed = none := fill
      rw [Order.okCode, same]
    rw [Ctx.settleCheck, here]
    dsimp only
    rw [if_neg settle, write]
    dsimp only
    rw [hs.noFailure f n w a, clear, code]
    rfl
  dsimp only
  rw [told, check]
  refine ⟨fun ⟨t, ht, hst⟩ => if_pos (List.any_eq_true.mpr ⟨t, ht, by simp [Target.awaited, hst]⟩), fun hn => if_neg ?_⟩
  simpa [List.any_eq_true, Target.awaited] using hn

/-- What the settling of a sector does to a WRITE in SETTLE that follows it, where no CHECKOUT waits. -/
theorem Ctx.Stands.sectorSettled (h : c.Stands e o g) (hs : o.settling) {f : FrameNo} {n : Nat} (hf : o.follows f n) (w : Word)
    (a : Nat) :
    ((∃ y ∈ o.settledTargets f n w, y.state = .awaited) → (c.sectorSettled f n w a).Stands e (o.hears f n w a) g)
    ∧ ((∀ y ∈ o.settledTargets f n w, y.state ≠ .awaited) →
        (c.sectorSettled f n w a).Stands e ((o.hears f n w a).finished g .ok 0) g) := by
  rw [Ctx.sectorSettled, Ctx.reportTargets_eq]
  constructor
  · intro more
    refine Ctx.forEntries_meet (e := e) (P := fun c => c.Stands e o g) (Q := fun c => c.Stands e (o.hears f n w a) g) c h
      (fun e' c he h => h.reportTo he f n a _) (fun c h => ?_) (fun e' c he h => h.reportTo he f n a _)
    obtain ⟨ho, free, hg⟩ := h
    rw [(Ctx.reportTo_settling ho hs hf w a).1 more]
    exact ⟨by rw [Ctx.setOrder_order?, if_pos rfl], free, hg⟩
  · intro last
    refine Ctx.forEntries_meet (e := e) (P := fun c => c.Stands e o g) (Q := fun c => c.Stands e ((o.hears f n w a).finished g .ok 0) g)
      c h (fun e' c he h => h.reportTo he f n a _) (fun c h => ?_) (fun e' c he h => h.reportTo he f n a _)
    obtain ⟨ho, free, hg⟩ := h
    rw [(Ctx.reportTo_settling ho hs hf w a).2 last, ← hg]
    have here : (c.setOrder e (o.hears f n w a)).order? e = some (o.hears f n w a) := by rw [Ctx.setOrder_order?, if_pos rfl]
    have alive : (o.hears f n w a).stage ≠ .finish := by
      rw [show (o.hears f n w a).stage = o.stage from rfl, hs.2.1]
      decide
    exact ⟨Ctx.endOrder_self _ e _ .ok 0 here alive, ((c.setOrder e (o.hears f n w a)).endOrder_endedWith .ok 0 here alive).2.2,
      State.view_g (Ctx.endOrder_view _ e .ok 0)⟩

end Settling

/-! #### The gate closes -/

section Good
variable {c : Ctx} {f : FrameNo} {n : Nat} {x : Sector} {k : Key}

/-- A sector in WRITING whose write has ended GOOD with the data CRC `w` (R72). -/
def Sector.afterGoodWrite (x : Sector) (w : Half) (g : Word) : Sector :=
  let y : Sector := { x with writtenCrc := w }
  let z : Sector := { y with settledVer := x.writtenVer, check := false, attempts := 0 }
  if x.check then { y with state := .checkDue, stamp := g }
  else if x.redirty then { z with redirty := false, state := .dirty, stamp := g }
  else { z with state := .valid, rush := false }

/-- From `c` to `c'` the record in slot `n` of frame `f` became `y`, and orders end at most. -/
structure Ctx.SlotBecomes (c : Ctx) (f : FrameNo) (n : Nat) (y : Sector) (c' : Ctx) : Prop where
  sectors : (c'.frame f).sectors = (c.frame f).sectors.set n y
  area : (c'.frame f).area = (c.frame f).area
  others : ∀ f', f' ≠ f → (c'.frame f').sectors = (c.frame f').sectors
  fills : c.NoneFill → c'.NoneFill
  view : c'.view = c.view
  channels : c'.channels = c.channels ∧ c'.rounds = c.rounds

theorem Ctx.modSector_becomes (hx : (c.frame f).sectors[n]? = some x) (h : Sector → Sector) :
    c.SlotBecomes f n (h x) (c.modSector f n h) := by
  obtain ⟨sectors, others⟩ := c.modSector_sectors hx h
  refine ⟨sectors, ?_, fun f' hf => by rw [others f' hf], c.modSector_fills f n h, c.modSector_view f n h,
    Ctx.putFrame_channels c f _, Ctx.putFrame_rounds c f _⟩
  rw [Ctx.modSector, Ctx.modFrame, Ctx.putFrame_frame, if_pos rfl]
  rfl

theorem Ctx.SlotBecomes.trans {c' c'' : Ctx} {y z : Sector} (h : c.SlotBecomes f n y c') (h' : c'.SlotBecomes f n z c'') :
    c.SlotBecomes f n z c'' where
  sectors := by rw [h'.sectors, h.sectors, List.set_set]
  area := h'.area.trans h.area
  others f' hf := (h'.others f' hf).trans (h.others f' hf)
  fills hn := h'.fills (h.fills hn)
  view := h'.view.trans h.view
  channels := ⟨h'.channels.1.trans h.channels.1, h'.channels.2.trans h.channels.2⟩

theorem Ctx.SlotBecomes.found {c' : Ctx} {y : Sector} (h : c.SlotBecomes f n y c') (hx : (c.frame f).sectors[n]? = some x) :
    (c'.frame f).sectors[n]? = some y := by
  rw [h.sectors, List.getElem?_set_self']
  simp [hx]

theorem Ctx.sectorSettled_steps (c : Ctx) (f : FrameNo) (n : Nat) (w : Word) (a : Nat) :
    Steps (fun _ => True) Frame.UsesOnly c (c.sectorSettled f n w a) :=
  Works.sectorSettled (P := fun _ => False) (Q := False) (fun _ _ => rfl) (fun _ h => h.elim) c f n w a
    (fun _ _ _ h => h) fun _ h => absurd trivial h

theorem Ctx.SlotBecomes.settled {c' : Ctx} {y : Sector} (h : c.SlotBecomes f n y c') (m : Nat) (w : Word) (a : Nat) :
    c.SlotBecomes f n y (c'.sectorSettled f m w a) := by
  have steps := c'.sectorSettled_steps f m w a
  have ended := steps.ends
  have area := steps.frame_rel (R := fun a b => b.area = a.area) (fun _ => rfl) (fun _ _ _ h h' => h'.trans h)
    (fun a b hab => by rw [hab]) f
  exact ⟨(ended.sectors f).trans h.sectors, area.trans h.area, fun f' hf => (ended.sectors f').trans (h.others f' hf),
    fun hn => ended.fills (h.fills hn), steps.view.trans h.view, steps.channels.1.trans h.channels.1,
    steps.channels.2.trans h.channels.2⟩

/-- A sector whose write has settled (R72). -/
def Sector.settledAt (x : Sector) (g : Word) : Sector :=
  let y := { x with settledVer := x.writtenVer, check := false, attempts := 0 }
  if x.redirty then { y with redirty := false, state := .dirty, stamp := g } else { y with state := .valid, rush := false }

theorem Ctx.settleWrite_eq (hx : (c.frame f).sectors[n]? = some x) (a : Nat) : c.settleWrite f n a
    = (c.modSector f n fun _ => x.settledAt c.g).sectorSettled f x.number x.writtenVer a := by
  rw [Ctx.settleWrite, hx]
  rfl

/-- What a write that ends GOOD leaves in the store: the record, and, where no check is due, the report of its settling. -/
theorem Ctx.writeOutcome_good (hx : c.sectorAt k n = some (f, x)) (hw : x.state = .writing) (ctl : c.ctl ≠ .shedding) (a : Nat)
    (w : Half) :
    c.SlotBecomes f n (x.afterGoodWrite w c.g) (c.writeOutcome k n a .good w)
    ∧ (x.check = false → ∃ c1 : Ctx, c.writeOutcome k n a .good w = c1.sectorSettled f x.number x.writtenVer a
        ∧ c1.table = c.table ∧ c1.waiters = c.waiters ∧ c1.g = c.g) := by
  have found := State.sectorAt_some hx
  have first := c.modSector_becomes found fun x => { x with writtenCrc := w }
  have at1 := first.found found
  have table1 : (c.modSector f n fun x => { x with writtenCrc := w }).table = c.table := Ctx.putFrame_table c f _
  have waiters1 : (c.modSector f n fun x => { x with writtenCrc := w }).waiters = c.waiters := Ctx.putFrame_waiters c f _
  have outcome : c.writeOutcome k n a .good w = if x.check && c.ctl != .shedding then
      (c.modSector f n fun x => { x with writtenCrc := w }).modSector f n fun x => { x with state := .checkDue, stamp := c.g }
      else (c.modSector f n fun x => { x with writtenCrc := w }).settleWrite f n a := by
    rw [Ctx.writeOutcome, hx]
    dsimp only
    rw [if_neg (not_not.mpr hw), if_pos rfl]
  rw [outcome]
  generalize (c.modSector f n fun x => { x with writtenCrc := w }) = c1 at first at1 table1 waiters1 ⊢
  have g1 : c1.g = c.g := State.view_g first.view
  cases check : x.check
  · have after : x.afterGoodWrite w c.g = Sector.settledAt { x with writtenCrc := w } c.g := by
      rw [Sector.afterGoodWrite, check]
      rfl
    rw [if_neg (by simp), Ctx.settleWrite_eq at1, g1, after]
    generalize Sector.settledAt { x with writtenCrc := w } c.g = z
    refine ⟨(first.trans (Ctx.modSector_becomes at1 fun _ => z)).settled _ _ _, fun _ => ⟨_, rfl, ?_, ?_, ?_⟩⟩
    · exact (Ctx.putFrame_table c1 f _).trans table1
    · exact (Ctx.putFrame_waiters c1 f _).trans waiters1
    · exact (State.view_g (c1.modSector_view f n _)).trans g1
  · rw [if_pos (by simp [ctl])]
    refine ⟨?_, fun h => nomatch h⟩
    rw [Sector.afterGoodWrite, if_pos check]
    exact first.trans (Ctx.modSector_becomes at1 fun x => { x with state := .checkDue, stamp := c.g })

end Good

section Close
variable {s : State} {p : PortNo} {r : Request}

theorem exec_gateClose (hs : (s.chan p).state = .gate) :
    (reached s.g (s.chan p).gateCloseDue = false → exec (.gateClose p) s = .next s)
    ∧ (reached s.g (s.chan p).gateCloseDue = true → exec (.gateClose p) s
        = .next ((Ctx.of s).endAttempt p (if (s.chan p).acrossRestart then .abandoned else .good)).finish) := by
  have due : s.gateCloseDue p = reached s.g (s.chan p).gateCloseDue := by simp [State.gateCloseDue, hs]
  constructor
  all_goals
    intro hr
    change execGateClose p s = _
    rw [execGateClose, due, hr]
    rfl

/-- The gate of a channel is closed, and the good attempt is counted. -/
def Ctx.gateClosed (s : State) (p : PortNo) (r : Request) : Ctx :=
  ((Ctx.of s).modChan p fun h => h.closeGate s.g).countOutcome r .good

theorem Ctx.gateClosed_parts (s : State) (p : PortNo) (r : Request) : ∃ drives, Ctx.gateClosed s p r
    = { (Ctx.of s).modChan p (fun h => h.closeGate s.g) with drives := drives } := by
  have walk : ∀ (l : List Counter) (c : Ctx), ∃ drives, l.foldl (fun c k => c.count r.drive k) c = { c with drives := drives } := by
    intro l
    induction l with
    | nil => exact fun c => ⟨c.drives, rfl⟩
    | cons k l ih =>
      intro c
      obtain ⟨drives, eq⟩ := ih (c.count r.drive k)
      exact ⟨drives, eq⟩
  exact walk _ _

theorem Ctx.gateClosed_chan (s : State) (p : PortNo) (r : Request) :
    (Ctx.gateClosed s p r).chan p = (s.chan p).closeGate s.g := by
  obtain ⟨drives, eq⟩ := Ctx.gateClosed_parts s p r
  rw [eq]
  exact Ctx.setChan_chan_self _ p _

/-- The end of a good write: the store is told, and the burst is asked to go on (R43, R50). -/
theorem Ctx.endAttempt_good (hw : (s.chan p).work = some r) (hk : r.kind = .write) : (Ctx.of s).endAttempt p .good
    = ((((Ctx.gateClosed s p r).writeOutcome ⟨r.drive, r.cylinder, r.head⟩ r.slot r.attempt .good
        (crc (0xCB :: (s.chan p).staging))).cascade.testDone).burstQuery p r) := by
  have work : ((Ctx.of s).chan p).work = some r := hw
  have staging : ((Ctx.gateClosed s p r).chan p).staging = (s.chan p).staging := by
    rw [Ctx.gateClosed_chan, Channel.closeGate]
    split <;> rfl
  have told : (Ctx.gateClosed s p r).reportOutcome p r .good = (Ctx.gateClosed s p r).writeOutcome ⟨r.drive, r.cylinder, r.head⟩
      r.slot r.attempt .good (crc (0xCB :: (s.chan p).staging)) := by
    unfold Ctx.reportOutcome
    rw [hk, ← staging]
    rfl
  rw [Ctx.endAttempt, work, ← told]
  rfl

/-- After the burst query the gate is closed, and the store is as it was. -/
theorem Ctx.burstQuery_parts (c : Ctx) (p : PortNo) (r : Request) :
    (∃ channels drives rounds, c.burstQuery p r = { c with channels := channels, drives := drives, rounds := rounds })
    ∧ ((c.burstQuery p r).chan p).gateOpen = false ∧ ((c.burstQuery p r).chan p).closed = (c.chan p).closed := by
  have idle : (∃ channels drives rounds, c.toIdle p = { c with channels := channels, drives := drives, rounds := rounds })
      ∧ ((c.toIdle p).chan p).gateOpen = false ∧ ((c.toIdle p).chan p).closed = (c.chan p).closed := by
    refine ⟨c.toIdle_parts p, ?_⟩
    have channel : ∃ b, (c.toIdle p).chan p = (c.chan p).idled b := by
      unfold Ctx.toIdle
      dsimp only
      split
      · exact ⟨false, Ctx.setChan_chan_self c p _⟩
      · exact ⟨true, Ctx.setChan_chan_self c p _⟩
    obtain ⟨b, eq⟩ := channel
    rw [eq]
    exact ⟨rfl, rfl⟩
  unfold Ctx.burstQuery
  dsimp only
  split
  · split
    · refine ⟨⟨_, c.drives, c.rounds, rfl⟩, ?_⟩
      rw [Ctx.setChan_chan_self]
      exact ⟨rfl, rfl⟩
    · exact idle
  · exact idle

section Written
variable (hw : (s.chan p).work = some r) (hk : r.kind = .write) (hs : (s.chan p).state = .gate) (nw : s.noneWaiting) {f : FrameNo}
  {x : Sector} (hx : s.sectorAt ⟨r.drive, r.cylinder, r.head⟩ r.slot = some (f, x)) (writing : x.state = .writing)

/-- The store as a good write is told to it. -/
def Ctx.goodWrite (s : State) (p : PortNo) (r : Request) : Ctx :=
  (Ctx.gateClosed s p r).writeOutcome ⟨r.drive, r.cylinder, r.head⟩ r.slot r.attempt .good (crc (0xCB :: (s.chan p).staging))

include nw hx writing

theorem Ctx.goodWrite_becomes :
    (Ctx.gateClosed s p r).SlotBecomes f r.slot (x.afterGoodWrite (crc (0xCB :: (s.chan p).staging)) s.g) (Ctx.goodWrite s p r)
    ∧ (x.check = false → ∃ c1 : Ctx, Ctx.goodWrite s p r = c1.sectorSettled f x.number x.writtenVer r.attempt
        ∧ c1.table = s.table ∧ c1.waiters = s.waiters ∧ c1.g = s.g) := by
  obtain ⟨drives, parts⟩ := Ctx.gateClosed_parts s p r
  have ctl : (Ctx.gateClosed s p r).ctl = s.ctl := by rw [parts]; rfl
  have g : (Ctx.gateClosed s p r).g = s.g := by rw [parts]; rfl
  have table : (Ctx.gateClosed s p r).table = s.table := by rw [parts]; rfl
  have waiters : (Ctx.gateClosed s p r).waiters = s.waiters := by rw [parts]; rfl
  have frames : (Ctx.gateClosed s p r).frames = s.frames := by rw [parts]; rfl
  have good := Ctx.writeOutcome_good (c := Ctx.gateClosed s p r) ((State.sectorAt_of_frames frames _ _).trans hx) writing
    (by rw [ctl]; exact nw.1.2) r.attempt (crc (0xCB :: (s.chan p).staging))
  rwa [g, table, waiters] at good

include hw hk hs

/-- What the end of a good write leaves, from the state before the command. -/
theorem Ctx.goodWrite_finish :
    let t := ((Ctx.of s).endAttempt p .good).finish
    t.store = (Ctx.goodWrite s p r).store ∧ (t.chan p).gateOpen = false ∧ (t.chan p).closed = s.g := by
  obtain ⟨drives, parts⟩ := Ctx.gateClosed_parts s p r
  have ctl : (Ctx.gateClosed s p r).ctl = s.ctl := by rw [parts]; rfl
  have none0 : (Ctx.gateClosed s p r).NoneFill := by rw [parts]; exact nw.2
  have closed : ((Ctx.gateClosed s p r).chan p).closed = s.g := by
    rw [Ctx.gateClosed_chan, Channel.closeGate, if_pos (by simp [Channel.gateOpen, hs])]
  obtain ⟨becomes, _⟩ := Ctx.goodWrite_becomes nw hx writing (p := p)
  dsimp only
  rw [Ctx.endAttempt_good hw hk, ← Ctx.goodWrite]
  generalize Ctx.goodWrite s p r = c1 at becomes ⊢
  have none1 := becomes.fills none0
  have ctl1 : c1.ctl = s.ctl := (State.view_ctl becomes.view).trans ctl
  have calm1 : c1.calm := ⟨fun h => nw.1.1 (ctl1.symm.trans h), fun h => nw.1.2 (ctl1.symm.trans h)⟩
  have closed1 : (c1.chan p).closed = s.g := (congrArg Channel.closed (State.chan_of_channels becomes.channels.1 p)).trans closed
  rw [c1.cascade_noQueue (c1.readyOrder_none none1.2) none1.1, Ctx.testDone_id { c1 with serve := false } calm1.1 calm1.2]
  obtain ⟨⟨channels, drives, rounds, eq⟩, gate, time⟩ := ({ c1 with serve := false } : Ctx).burstQuery_parts p r
  have ends := Ctx.finish_gate _ gate
  refine ⟨?_, ends.1, (ends.2.trans time).trans closed1⟩
  rw [eq]
  exact Ctx.finish_store _ calm1 (c1.readyOrder_none none1.2) none1.1

omit hw hk hs in
/-- What a WRITE in SETTLE has become where the store was told of a good write without a check. -/
theorem Ctx.goodWrite_settles (check : x.check = false) (free : s.waiters = []) {t : State}
    (store : t.store = (Ctx.goodWrite s p r).store) {e : EntryNo} {o : Order} (ho : s.order? e = some o) (ho2 : o.settling)
    (hf : o.follows f x.number) :
    ∃ o', t.order? e = some o' ∧ o'.highest = max o.highest r.attempt
      ∧ ((∃ y ∈ o.settledTargets f x.number x.writtenVer, y.state = .awaited) →
          o'.stage = .settle ∧ o'.targets = o.settledTargets f x.number x.writtenVer)
      ∧ ((∀ y ∈ o.settledTargets f x.number x.writtenVer, y.state ≠ .awaited) →
          o'.stage = .finish ∧ o'.result = some ⟨.ok, 0, s.g⟩) := by
  obtain ⟨c1, eq, table, waiters, g⟩ := (Ctx.goodWrite_becomes nw hx writing (p := p)).2 check
  have stands : c1.Stands e o s.g :=
    ⟨(State.order?_of_table table e).trans ho, by rw [waiters, free]; exact fun _ h => (nomatch h), g⟩
  obtain ⟨more, last⟩ := stands.sectorSettled ho2 hf x.writtenVer r.attempt
  rw [eq] at store
  by_cases awaits : ∃ y ∈ o.settledTargets f x.number x.writtenVer, y.state = .awaited
  · obtain ⟨o', ho', same⟩ := State.order_of_store store (more awaits).1
    exact ⟨o', ho', by rw [same]; rfl, fun _ => ⟨by rw [same]; exact ho2.2.1, by rw [same]; rfl⟩,
      fun none => awaits.elim fun y hy => absurd hy.2 (none y hy.1)⟩
  · have none : ∀ y ∈ o.settledTargets f x.number x.writtenVer, y.state ≠ .awaited := fun y hy h => awaits ⟨y, hy, h⟩
    obtain ⟨o', ho', same⟩ := State.order_of_store store (last none).1
    exact ⟨o', ho', by rw [same]; rfl, fun some => absurd some awaits, fun _ => by rw [same]; exact ⟨rfl, rfl⟩⟩

end Written
end Close

/-- Settles O50: the opening of a gate is one change of a channel and of one record, a write that ends ABANDONED leaves the
store, and a good one changes its record and reports the settling, which a WRITE in SETTLE hears once. -/
theorem sectorWrites : Obligations.SectorWrites := by
  intro p r s hw hk
  refine ⟨fun m hs hm => ?_, fun hs => ?_⟩
  · obtain ⟨early, due⟩ := exec_gateOpenTime hw hk hs hm
    rw [Channel.gateOpenDue, Density.byteTime_eq, later] at early due
    refine ⟨early, fun hr still => ⟨fun f x hx hg hd => ?_, fun gone => ?_⟩⟩
    · have found := State.sectorAt_some hx
      have chan (q : PortNo) := Ctx.gateOpening_chan (s := s) (p := p) (f := f) (x := x) r.slot q
      have frame := Ctx.gateOpening_frame (p := p) found
      have runs := due hr
      rw [Ctx.openGate_dirty hk hx hg hd, Ctx.gateOpening_finish still found] at runs
      have here := (chan p).trans (if_pos rfl)
      refine ⟨_, runs, here, ?_, fun hp => ?_, (frame f).trans (if_pos rfl), fun f' hf => (frame f').trans (if_neg hf),
        fun q hq => (chan q).trans (if_neg hq), Ctx.putFrame_table _ f _, Ctx.putFrame_view _ f _⟩
      · rw [here]
        exact sectorStream_eq _ _
      · subst hp
        rw [State.writeGate, here]
        simp [Channel.opening, Channel.gateOpen, hw]
    · have runs := due hr
      rw [Ctx.openGate_gone hk gone] at runs
      exact ⟨_, runs, Ctx.abandoned_store still hw hk⟩
  · obtain ⟨early, due⟩ := exec_gateClose hs
    rw [Channel.gateCloseDue, Density.byteTime_eq, later] at early due
    refine ⟨early, fun hr across still => ?_, fun f x hr alone nw hx writing => ?_⟩
    · have runs := due hr
      rw [across] at runs
      exact ⟨_, runs, Ctx.abandoned_store still hw hk⟩
    · have runs := due hr
      rw [alone] at runs
      change _ = Host.Outcome.next ((Ctx.of s).endAttempt p .good).finish at runs
      obtain ⟨store, gate, closed⟩ := Ctx.goodWrite_finish hw hk hs nw hx writing
      have becomes := (Ctx.goodWrite_becomes nw hx writing (p := p)).1
      obtain ⟨drives, parts⟩ := Ctx.gateClosed_parts s p r
      have before (f' : FrameNo) : (Ctx.gateClosed s p r).frame f' = s.frame f' := by rw [parts]; rfl
      have frame (f' : FrameNo) : (((Ctx.of s).endAttempt p .good).finish).frame f' = (Ctx.goodWrite s p r).frame f' :=
        congrArg (fun x : Vector Frame 16 => x[f'.val]) (congrArg StoreView.frames store)
      refine ⟨_, runs, closed, fun hp => ?_, ?_, fun f' hf => ?_, ?_, fun check free e o ho settling follows => ?_⟩
      · subst hp
        exact Bool.and_eq_false_imp.mpr fun h => absurd (gate.symm.trans h) (by simp)
      · rw [frame]
        exact becomes.area.trans (by rw [before])
      · rw [frame]
        exact (becomes.others f' hf).trans (by rw [before])
      · rw [frame]
        exact becomes.sectors.trans (by rw [before]; rfl)
      · exact Ctx.goodWrite_settles nw hx writing check free store ho settling follows

end Sys2Proof.Machine

-- ==== Sys2Proof/Proofs/FillingFormat.lean ====
namespace Sys2Proof.Machine

open Sys2Proof

/-! ### INDEX_PULSE at the track job of a FORMAT that stands in FILL

The clause of a diskette format that goes on to its next track names the phase of the order, and not its stage. No command brings
a FORMAT into FILL, but the statement is about every state: there the cascade of the same pulse sets such an order going, and the
order that has just posted its next job ends. -/

namespace FillingFormat

/-- A layout without a slot: a track write of it is complete at once. -/
def layout : Layout := { density := .mfm, sizeCode := 0, spt := 0, first := 1, g0 := 0, g3 := 0, map := [] }

/-- A diskette format of drive 0 whose job of track 0 is posted, in FILL at frame 0 with its wants to be made. -/
def order : Order :=
  { addr := 0, desk := 0, generation := 0, takeStamp := 0, seq := 0, stage := .fill
    fields :=
      { kind := 8, options := 0, drive := 0, block := 0, count := 1, mode := 0, scope := 1, offset := 0, length := 0
        buffer := 0, buffer2 := 0 }
    track := some 0, frame := some 0, wantsDue := true, phase := .posted }

def job : Job :=
  { kind := .formatTrack, cylinder := 0, head := 0, stamp := 0, rush := false, requester := .format 0, running := true
    density := .mfm, fill := 0 }

def request : Request :=
  { drive := 0, kind := .formatTrack, cylinder := 0, head := 0, slot := 0, start := 0, overdue := false, rush := false
    attempt := 0, density := .mfm, fill := 0 }

/-- The track write of that job runs on drive 0, and the sector that the order wants is BAD. -/
def state : State :=
  { ctl := .running
    drives := (Vector.replicate 4 {}).set 0 { state := .formatting, sched := { job := some job } }
    channels := (Vector.replicate 2 {}).set 0
      { state := .trackWrite, work := some request, stream := .track layout 0 0 0 }
    frames := (Vector.replicate 16 {}).set 0
      { held := true, sectors := [⟨.bad, 0, 0, 0, 0, 0, 0, false, 0, false, false, false, .write⟩] }
    table := (Vector.replicate 32 .free).set 0 (.order order) }

/-- The phase of the order in entry 0 after a command. -/
def phaseAfter (x : Host.Outcome State Fault Refusal) : Option FormatPhase :=
  match x with
  | .next t => (t.order? 0).map Order.phase
  | _ => none

/-- The pulse that ends the track write leaves the order ended, without a phase. -/
theorem phase_after_pulse : phaseAfter (exec (.indexPulse 0) state) = some .none := by decide +kernel

theorem notQueued : state.notQueued 0 := ⟨fun _ h => (nomatch h), fun _ h => nomatch h⟩

end FillingFormat

/-- Refutes O52: the order of a diskette format that stands in FILL ends HARD_READ in the cascade of the pulse that posted its next
job, and so is not left with that job POSTED. -/
theorem not_trackJobsAtIndexPulses : ¬ Obligations.TrackJobsAtIndexPulses := by
  intro claim
  obtain ⟨_, ending, _⟩ := claim.1 0 FillingFormat.request FillingFormat.state rfl rfl rfl
  obtain ⟨t, runs, _, _, diskette⟩ := ending 0 FillingFormat.order FillingFormat.job FillingFormat.layout 0 0 0 0 rfl rfl rfl rfl rfl rfl
    rfl rfl rfl (.inr (by decide)) (by decide) (by decide)
  obtain ⟨_, _, _, goesOn⟩ := diskette rfl rfl
  obtain ⟨_, _, o', ho', _, _, posted⟩ := goesOn (by decide) (by decide) (by decide) (by decide) rfl FillingFormat.notQueued
  have after := FillingFormat.phase_after_pulse
  rw [runs] at after
  have phase : FillingFormat.phaseAfter (.next t) = some .posted := by
    rw [FillingFormat.phaseAfter, ho', ← posted]
    rfl
  exact absurd (phase.symm.trans after) (by decide)

end Sys2Proof.Machine

-- ==== Sys2Proof/Proofs/Estimates.lean ====
namespace Sys2Proof.Machine

open Sys2Proof

/-! ### The estimate of the revolution period (R30, R31) -/

section Estimates
variable {e p : Nat}

/-- An estimate moves an eighth of the way to 16 times the period, rounded towards minus infinity. -/
theorem estimate_some (e p : Nat) : estimate (some e) p = ((e : Int) + (16 * (p : Int) - e) / 8).toNat := rfl

/-- An eighth of the way never leaves what lies between the estimate and its aim. -/
theorem estimate_mem {lo hi : Nat} (h1 : lo ≤ e) (h2 : e ≤ hi) (p1 : lo ≤ 16 * p) (p2 : 16 * p ≤ hi) :
    lo ≤ estimate (some e) p ∧ estimate (some e) p ≤ hi := by
  rw [estimate_some]
  omega

/-- Within 7 below its aim the estimate stays where it is. -/
theorem estimate_settled (h1 : 16 * p ≤ e + 7) (h2 : e ≤ 16 * p) : estimate (some e) p = e := by
  rw [estimate_some]
  omega

/-- What a settled estimate says of the period. -/
theorem workingPeriod_settled (h1 : 16 * p ≤ e + 7) (h2 : e ≤ 16 * p) : workingPeriod (some e) = some p := by
  rw [workingPeriod, Option.map_some, Option.some_inj]
  omega

/-- Elsewhere the estimate comes nearer to its aim. -/
theorem estimate_nearer (h : ¬ (16 * p ≤ e + 7 ∧ e ≤ 16 * p)) :
    ((16 * (p : Int) - estimate (some e) p).natAbs) < (16 * (p : Int) - e).natAbs := by
  rw [estimate_some]
  omega

theorem estimate_iterate_mem (n : Nat) {lo hi : Nat} (h1 : lo ≤ e) (h2 : e ≤ hi) (p1 : lo ≤ 16 * p) (p2 : 16 * p ≤ hi) :
    lo ≤ (fun x => estimate (some x) p)^[n] e ∧ (fun x => estimate (some x) p)^[n] e ≤ hi := by
  induction n with
  | zero => exact ⟨h1, h2⟩
  | succ n ih =>
    rw [Function.iterate_succ_apply']
    exact estimate_mem ih.1 ih.2 p1 p2

/-- At a steady period the estimate settles, by induction on its distance from the aim. -/
theorem estimate_settles (e p : Nat) : ∃ n x, 16 * p ≤ x + 7 ∧ x ≤ 16 * p
    ∧ ∀ m, n ≤ m → (fun x => estimate (some x) p)^[m] e = x := by
  by_cases h : 16 * p ≤ e + 7 ∧ e ≤ 16 * p
  · exact ⟨0, e, h.1, h.2, fun m _ => Function.iterate_fixed (f := fun x => estimate (some x) p) (estimate_settled h.1 h.2) m⟩
  · obtain ⟨n, x, low, high, settled⟩ := estimate_settles (estimate (some e) p) p
    refine ⟨n + 1, x, low, high, fun m hm => ?_⟩
    obtain ⟨m, rfl⟩ := Nat.exists_eq_add_of_le' (Nat.le_of_add_left_le hm)
    rw [Function.iterate_succ_apply]
    exact settled m (by omega)
termination_by (16 * (p : Int) - e).natAbs
decreasing_by exact estimate_nearer h

end Estimates

/-- Settles O23: the range is the estimate's own between its start and its aim; it settles at most 7 sixteenths of a
microsecond below the steady period, which the rounding of R31 takes up. -/
theorem estimateConverges : Obligations.EstimateConverges := by
  intro e p e1 e2 p1 p2
  refine ⟨fun n => estimate_iterate_mem n e1 e2 (by omega) (by omega), ?_⟩
  obtain ⟨n, x, low, high, settled⟩ := estimate_settles e p
  exact ⟨n, fun m hm => by rw [settled m hm]; exact workingPeriod_settled low high⟩

end Sys2Proof.Machine

-- ==== Sys2Proof/Proofs/Ticks.lean ====
namespace Sys2Proof.Machine

open Sys2Proof

/-! ### One microsecond (R23, R26) -/

theorem Drive.tick_idle {d : Drive} (h : d.state.timerIdle = true) : d.tick = d := if_pos h

theorem Drive.tick_running {d : Drive} (h : d.state.timerIdle = false) :
    d.tick = { d with timer := { d.timer with phi := min phiLimit (d.timer.phi + 1) } } := if_neg (by simp [h])

theorem DriveState.timerIdle_iff (x : DriveState) : x.timerIdle = true ↔ x = .absent ∨ x = .empty := by
  cases x <;> decide

theorem State.tick_drive (s : State) (v : DriveNo) : s.tick.drive v = (s.drive v).tick :=
  Vector.getElem_map ..

/-- The tick sets the microsecond count, the drives and the queue, which ends in the events that have come due. -/
theorem State.tick_eq (s : State) : s.tick = { s with
    g := s.g + 1, drives := s.drives.map Drive.tick, pending := s.pending ++ s.tick.due } := rfl

/-- Settles O2: a step on an empty queue is the tick. -/
theorem emptyQueueStepIsOneMicrosecond : Obligations.EmptyQueueStepIsOneMicrosecond := by
  intro s empty
  refine ⟨s.tick, by rw [step, empty], rfl, fun v idle => ?_, fun v h1 h2 => ?_, ?_, ?_⟩
  · rw [State.tick_drive, Drive.tick_idle ((DriveState.timerIdle_iff _).mpr idle)]
  · rw [State.tick_drive]
    refine Drive.tick_running (Bool.eq_false_iff.mpr fun idle => ?_)
    exact ((DriveState.timerIdle_iff _).mp idle).elim h1 h2
  · rw [s.tick_eq, empty]; rfl
  · rw [s.tick_eq]

end Sys2Proof.Machine

-- ==== Sys2Proof/Proofs/Counters.lean ====
namespace Sys2Proof.Machine

open Sys2Proof

/-! ### One event at a Health Counter (R175) -/

section Counters
variable {h : Health} {k : Counter}

/-- Below 65,535 the counter moves on by one. -/
theorem Health.count_below (hn : h.counters[k.index.val] ≠ 0xFFFF) :
    h.count k = { h with counters := h.counters.set k.index.val (h.counters[k.index.val] + 1) } := if_neg hn

/-- At 65,535 it stays, and its flag is set. -/
theorem Health.count_full (hn : h.counters[k.index.val] = 0xFFFF) :
    h.count k = { h with overflow := h.overflow ||| ((1 : BitVec 8) <<< k.index.val) } := if_pos hn

theorem Health.count_counter : (h.count k).counters[k.index.val] =
    if h.counters[k.index.val] = 0xFFFF then (0xFFFF : Half) else h.counters[k.index.val] + 1 := by
  split
  · next hn => rw [Health.count_full hn]; exact hn
  · next hn => rw [Health.count_below hn]; exact Vector.getElem_set_self ..

theorem Health.count_other {i : Fin 8} (hi : i ≠ k.index) : (h.count k).counters[i.val] = h.counters[i.val] := by
  by_cases hn : h.counters[k.index.val] = 0xFFFF
  · rw [Health.count_full hn]
  · rw [Health.count_below hn]
    exact Vector.getElem_set_ne k.index.isLt i.isLt fun he => hi (Fin.ext he.symm)

/-- Of the flags an event can set that of its own counter alone. -/
theorem Health.count_overflow (i : Nat) : (h.count k).overflow.getLsbD i =
    (h.overflow.getLsbD i || (i == k.index.val && h.counters[k.index.val] == 0xFFFF)) := by
  by_cases hn : h.counters[k.index.val] = 0xFFFF
  · rw [Health.count_full hn, hn, BitVec.getLsbD_or]
    have one : ((1 : BitVec 8) <<< k.index.val).getLsbD i = (i == k.index.val) := by
      change (BitVec.twoPow 8 k.index.val).getLsbD i = _
      simp [BitVec.getLsbD_twoPow, k.index.isLt, eq_comm (a := i), beq_eq_decide]
    rw [one]
    simp
  · rw [Health.count_below hn, beq_eq_false_iff_ne.mpr hn]
    simp

theorem Health.count_marks : (h.count k).candMark = h.candMark ∧ (h.count k).framesMark = h.framesMark
    ∧ (h.count k).snapshot = h.snapshot := by
  unfold Health.count
  dsimp only
  split <;> exact ⟨rfl, rfl, rfl⟩

end Counters
end Sys2Proof.Machine

-- ==== Sys2Proof/Proofs/Stamps.lean ====
namespace Sys2Proof.Machine

open Sys2Proof

/-! ### The stall of a Frame Wait Queue entry (R86) -/

/-- An order's entry is due where one of its queue entries, not yet reported, has reached the overdue limit. -/
theorem State.fwqStallDue_iff {s : State} {e : EntryNo} : s.fwqStallDue e = true ↔ ∃ h, s.header = some h
    ∧ ∃ w ∈ s.fwq, w.order = e ∧ w.stalled = false ∧ h.overdue * 100000 ≤ (s.g - w.stamp).toNat := by
  cases hd : s.header with
  | none => simp [State.fwqStallDue, State.stallDue, State.overdueLimit, hd]
  | some h =>
    simp only [State.fwqStallDue, State.stallDue, State.overdueLimit, hd, Option.map_some, List.any_eq_true, Bool.and_eq_true,
      beq_iff_eq, Bool.not_eq_true', decide_eq_true_eq, Option.some.injEq, exists_eq_left']
    rfl

theorem exec_fwqStall_due {s : State} {e : EntryNo} (h : s.fwqStallDue e = true) :
    exec (.fwqStall e) s = .next ((Ctx.of s).stall e).toState := if_pos h

theorem exec_fwqStall_early {s : State} {e : EntryNo} (h : ¬ s.fwqStallDue e = true) : exec (.fwqStall e) s = .next s :=
  if_neg h

/-! ### Snapshots (R177 to R179) -/

/-- A drive whose counters have been copied and cleared. -/
def State.taken (s : State) (v : DriveNo) : Drive :=
  { s.drive v with health := (s.drive v).health.take s.g (s.candidateCount v) (s.framesOf v).length }

/-- A drive as its snapshot leaves it: where records are written, its record has been begun. -/
def State.snapped (s : State) (v : DriveNo) : Drive :=
  { s.taken v with recordWrites := (s.drive v).recordWrites ++ if s.ctl.tableWrites = true then
      [⟨⟨driveRecordAddr s.runBase v, (s.taken v).recordBytes (s.strandedCount v)⟩, none⟩] else [] }

section Snapshots
variable {c c' : Ctx} {s : State} {v w : DriveNo}

theorem Ctx.snapshotDrive_onlyDrives (c : Ctx) (v : DriveNo) : c.OnlyDrives (c.snapshotDrive v) :=
  Ctx.OnlyDrives.trans (c' := c.modDrive v _) rfl (Ctx.recordWrite_onlyDrives _ v none)

theorem Ctx.snapshotDrive_self (c : Ctx) (v : DriveNo) : (c.snapshotDrive v).drive v = c.snapped v := by
  have taken : (c.modDrive v fun d => { d with
      health := d.health.take c.g (c.candidateCount v) (c.framesOf v).length }).drive v = c.taken v := Ctx.setDrive_drive_self ..
  rw [Ctx.snapshotDrive, Ctx.recordWrite_drive, taken, State.snapped]
  by_cases hc : c.ctl.tableWrites = true
  · rw [if_pos ⟨rfl, hc⟩, if_pos hc]
    rfl
  · rw [if_neg fun h => hc h.2, if_neg hc, List.append_nil]
    rfl

theorem Ctx.snapshotDrive_other (c : Ctx) (h : w ≠ v) : (c.snapshotDrive v).drive w = c.drive w := by
  rw [Ctx.snapshotDrive, Ctx.recordWrite_drive, if_neg fun hw => h hw.1]
  exact Ctx.setDrive_drive_ne _ _ _ _ h

/-- A snapshot reads nothing of the other drives. -/
theorem Ctx.OnlyDrives.snapped (h : c.OnlyDrives c') (same : c'.drive v = c.drive v) : c'.snapped v = c.snapped v := by
  have counted : c'.candidateCount v = c.candidateCount v := by
    rw [State.candidateCount, same, h]
    rfl
  have taken : c'.taken v = c.taken v := by
    rw [State.taken, same, counted, h]
    rfl
  rw [State.snapped, taken, same, h]
  rfl

theorem Ctx.forDrives_snapshotDrive (c : Ctx) (v : DriveNo) :
    c.OnlyDrives (c.forDrives fun v c => c.snapshotDrive v)
      ∧ (c.forDrives fun v c => c.snapshotDrive v).drive v = c.snapped v := by
  refine Ctx.forDrives_meet (v := v) (P := fun c' => c.OnlyDrives c' ∧ c'.drive v = c.drive v)
    (Q := fun c' => c.OnlyDrives c' ∧ c'.drive v = c.snapped v) c ⟨rfl, rfl⟩
    (fun w c' hw ⟨only, same⟩ => ?_) (fun c' ⟨only, same⟩ => ?_) (fun w c' hw ⟨only, snapped⟩ => ?_)
  · exact ⟨only.trans (c'.snapshotDrive_onlyDrives w), (c'.snapshotDrive_other hw.symm).trans same⟩
  · exact ⟨only.trans (c'.snapshotDrive_onlyDrives v), (c'.snapshotDrive_self v).trans (only.snapped same)⟩
  · exact ⟨only.trans (c'.snapshotDrive_onlyDrives w), (c'.snapshotDrive_other hw.symm).trans snapped⟩

theorem exec_snapshotExpiry_due {x : Word} (timer : s.snapTimer = some x) (due : reached s.g x = true) :
    exec .snapshotExpiry s = .next ((Ctx.of s).autoSnapshot x).toState := by
  simp only [exec, execSnapshotExpiry, timer, if_pos due]

theorem exec_snapshotExpiry_early (h : ∀ x, s.snapTimer = some x → reached s.g x = false) :
    exec .snapshotExpiry s = .next s := by
  simp only [exec, execSnapshotExpiry]
  split
  · next x hx => rw [if_neg (by rw [h x hx]; exact Bool.false_ne_true)]
  · rfl

end Snapshots

/-- Settles O31: the stamps' bound and the stall are the model's own functions written out, the snapshot is taken drive by
drive, and one event at a counter is a case split at 65,535. -/
theorem stampsStallsAndCounters : Obligations.StampsStallsAndCounters := by
  refine ⟨fun s => rfl, fun e s => ⟨fun due => ?_, fun early => ?_⟩, fun s => ⟨exec_snapshotExpiry_early, fun x timer due => ?_⟩,
    fun h k => ⟨fun hn => ?_, fun hn => ?_, fun i hi => Health.count_other hi, Health.count_marks⟩⟩
  · exact exec_fwqStall_due (State.fwqStallDue_iff.mpr due)
  · exact exec_fwqStall_early fun h => early (State.fwqStallDue_iff.mp h)
  · obtain ⟨only, -⟩ := (Ctx.of s).forDrives_snapshotDrive 0
    refine ⟨_, exec_snapshotExpiry_due timer due, ?_, ?_, fun v => ?_, ?_⟩
    · rw [Ctx.autoSnapshot, only]; rfl
    · rfl
    · have snapped : ((Ctx.of s).autoSnapshot x).drive v = s.snapped v := ((Ctx.of s).forDrives_snapshotDrive v).2
      rw [snapped, State.snapped]
      simp only [CtlState.tableWrites_iff]
      rfl
    · rw [Ctx.autoSnapshot, only]; rfl
  · rw [Health.count_below hn]
    exact ⟨Vector.getElem_set_self .., rfl⟩
  · refine ⟨by rw [Health.count_full hn], fun i => ?_⟩
    rw [Health.count_overflow, beq_iff_eq.mpr hn, Bool.and_true]

end Sys2Proof.Machine

-- ==== Sys2Proof/Proofs/Gauges.lean ====
namespace Sys2Proof.Machine

open Sys2Proof

/-! ### What few operations change: the memories, the Rotation Timers and the counts of rejected pulses

The operations of this part change none of these. Those that write a memory come after it, and those that change a timer
last. -/

/-- A drive's Rotation Timer, with its SPEED_REJECT counter and that counter's flag. -/
structure Dial where
  timer : Timer
  rejects : Half
  overflowed : Bool

/-- The dial of a drive. -/
def Drive.dial (d : Drive) : Dial := ⟨d.timer, d.health.counters[6], d.health.overflow.getLsbD 6⟩

/-- The memory the part has written, the data areas, and the drives' dials. -/
structure Gauges where
  mem : Mem
  areas : Vector Mem 16
  dials : Vector Dial 4

/-- The gauges of a state. -/
def State.gauges (s : State) : Gauges := ⟨s.mem, s.frames.map Frame.area, s.drives.map Drive.dial⟩

/-! #### Reading off equal gauges -/

theorem State.gauges_drive {s t : State} (h : t.gauges.dials = s.gauges.dials) (v : DriveNo) :
    (t.drive v).dial = (s.drive v).dial := by
  have h1 := congrArg (fun x => x[v.val]) h
  simpa [State.gauges, State.drive] using h1

/-- A change of other parts leaves the gauges. (Stated apart: simp does not discharge side conditions by `rfl` lemmas.) -/
theorem State.gauges_eq {s t : State} (mem : t.mem = s.mem) (frames : t.frames = s.frames) (drives : t.drives = s.drives) :
    t.gauges = s.gauges := by rw [State.gauges, mem, frames, drives, State.gauges]

/-! #### The updates -/

/-- The gauges after a change of one drive. -/
theorem Ctx.setDrive_dial (c : Ctx) (v : DriveNo) (d : Drive) :
    (c.setDrive v d).gauges = { c.gauges with dials := c.gauges.dials.set v.val d.dial } := by
  simp [State.gauges, Ctx.setDrive, Vector.map_set]

theorem Ctx.setDrive_gauges (c : Ctx) (v : DriveNo) (d : Drive) (h : d.dial = (c.drive v).dial) :
    (c.setDrive v d).gauges = c.gauges := by
  rw [Ctx.setDrive_dial, h]
  simp [State.gauges, State.drive, ← Vector.map_set]

theorem Ctx.modDrive_gauges (c : Ctx) (v : DriveNo) (k : Drive → Drive) (h : (k (c.drive v)).dial = (c.drive v).dial) :
    (c.modDrive v k).gauges = c.gauges := c.setDrive_gauges v _ h

@[simp] theorem Ctx.setDesk_gauges (c : Ctx) (d : DeskNo) (k : Desk) :
    (c.setDesk d k).gauges = c.gauges := State.gauges_eq rfl rfl rfl
@[simp] theorem Ctx.modDesk_gauges (c : Ctx) (d : DeskNo) (k : Desk → Desk) :
    (c.modDesk d k).gauges = c.gauges := State.gauges_eq rfl rfl rfl
@[simp] theorem Ctx.setNotice_gauges (c : Ctx) (n : Nat) :
    (c.setNotice n).gauges = c.gauges := State.gauges_eq rfl rfl rfl
@[simp] theorem Ctx.setChan_gauges (c : Ctx) (p : PortNo) (h : Channel) :
    (c.setChan p h).gauges = c.gauges := State.gauges_eq rfl rfl rfl
@[simp] theorem Ctx.modChan_gauges (c : Ctx) (p : PortNo) (k : Channel → Channel) :
    (c.modChan p k).gauges = c.gauges := State.gauges_eq rfl rfl rfl
@[simp] theorem Ctx.setSlot_gauges (c : Ctx) (e : EntryNo) (x : Slot) :
    (c.setSlot e x).gauges = c.gauges := State.gauges_eq rfl rfl rfl
@[simp] theorem Ctx.setOrder_gauges (c : Ctx) (e : EntryNo) (o : Order) :
    (c.setOrder e o).gauges = c.gauges := State.gauges_eq rfl rfl rfl

@[simp] theorem Ctx.modOrder_gauges (c : Ctx) (e : EntryNo) (k : Order → Order) :
    (c.modOrder e k).gauges = c.gauges := by
  unfold Ctx.modOrder; split <;> simp

@[simp] theorem Ctx.modSched_gauges (c : Ctx) (v : DriveNo) (k : Sched → Sched) : (c.modSched v k).gauges = c.gauges :=
  c.modDrive_gauges v _ rfl

/-- An event at another counter. -/
theorem Ctx.count_gauges {k : Counter} (c : Ctx) (v : DriveNo) (hk : Counter.speedReject ≠ k) :
    (c.count v k).gauges = c.gauges := by
  have counter : (6 : Fin 8) ≠ k.index := by revert hk; cases k <;> decide
  refine c.modDrive_gauges v _ ?_
  have kept := Health.count_other (h := (c.drive v).health) counter
  have flag := Health.count_overflow (h := (c.drive v).health) (k := k) 6
  have other : (6 == k.index.val) = false := beq_eq_false_iff_ne.mpr fun h => counter (Fin.ext h)
  rw [other, Bool.false_and, Bool.or_false] at flag
  exact congrArg₂ (Dial.mk _) kept flag

@[simp] theorem Ctx.flagPick_gauges (c : Ctx) (v : DriveNo) : (c.flagPick v).gauges = c.gauges := by
  unfold Ctx.flagPick; split <;> rfl

@[simp] theorem Ctx.recordWrite_gauges (c : Ctx) (v : DriveNo) (x : Option Bool) :
    (c.recordWrite v x).gauges = c.gauges := by
  unfold Ctx.recordWrite
  split
  · exact c.modDrive_gauges v _ rfl
  · rfl

@[simp] theorem Ctx.raiseMarks_gauges (c : Ctx) (v : DriveNo) :
    (c.raiseMarks v).gauges = c.gauges := c.modDrive_gauges v _ rfl

@[simp] theorem Ctx.frameReports_gauges (c : Ctx) (n : Nat) (v : DriveNo) : (c.frameReports n v).gauges = c.gauges := by
  unfold Ctx.frameReports; dsimp only; split <;> simp

/-- The gauges after a change of one frame. -/
theorem Ctx.putFrame_area (c : Ctx) (f : FrameNo) (new : Frame) :
    (c.putFrame f new).gauges = { c.gauges with areas := c.gauges.areas.set f.val new.area } := by
  have told {c1 : Ctx} {x : Gauges} (b : Bool) (n : Nat) (v : DriveNo) (h : c1.gauges = x) :
      (if b then c1.frameReports n v else c1).gauges = x := by
    cases b
    · exact h
    · exact (c1.frameReports_gauges n v).trans h
  rw [Ctx.putFrame_reports]
  refine told _ _ _ (told _ _ _ ?_)
  rw [Ctx.replaceFrame_eq]
  simp [State.gauges, Vector.map_set]

theorem Ctx.putFrame_gauges (c : Ctx) (f : FrameNo) (new : Frame) (h : new.area = (c.frame f).area) :
    (c.putFrame f new).gauges = c.gauges := by
  rw [Ctx.putFrame_area, h]
  simp [State.gauges, State.frame, ← Vector.map_set]

theorem Ctx.modFrame_gauges (c : Ctx) (f : FrameNo) (k : Frame → Frame) (h : (k (c.frame f)).area = (c.frame f).area) :
    (c.modFrame f k).gauges = c.gauges := c.putFrame_gauges f _ h

@[simp] theorem Ctx.modSector_gauges (c : Ctx) (f : FrameNo) (n : Nat) (k : Sector → Sector) :
    (c.modSector f n k).gauges = c.gauges := c.modFrame_gauges f _ rfl

@[simp] theorem Ctx.dropUse_gauges (c : Ctx) (f : FrameNo) :
    (c.dropUse f).gauges = c.gauges := c.modFrame_gauges f _ rfl

/-! #### The end of an order -/

@[simp] theorem Ctx.finishOrder_gauges (c : Ctx) (e : EntryNo) (code : Code) (n : Nat) :
    (c.finishOrder e code n).gauges = c.gauges := by
  unfold Ctx.finishOrder
  split
  · rfl
  · split
    · rfl
    · dsimp only
      split
      · next f _ => exact c.dropUse_gauges f
      · rfl

theorem reexamineOne_gauges (acc : Ctx × List Waiter) (w : Waiter) : (reexamineOne acc w).1.gauges = acc.1.gauges := by
  unfold reexamineOne
  dsimp only
  split
  · simp
  · split
    · split
      · simp; rfl
      · rfl
    · rfl

@[simp] theorem Ctx.reexamine_gauges (c : Ctx) : c.reexamine.gauges = c.gauges :=
  foldl_keeps (fun acc : Ctx × List Waiter => acc.1.gauges) reexamineOne reexamineOne_gauges c.waiters (c, [])

@[simp] theorem Ctx.endOrder_gauges (c : Ctx) (e : EntryNo) (code : Code) (n : Nat) :
    (c.endOrder e code n).gauges = c.gauges := by
  unfold Ctx.endOrder
  split
  · rfl
  · split
    · rfl
    · dsimp only
      split
      · split <;> simp
      · simp

/-! #### Reports -/

@[simp] theorem Ctx.settleCheck_gauges (c : Ctx) (e : EntryNo) : (c.settleCheck e).gauges = c.gauges := by
  unfold Ctx.settleCheck
  (repeat' split) <;> simp

@[simp] theorem Ctx.forEntries_gauges (c : Ctx) (k : EntryNo → Ctx → Ctx) (h : ∀ e c, (k e c).gauges = c.gauges) :
    (c.forEntries k).gauges = c.gauges := foldl_keeps (fun c : Ctx => c.gauges) _ (fun b a => h a b) _ c

@[simp] theorem Ctx.forFrames_gauges (c : Ctx) (k : FrameNo → Ctx → Ctx) (h : ∀ f c, (k f c).gauges = c.gauges) :
    (c.forFrames k).gauges = c.gauges := foldl_keeps (fun c : Ctx => c.gauges) _ (fun b a => h a b) _ c

@[simp] theorem Ctx.forDesks_gauges (c : Ctx) (k : DeskNo → Ctx → Ctx) (h : ∀ d c, (k d c).gauges = c.gauges) :
    (c.forDesks k).gauges = c.gauges := foldl_keeps (fun c : Ctx => c.gauges) _ (fun b a => h a b) _ c

@[simp] theorem Ctx.forDrives_gauges (c : Ctx) (k : DriveNo → Ctx → Ctx) (h : ∀ f c, (k f c).gauges = c.gauges) :
    (c.forDrives k).gauges = c.gauges := foldl_keeps (fun c : Ctx => c.gauges) _ (fun b a => h a b) _ c

@[simp] theorem Ctx.reportTargets_gauges (c : Ctx) (f : FrameNo) (n a : Nat) (k : Target → TargetState) :
    (c.reportTargets f n a k).gauges = c.gauges := by
  unfold Ctx.reportTargets
  refine c.forEntries_gauges _ fun e c => ?_
  split
  · rfl
  · dsimp only; split <;> simp

@[simp] theorem Ctx.sectorSettled_gauges (c : Ctx) (f : FrameNo) (n : Nat) (w : Word) (a : Nat) :
    (c.sectorSettled f n w a).gauges = c.gauges := c.reportTargets_gauges ..

@[simp] theorem Ctx.sectorStranded_gauges (c : Ctx) (f : FrameNo) (n : Nat) (k : StrandCause) (a : Nat) :
    (c.sectorStranded f n k a).gauges = c.gauges := c.reportTargets_gauges ..

@[simp] theorem Ctx.sectorFilled_gauges (c : Ctx) (f : FrameNo) (n a : Nat) :
    (c.sectorFilled f n a).gauges = c.gauges := by
  unfold Ctx.sectorFilled
  refine c.forEntries_gauges _ fun e c => ?_
  split
  · rfl
  · split <;> simp

@[simp] theorem Ctx.readFailed_gauges (c : Ctx) (f : FrameNo) (n a : Nat) (o : Outcome) :
    (c.readFailed f n a o).gauges = c.gauges := by
  unfold Ctx.readFailed
  refine c.forEntries_gauges _ fun e c => ?_
  split
  · rfl
  · split <;> simp

@[simp] theorem Ctx.unreadable_gauges (c : Ctx) (e : EntryNo) (b : Nat) (x : Bool) :
    (c.unreadable e b x).gauges = c.gauges := by
  unfold Ctx.unreadable
  (repeat' split) <;> simp

@[simp] theorem Ctx.sectorBad_gauges (c : Ctx) (f : FrameNo) (n a : Nat) : (c.sectorBad f n a).gauges = c.gauges := by
  unfold Ctx.sectorBad
  refine c.forEntries_gauges _ fun e c => ?_
  (repeat' split) <;> simp

@[simp] theorem Ctx.frameDiscarded_gauges (c : Ctx) (f : FrameNo) : (c.frameDiscarded f).gauges = c.gauges := by
  unfold Ctx.frameDiscarded
  refine c.forEntries_gauges _ fun e c => ?_
  (repeat' split) <;> simp

/-! #### The store -/

@[simp] theorem Ctx.want_gauges (c : Ctx) (f : FrameNo) (n : Nat) (x y : Bool) :
    (c.want f n x y).2.gauges = c.gauges := by
  unfold Ctx.want
  dsimp only
  split
  · exact c.putFrame_gauges f _ rfl
  · rfl

theorem Ctx.copyOut_gauges (c : Ctx) (f : FrameNo) (a n : Nat) (b : Option Byte) {bs : List Byte} {ns : List Nat}
    {c' : Ctx} (h : c.copyOut f a n b = .ok (bs, ns, c')) : c'.gauges = c.gauges := by
  unfold Ctx.copyOut at h
  dsimp only at h
  split at h
  · cases h; exact c.putFrame_gauges f _ rfl
  · cases h

@[simp] theorem Ctx.attemptBegun_gauges (c : Ctx) (k : Key) (n : Nat) (w : WorkKind) :
    (c.attemptBegun k n w).gauges = c.gauges := by
  unfold Ctx.attemptBegun
  (repeat' split) <;> simp

@[simp] theorem Ctx.settleWrite_gauges (c : Ctx) (f : FrameNo) (n a : Nat) :
    (c.settleWrite f n a).gauges = c.gauges := by
  unfold Ctx.settleWrite
  (repeat' split) <;> simp

@[simp] theorem Ctx.strandSector_gauges (c : Ctx) (f : FrameNo) (n : Nat) (k : StrandCause) (b : Bool) (a : Nat) :
    (c.strandSector f n k b a).gauges = c.gauges := by
  unfold Ctx.strandSector
  (repeat' split) <;> simp

@[simp] theorem Ctx.redoWrite_gauges (c : Ctx) (f : FrameNo) (n : Nat) (b : Bool) :
    (c.redoWrite f n b).gauges = c.gauges :=
  c.modSector_gauges ..

@[simp] theorem Ctx.writeOutcome_gauges (c : Ctx) (k : Key) (n a : Nat) (o : Outcome) (w : Half) :
    (c.writeOutcome k n a o w).gauges = c.gauges := by
  unfold Ctx.writeOutcome
  (repeat' split) <;> simp

@[simp] theorem Ctx.checkOutcome_gauges (c : Ctx) (k : Key) (n a : Nat) (o : Outcome) :
    (c.checkOutcome k n a o).gauges = c.gauges := by
  unfold Ctx.checkOutcome
  (repeat' split) <;> simp

@[simp] theorem Ctx.gateOpened_gauges (c : Ctx) (f : FrameNo) (n : Nat) : (c.gateOpened f n).gauges = c.gauges :=
  c.modSector_gauges ..

@[simp] theorem Ctx.freeFrame_gauges (c : Ctx) (f : FrameNo) :
    (c.freeFrame f).gauges = c.gauges := c.modFrame_gauges f _ rfl

@[simp] theorem Ctx.discard_gauges (c : Ctx) (k : Key) : (c.discard k).2.gauges = c.gauges := by
  unfold Ctx.discard
  (repeat' split) <;> simp

@[simp] theorem Ctx.unstrandFrame_gauges (c : Ctx) (f : FrameNo) : (c.unstrandFrame f).gauges = c.gauges := by
  refine foldl_keeps (fun c : Ctx => c.gauges) _ (fun c i => ?_) _ c
  (repeat' split) <;> simp

@[simp] theorem Ctx.gather_gauges (c : Ctx) (p : DriveNo → Bool) (b : Bool) : (c.gather p b).2.gauges = c.gauges := by
  unfold Ctx.gather
  refine foldl_keeps (fun acc : List Target × Ctx => acc.2.gauges) _ (fun acc f => ?_) _ ([], c)
  dsimp only
  split
  · dsimp only; split <;> simp
  · rfl

/-! #### The engine -/

@[simp] theorem Ctx.grantHeld_gauges (c : Ctx) (e : EntryNo) (f : FrameNo) : (c.grantHeld e f).gauges = c.gauges := by
  rw [Ctx.grantHeld, Ctx.modOrder_gauges, Ctx.modFrame_gauges _ _ _ rfl]

@[simp] theorem Ctx.grantNew_gauges (c : Ctx) (e : EntryNo) (f : FrameNo) (k : Key) :
    (c.grantNew e f k).gauges = c.gauges := by
  unfold Ctx.grantNew
  dsimp only
  split
  · rfl
  · rw [Ctx.modOrder_gauges, Ctx.modFrame_gauges _ _ _ rfl]

@[simp] theorem Ctx.requestFrame_gauges (c : Ctx) (e : EntryNo) : (c.requestFrame e).gauges = c.gauges := by
  unfold Ctx.requestFrame
  dsimp only
  (repeat' split) <;> simp <;> rfl

@[simp] theorem Ctx.startTrack_gauges (c : Ctx) (e : EntryNo) (t : Nat) : (c.startTrack e t).gauges = c.gauges := by
  simp [Ctx.startTrack]

theorem serveOne_gauges (acc : Ctx × Bool) (w : Waiting) : (serveOne acc w).1.gauges = acc.1.gauges := by
  unfold serveOne
  dsimp only
  (repeat' split) <;> simp <;> rfl

@[simp] theorem Ctx.serveQueue_gauges (c : Ctx) : c.serveQueue.gauges = c.gauges :=
  foldl_keeps (fun acc : Ctx × Bool => acc.1.gauges) serveOne serveOne_gauges c.fwq _

@[simp] theorem Ctx.wantBlock_gauges (c : Ctx) (e : EntryNo) (b : Nat) : (c.wantBlock e b).gauges = c.gauges := by
  unfold Ctx.wantBlock
  split
  · rfl
  · split
    · dsimp only; split <;> simp
    · rfl

@[simp] theorem Ctx.wantBlocks_gauges (c : Ctx) (e : EntryNo) (bs : List Nat) : (c.wantBlocks e bs).gauges = c.gauges :=
  foldl_keeps (fun c : Ctx => c.gauges) _ (fun c b => c.wantBlock_gauges e b) bs c

@[simp] theorem Ctx.concludeWrite_gauges (c : Ctx) (e : EntryNo) : (c.concludeWrite e).gauges = c.gauges := by
  unfold Ctx.concludeWrite
  (repeat' split) <;> simp

/-! #### Jobs, the arm, the scheduler and the arbiter -/

@[simp] theorem Ctx.postJob_gauges (c : Ctx) (v : DriveNo) (j : Job) : (c.postJob v j).2.gauges = c.gauges := by
  unfold Ctx.postJob
  dsimp only
  (repeat' split) <;> simp

@[simp] theorem Ctx.postDiscover_gauges (c : Ctx) (v : DriveNo) :
    (c.postDiscover v).gauges = c.gauges := c.postJob_gauges v _

@[simp] theorem Ctx.recalRequest_gauges (c : Ctx) (v : DriveNo) :
    (c.recalRequest v).gauges = c.gauges := c.postJob_gauges v _

@[simp] theorem Ctx.slotFreeTo_gauges (c : Ctx) (v : DriveNo) (r : Requester) :
    (c.slotFreeTo v r).gauges = c.gauges := by
  unfold Ctx.slotFreeTo
  (repeat' split) <;> simp

@[simp] theorem Ctx.jobEnded_gauges (c : Ctx) (v : DriveNo) : (c.jobEnded v).gauges = c.gauges := by
  unfold Ctx.jobEnded
  dsimp only
  rw [foldl_keeps (fun c : Ctx => c.gauges) _ (fun c r => c.slotFreeTo_gauges v r)]
  simp

@[simp] theorem Ctx.startSeek_gauges (c : Ctx) (v : DriveNo) (n : Nat) (b : Bool) :
    (c.startSeek v n b).gauges = c.gauges := by
  unfold Ctx.startSeek
  dsimp only
  split
  · exact c.modDrive_gauges v _ rfl
  · exact c.setDrive_gauges v _ rfl

@[simp] theorem Ctx.recalJobDone_gauges (c : Ctx) (v : DriveNo) : (c.recalJobDone v).gauges = c.gauges := by
  unfold Ctx.recalJobDone
  dsimp only
  (repeat' split) <;> simp

@[simp] theorem Ctx.loadRequest_gauges (c : Ctx) (v : DriveNo) : (c.loadRequest v).gauges = c.gauges := by
  refine c.modDrive_gauges v _ ?_
  split <;> rfl

@[simp] theorem Ctx.unloadRequest_gauges (c : Ctx) (v : DriveNo) : (c.unloadRequest v).gauges = c.gauges :=
  c.modDrive_gauges v _ rfl

@[simp] theorem Ctx.grant_gauges (c : Ctx) (p : PortNo) (r : Request) : (c.grant p r).gauges = c.gauges := by
  simp [Ctx.grant]

@[simp] theorem Ctx.fileRequest_gauges (c : Ctx) (r : Request) : (c.fileRequest r).gauges = c.gauges := by
  unfold Ctx.fileRequest
  dsimp only
  split <;> simp

@[simp] theorem Ctx.withdraw_gauges (c : Ctx) (v : DriveNo) :
    (c.withdraw v).gauges = c.gauges := State.gauges_eq rfl rfl rfl

@[simp] theorem Ctx.leaveQuiet_gauges (c : Ctx) (v : DriveNo) :
    (c.leaveQuiet v).gauges = c.gauges := c.modSched_gauges v _

@[simp] theorem Ctx.setDriveState_gauges (c : Ctx) (v : DriveNo) (st : DriveState) (cause : Cause) :
    (c.setDriveState v st cause).gauges = c.gauges := by
  have h := c.modDrive_gauges v (fun d => { d with state := st, cause := cause }) rfl
  unfold Ctx.setDriveState
  dsimp only
  split
  · rfl
  · split
    · rw [Ctx.recordWrite_gauges, h]
    · rw [Ctx.flagPick_gauges, Ctx.recordWrite_gauges, h]

@[simp] theorem Ctx.enterDiscovery_gauges (c : Ctx) (v : DriveNo) :
    (c.enterDiscovery v).gauges = c.gauges := by
  simp [Ctx.enterDiscovery, c.modDrive_gauges v (fun d => { d with revolution := 1 }) rfl]

@[simp] theorem Ctx.leaveRecal_gauges (c : Ctx) (v : DriveNo) :
    (c.leaveRecal v).gauges = c.gauges := by
  unfold Ctx.leaveRecal
  dsimp only
  split
  · simp
  · split
    · simp [c.modDrive_gauges v (fun d => { d with incomplete := false }) rfl]
    · simp

@[simp] theorem Ctx.recalSucceeded_gauges (c : Ctx) (v : DriveNo) (b : Option Nat) :
    (c.recalSucceeded v b).gauges = c.gauges := by
  have homed : ((c.count v .recal).modDrive v fun d => { d with cylinder := 0, arm := .free }).gauges = c.gauges := by
    rw [Ctx.modDrive_gauges _ _ _ rfl, Ctx.count_gauges _ _ (by decide)]
  unfold Ctx.recalSucceeded
  dsimp only
  split <;> split <;> simp [homed]

@[simp] theorem Ctx.startRecal_gauges (c : Ctx) (v : DriveNo) (b : Option Nat) :
    (c.startRecal v b).gauges = c.gauges := by
  unfold Ctx.startRecal
  dsimp only
  split
  · simp
  · exact c.setDrive_gauges v _ rfl

@[simp] theorem Ctx.enterRecal_gauges (c : Ctx) (v : DriveNo) :
    (c.enterRecal v).gauges = c.gauges := by
  have h (c1 : Ctx) : (if (c1.drive v).arm.seeking then c1 else c1.startRecal v none).gauges =
      c1.gauges := by
    split <;> simp
  exact (h _).trans (c.setDriveState_gauges v .recal _)

theorem Ctx.pickN_gauges : ∀ (n : Nat) (c : Ctx) (v : DriveNo) (t : Option Place), (c.pickN n v t).gauges = c.gauges
  | 0, _, _, _ => rfl
  | n + 1, c, v, t => by
    unfold Ctx.pickN
    dsimp only
    split
    · simp
    · split
      · split
        · simp [Ctx.pickN_gauges n]
        · simp
      · simp
    · split
      · split <;> simp
      · simp
    · generalize hc : (c.leaveQuiet v).modSched v _ = c1
      have h1 : c1.gauges = c.gauges := by rw [← hc]; simp
      split <;> simp [h1]

@[simp] theorem Ctx.pickNow_gauges (c : Ctx) (v : DriveNo) (t : Option Place) : (c.pickNow v t).gauges = c.gauges :=
  c.pickN_gauges 3 v t

@[simp] theorem Ctx.answerRound_gauges (c : Ctx) (v : DriveNo) : (c.answerRound v).gauges = c.gauges := by
  unfold Ctx.answerRound
  dsimp only
  (repeat' split) <;> simp

@[simp] theorem Ctx.releaseRound_gauges (c : Ctx) (p : PortNo) : (c.releaseRound p).gauges = c.gauges := by
  unfold Ctx.releaseRound
  dsimp only
  split <;> simp

@[simp] theorem Ctx.pickPoint_gauges (c : Ctx) (v : DriveNo) : (c.pickPoint v).gauges = c.gauges := by
  unfold Ctx.pickPoint
  dsimp only
  split <;> simp

@[simp] theorem Ctx.picksAndRounds_gauges (c : Ctx) : c.picksAndRounds.gauges = c.gauges := by
  unfold Ctx.picksAndRounds
  dsimp only
  rw [foldl_keeps (fun c : Ctx => c.gauges) _ (fun c v => c.pickPoint_gauges v)]
  exact foldl_keeps (fun c : Ctx => c.gauges) _ (fun c p => c.releaseRound_gauges p) c.rounds { c with rounds := [] }

/-! #### The Lock Table -/

@[simp] theorem Ctx.endWaiters_gauges (c : Ctx) (test : Waiter → Bool) (code : Code) :
    (c.endWaiters test code).gauges = c.gauges := by
  unfold Ctx.endWaiters
  exact foldl_keeps (fun c : Ctx => c.gauges) _ (fun c (w : Waiter) => c.finishOrder_gauges w.order code 0) _ c

@[simp] theorem Ctx.abandonWaiters_gauges (c : Ctx) (d : DeskNo) : (c.abandonWaiters d).gauges = c.gauges := by
  unfold Ctx.abandonWaiters
  split <;> simp

@[simp] theorem Ctx.abandonAllWaiters_gauges (c : Ctx) : c.abandonAllWaiters.gauges = c.gauges := c.endWaiters_gauges _ _

@[simp] theorem Ctx.locksMediaLost_gauges (c : Ctx) (v : DriveNo) : (c.locksMediaLost v).gauges = c.gauges := by
  simp only [Ctx.locksMediaLost, Ctx.reexamine_gauges, Ctx.endWaiters_gauges]
  rfl

@[simp] theorem Ctx.releaseAll_gauges (c : Ctx) (d : DeskNo) : (c.releaseAll d).gauges = c.gauges := by
  unfold Ctx.releaseAll
  dsimp only
  split
  · rfl
  · rw [Ctx.reexamine_gauges]; rfl

@[simp] theorem Ctx.release_gauges (c : Ctx) (e : EntryNo) (o : Order) : (c.release e o).gauges = c.gauges := by
  unfold Ctx.release
  split
  · simp
  · split
    · simp
    · rw [Ctx.endOrder_gauges, Ctx.reexamine_gauges]; rfl

@[simp] theorem Ctx.decideCheckout_gauges (c : Ctx) (e : EntryNo) (o : Order) :
    (c.decideCheckout e o).gauges = c.gauges := by
  unfold Ctx.decideCheckout
  dsimp only
  split
  · simp
  · split
    · split
      · rw [Ctx.endOrder_gauges]; rfl
      · simp
    · split
      · simp
      · split
        · rw [Ctx.modOrder_gauges]; rfl
        · simp

/-! #### Desks -/

@[simp] theorem Ctx.beginEntryWrite_gauges (c : Ctx) (d : DeskNo) (b : Bool) :
    (c.beginEntryWrite d b).gauges = c.gauges := by
  unfold Ctx.beginEntryWrite; split <;> simp

@[simp] theorem Ctx.entryWrite_gauges (c : Ctx) (d : DeskNo) :
    (c.entryWrite d).gauges = c.gauges := by
  unfold Ctx.entryWrite; split <;> simp

@[simp] theorem Ctx.beginLook_gauges (c : Ctx) (d : DeskNo) :
    (c.beginLook d).gauges = c.gauges := c.modDesk_gauges d _

@[simp] theorem Ctx.giveEntry_gauges (c : Ctx) (e : EntryNo) :
    (c.giveEntry e).gauges = c.gauges := by
  unfold Ctx.giveEntry
  split
  · simp
  · rfl

@[simp] theorem Ctx.releaseReservation_gauges (c : Ctx) (d : DeskNo) :
    (c.releaseReservation d).gauges = c.gauges := by
  unfold Ctx.releaseReservation; split <;> simp

@[simp] theorem Ctx.stopLook_gauges (c : Ctx) (d : DeskNo) :
    (c.stopLook d).gauges = c.gauges := by
  simp only [Ctx.stopLook, Ctx.releaseReservation_gauges]
  rfl

@[simp] theorem Ctx.endOfChain_gauges (c : Ctx) (d : DeskNo) :
    (c.endOfChain d).gauges = c.gauges := by
  unfold Ctx.endOfChain; dsimp only; split <;> simp

@[simp] theorem Ctx.considerBlock_gauges (c : Ctx) (d : DeskNo) (a : Word) (f : OrderFields) :
    (c.considerBlock d a f).gauges = c.gauges := by
  unfold Ctx.considerBlock
  split
  · dsimp only
    split
    · rfl
    · simp
  · split <;> simp

@[simp] theorem Ctx.deskFault_gauges (c : Ctx) (d : DeskNo) (x : DeskFault) :
    (c.deskFault d x).gauges = c.gauges := by
  simp [Ctx.deskFault]

@[simp] theorem Ctx.haltDesk_gauges (c : Ctx) (d : DeskNo) :
    (c.haltDesk d).gauges = c.gauges := by
  unfold Ctx.haltDesk; split <;> simp

@[simp] theorem Ctx.attendDesk_gauges (c : Ctx) (d : DeskNo) :
    (c.attendDesk d).gauges = c.gauges := by
  unfold Ctx.attendDesk; split <;> simp

@[simp] theorem Ctx.restartDesk_gauges (c : Ctx) (d : DeskNo) :
    (c.restartDesk d).gauges = c.gauges := by
  unfold Ctx.restartDesk; split <;> simp

@[simp] theorem Ctx.parkDesks_gauges (c : Ctx) : c.parkDesks.gauges = c.gauges := by
  unfold Ctx.parkDesks
  rw [Ctx.forDesks_gauges _ _ fun d c => by split <;> simp]
  rfl

@[simp] theorem Ctx.releaseHold_gauges (c : Ctx) (d : DeskNo) :
    (c.releaseHold d).gauges = c.gauges := by
  unfold Ctx.releaseHold; dsimp only; split <;> simp

@[simp] theorem Ctx.retireDone_gauges (c : Ctx) (e : EntryNo) (o : Order) :
    (c.retireDone e o).gauges = c.gauges := by
  unfold Ctx.retireDone; dsimp only; split <;> simp

@[simp] theorem Ctx.retireFaulted_gauges (c : Ctx) (e : EntryNo) (o : Order) :
    (c.retireFaulted e o).gauges = c.gauges := by
  simp [Ctx.retireFaulted]

/-! #### The controller's states, and the end of a command -/

@[simp] theorem Ctx.setCtl_gauges (c : Ctx) (st : CtlState) :
    (c.setCtl st).gauges = c.gauges := by
  unfold Ctx.setCtl
  split
  · rfl
  · rw [Ctx.forDrives_gauges _ _ fun v c => by simp]
    rfl

@[simp] theorem Ctx.writeAllRecords_gauges (c : Ctx) : c.writeAllRecords.gauges = c.gauges :=
  c.forDrives_gauges _ fun v c => c.recordWrite_gauges v none

@[simp] theorem Ctx.unloadAll_gauges (c : Ctx) : c.unloadAll.gauges = c.gauges :=
  c.forDrives_gauges _ fun v c => c.unloadRequest_gauges v

@[simp] theorem Ctx.setUpDesk_gauges (c : Ctx) (d : DeskNo) :
    (c.setUpDesk d).gauges = c.gauges := by
  unfold Ctx.setUpDesk; split <;> simp

@[simp] theorem Ctx.enterRunning_gauges (c : Ctx) (h : Header) :
    (c.enterRunning h).gauges = c.gauges := by
  unfold Ctx.enterRunning
  dsimp only
  refine (rfl).trans
    (((Ctx.writeAllRecords_gauges _)).trans
      ((Ctx.forDesks_gauges _ _ fun d c => by simp).trans ?_))
  rw [Ctx.setCtl_gauges]
  rfl

@[simp] theorem Ctx.resumeRunning_gauges (c : Ctx) :
    c.resumeRunning.gauges = c.gauges := by
  unfold Ctx.resumeRunning
  rw [Ctx.forDesks_gauges _ _ fun d c => by split <;> simp]
  simp

@[simp] theorem Ctx.enterStopped_gauges (c : Ctx) :
    c.enterStopped.gauges = c.gauges :=
  (rfl).trans (c.setCtl_gauges .stopped)

@[simp] theorem Ctx.startCheck_gauges (c : Ctx) : c.startCheck.gauges = c.gauges := by
  unfold Ctx.startCheck
  (repeat' split) <;> simp

@[simp] theorem Ctx.leaveSafe_gauges (c : Ctx) : c.leaveSafe.gauges = c.gauges := by
  unfold Ctx.leaveSafe; split <;> simp

@[simp] theorem Ctx.testDone_gauges (c : Ctx) : c.testDone.gauges = c.gauges := by
  unfold Ctx.testDone
  dsimp only
  (repeat' split) <;> simp

/-! #### FORMAT orders -/

@[simp] theorem Ctx.blankIncomplete_gauges (c : Ctx) (v : DriveNo) :
    (c.blankIncomplete v).gauges = c.gauges := by
  unfold Ctx.blankIncomplete
  split
  · rw [Ctx.setDriveState_gauges, c.modDrive_gauges v _ rfl]
  · rfl

@[simp] theorem Ctx.formatPost_gauges (c : Ctx) (e : EntryNo) :
    (c.formatPost e).gauges = c.gauges := by
  unfold Ctx.formatPost
  dsimp only
  (repeat' split) <;> simp

@[simp] theorem Ctx.waitQuiet_gauges (c : Ctx) (e : EntryNo) (k : Key) : (c.waitQuiet e k).gauges = c.gauges := by
  unfold Ctx.waitQuiet; split <;> rfl

@[simp] theorem Ctx.dropQuiet_gauges (c : Ctx) (e : EntryNo) :
    (c.dropQuiet e).gauges = c.gauges := State.gauges_eq rfl rfl rfl

@[simp] theorem Ctx.formatDiscard1_gauges (c : Ctx) (e : EntryNo) :
    (c.formatDiscard1 e).gauges = c.gauges := by
  unfold Ctx.formatDiscard1
  dsimp only
  (repeat' split) <;> simp

@[simp] theorem Ctx.formatDiscard2_gauges (c : Ctx) (e : EntryNo) (b : Bool) :
    (c.formatDiscard2 e b).gauges = c.gauges := by
  unfold Ctx.formatDiscard2
  dsimp only
  (repeat' split) <;> simp

@[simp] theorem Ctx.formatAccept_gauges (c : Ctx) (e : EntryNo) (o : Order) (l : Option Layout) :
    (c.formatAccept e o l).gauges = c.gauges := by
  unfold Ctx.formatAccept
  dsimp only
  (repeat' split) <;> simp

@[simp] theorem Ctx.formatSuccess_gauges (c : Ctx) (e : EntryNo) (v : DriveNo) :
    (c.formatSuccess e v).gauges = c.gauges := by
  simp [Ctx.formatSuccess, c.modDrive_gauges v (fun d => { d with layoutKnown := true }) rfl]

@[simp] theorem Ctx.disketteJobEnd_gauges (c : Ctx) (e : EntryNo) (o : Order) (v : DriveNo) (r : JobEnd) :
    (c.disketteJobEnd e o v r).gauges = c.gauges := by
  unfold Ctx.disketteJobEnd
  dsimp only
  (repeat' split) <;> simp

@[simp] theorem Ctx.formatJobEnd_gauges (c : Ctx) (e : EntryNo) (r : JobEnd) :
    (c.formatJobEnd e r).gauges = c.gauges := by
  unfold Ctx.formatJobEnd
  (repeat' split) <;> simp

@[simp] theorem Ctx.discardAll_gauges (c : Ctx) (v : DriveNo) : (c.discardAll v).2.gauges = c.gauges := by
  unfold Ctx.discardAll
  refine foldl_keeps (fun acc : List FrameNo × Ctx => acc.2.gauges) _ (fun acc f => ?_) _ ([], c)
  dsimp only
  split <;> simp

@[simp] theorem Ctx.formatAtFault_gauges (c : Ctx) (e : EntryNo) (v : DriveNo) :
    (c.formatAtFault e v).gauges = c.gauges := by
  unfold Ctx.formatAtFault
  (repeat' split) <;> simp

@[simp] theorem Ctx.formatsAtFault_gauges (c : Ctx) (v : DriveNo) : (c.formatsAtFault v).gauges = c.gauges :=
  c.forEntries_gauges _ fun e c => c.formatAtFault_gauges e v

@[simp] theorem Ctx.withdrawJob_gauges (c : Ctx) (v : DriveNo) : (c.withdrawJob v).gauges = c.gauges := by
  unfold Ctx.withdrawJob
  dsimp only
  (repeat' split) <;> simp

@[simp] theorem Ctx.abandonFormat_gauges (c : Ctx) (e : EntryNo) (o : Order) (v : DriveNo) :
    (c.abandonFormat e o v).gauges = c.gauges := by
  unfold Ctx.abandonFormat; split <;> simp

@[simp] theorem Ctx.formatAtShed_gauges (c : Ctx) (e : EntryNo) :
    (c.formatAtShed e).gauges = c.gauges := by
  unfold Ctx.formatAtShed
  (repeat' split) <;> simp

@[simp] theorem Ctx.formatsAtShed_gauges (c : Ctx) : c.formatsAtShed.gauges = c.gauges :=
  c.forEntries_gauges _ fun e c => c.formatAtShed_gauges e

/-! #### The take of an order -/

@[simp] theorem Ctx.discardOrder_gauges (c : Ctx) (e : EntryNo) (o : Order) :
    (c.discardOrder e o).gauges = c.gauges := by
  unfold Ctx.discardOrder
  dsimp only
  split <;> simp

@[simp] theorem Ctx.flushOrder_gauges (c : Ctx) (e : EntryNo) (o : Order) : (c.flushOrder e o).gauges = c.gauges := by
  simp [Ctx.flushOrder]

/-! #### The Data Channel -/

@[simp] theorem Ctx.clearHolds_gauges (c : Ctx) (p : PortNo) :
    (c.clearHolds p).gauges = c.gauges := by simp [Ctx.clearHolds]

@[simp] theorem Ctx.toIdle_gauges (c : Ctx) (p : PortNo) : (c.toIdle p).gauges = c.gauges := by
  unfold Ctx.toIdle
  dsimp only
  split
  · simp
  · rfl

@[simp] theorem Ctx.discoveryReport_none_gauges (c : Ctx) (v : DriveNo) (x : Density) :
    (c.discoveryReport v x none).gauges = c.gauges := by
  unfold Ctx.discoveryReport
  dsimp only
  split <;> simp

@[simp] theorem Ctx.listenEnd_none_gauges (c : Ctx) (p : PortNo) (r : Request) :
    (c.listenEnd p r none).gauges = c.gauges := by
  simp [Ctx.listenEnd]

@[simp] theorem Ctx.trackJobEnd_gauges (c : Ctx) (p : PortNo) (r : Request) (x : JobEnd) :
    (c.trackJobEnd p r x).gauges = c.gauges := by
  unfold Ctx.trackJobEnd
  dsimp only
  (repeat' split) <;> simp

/-- The end of an attempt is no rejected period. -/
theorem State.speedReject_not_mem_outcomeCounters (s : State) (r : Request) (x : Outcome) :
    Counter.speedReject ∉ s.outcomeCounters r x := by
  unfold State.outcomeCounters
  cases r.kind <;> simp

theorem Ctx.foldl_count_gauges (v : DriveNo) : ∀ (l : List Counter) (c : Ctx), Counter.speedReject ∉ l →
    (l.foldl (fun c k => c.count v k) c).gauges = c.gauges
  | [], _, _ => rfl
  | k :: l, c, h => by
    obtain ⟨here, later⟩ := List.ne_and_not_mem_of_not_mem_cons h
    rw [List.foldl_cons, Ctx.foldl_count_gauges v l _ later, Ctx.count_gauges _ _ here]

@[simp] theorem Ctx.countOutcome_gauges (c : Ctx) (r : Request) (x : Outcome) :
    (c.countOutcome r x).gauges = c.gauges :=
  Ctx.foldl_count_gauges r.drive _ c (c.speedReject_not_mem_outcomeCounters r x)

@[simp] theorem Ctx.oweRecal_gauges (c : Ctx) (p : PortNo) (r : Request) (x : Outcome) :
    (c.oweRecal p r x).gauges = c.gauges := by
  unfold Ctx.oweRecal; split <;> simp

@[simp] theorem Ctx.burstQuery_gauges (c : Ctx) (p : PortNo) (r : Request) : (c.burstQuery p r).gauges = c.gauges := by
  unfold Ctx.burstQuery
  dsimp only
  (repeat' split) <;> simp

@[simp] theorem Ctx.missedJob_gauges (c : Ctx) (r : Request) :
    (c.missedJob r).gauges = c.gauges := by
  unfold Ctx.missedJob
  dsimp only
  (repeat' split) <;> simp

@[simp] theorem Ctx.missed_gauges (c : Ctx) (p : PortNo) (r : Request) :
    (c.missed p r).gauges = c.gauges := by
  unfold Ctx.missed
  dsimp only
  (repeat' split) <;> simp

@[simp] theorem Ctx.arm_gauges (c : Ctx) (p : PortNo) (r : Request) :
    (c.arm p r).gauges = c.gauges := by
  unfold Ctx.arm
  dsimp only
  (repeat' split) <;> simp

@[simp] theorem Ctx.channelRestart_gauges (c : Ctx) (p : PortNo) : (c.channelRestart p).gauges = c.gauges := by
  unfold Ctx.channelRestart
  dsimp only
  (repeat' split) <;> simp

/-! #### Drive Control and the Rotation Timer -/

@[simp] theorem Ctx.schedDrop_gauges (c : Ctx) (v : DriveNo) (r : JobEnd) :
    (c.schedDrop v r).gauges = c.gauges := by
  unfold Ctx.schedDrop
  dsimp only
  (repeat' split) <;> simp

@[simp] theorem Ctx.freedWrites_gauges (c : Ctx) (v : DriveNo) (n : Nat) : (c.freedWrites v n).gauges = c.gauges :=
  foldl_keeps (fun c : Ctx => c.gauges) _ (fun c _ => c.recordWrite_gauges v none) _ c

@[simp] theorem Ctx.storeMediaLost_gauges (c : Ctx) (v : DriveNo) : (c.storeMediaLost v).gauges = c.gauges := by
  have freed : (c.frames.map fun fr => if fr.isOf v then { area := fr.area } else fr).map Frame.area
      = c.frames.map Frame.area := by
    ext i hi
    simp only [Vector.getElem_map]
    split <;> rfl
  exact congrArg (Gauges.mk _ · _) freed

@[simp] theorem Ctx.engineMediaLost_gauges (c : Ctx) (v : DriveNo) : (c.engineMediaLost v).gauges = c.gauges := by
  refine c.forEntries_gauges _ fun e c => ?_
  (repeat' split) <;> simp

@[simp] theorem Ctx.leaveFault_gauges (c : Ctx) (v : DriveNo) :
    (c.leaveFault v).gauges = c.gauges := by
  unfold Ctx.leaveFault
  dsimp only
  split <;> simp [c.modDrive_gauges v (fun d => { d with expiry := .none, faultStamp := none, recalStopped := false }) rfl]

@[simp] theorem Ctx.speedReached_gauges (c : Ctx) (v : DriveNo) : (c.speedReached v).gauges = c.gauges := by
  unfold Ctx.speedReached
  split <;> simp

@[simp] theorem Ctx.speedRegained_gauges (c : Ctx) (v : DriveNo) : (c.speedRegained v).gauges = c.gauges := by
  unfold Ctx.speedRegained
  split <;> simp

@[simp] theorem Ctx.idlePulse_gauges (c : Ctx) (v : DriveNo) : (c.idlePulse v).gauges = c.gauges := by
  unfold Ctx.idlePulse
  dsimp only
  (repeat' split) <;> simp

@[simp] theorem Ctx.startProbe_gauges (c : Ctx) (v : DriveNo) (b : Bool) : (c.startProbe v b).gauges = c.gauges :=
  c.modDrive_gauges v _ rfl

@[simp] theorem Ctx.probeStep_gauges (c : Ctx) (v : DriveNo) (x : ProbePhase) (n : Nat) (b : Bool) :
    (c.probeStep v x n b).gauges = c.gauges := by
  unfold Ctx.probeStep
  dsimp only
  (repeat' split) <;> simp [Ctx.modDrive_gauges, Drive.dial]

@[simp] theorem Ctx.seekStep_gauges (c : Ctx) (v : DriveNo) (n : Nat) (a b : Bool) :
    (c.seekStep v n a b).gauges = c.gauges :=
  c.modDrive_gauges v _ (by dsimp only; split <;> rfl)

@[simp] theorem Ctx.armSettled_gauges (c : Ctx) (v : DriveNo) (b : Bool) :
    (c.armSettled v b).gauges = c.gauges := by
  have h := c.modDrive_gauges v (fun d => { d with arm := .free }) rfl
  unfold Ctx.armSettled
  dsimp only
  (repeat' split) <;> simp [h]

@[simp] theorem Ctx.slotFaultHeld_gauges (c : Ctx) (f : FrameNo) (n : Nat) :
    (c.slotFaultHeld f n).gauges = c.gauges := by
  unfold Ctx.slotFaultHeld
  (repeat' split) <;> simp

@[simp] theorem Ctx.storeFaultHeld_gauges (c : Ctx) (v : DriveNo) : (c.storeFaultHeld v).gauges = c.gauges := by
  refine c.forFrames_gauges _ fun f c => ?_
  dsimp only
  split
  · exact foldl_keeps (fun c : Ctx => c.gauges) _ (fun c i => c.slotFaultHeld_gauges f i) _ c
  · rfl

@[simp] theorem Ctx.engineFaultHeld_gauges (c : Ctx) (v : DriveNo) : (c.engineFaultHeld v).gauges = c.gauges := by
  refine c.forEntries_gauges _ fun e c => ?_
  (repeat' split) <;> simp

@[simp] theorem Ctx.faultHeld_gauges (c : Ctx) (v : DriveNo) :
    (c.faultHeld v).gauges = c.gauges := by
  simp [Ctx.faultHeld, c.modDrive_gauges v (fun d => { d with expiry := .arrived }) rfl]

/-! #### Controller Control -/

@[simp] theorem Ctx.headerRead_gauges (c : Ctx) (r : DmaRead) :
    (c.headerRead r).gauges = c.gauges := by
  have fails (code : StartCode) : (c.failStart code).gauges = c.gauges := by
    rw [Ctx.failStart, Ctx.setNotice_gauges, Ctx.setCtl_gauges]
    rfl
  unfold Ctx.headerRead
  split
  · exact fails _
  · split
    · exact fails _
    · rw [Ctx.forDrives_gauges _ _ fun v c => c.modDrive_gauges v _ rfl]
      rfl

@[simp] theorem Ctx.enterDraining_gauges (c : Ctx) : c.enterDraining.gauges = c.gauges := by
  simp [Ctx.enterDraining]

@[simp] theorem Ctx.engineShed_gauges (c : Ctx) : c.engineShed.gauges = c.gauges := by
  refine c.forEntries_gauges _ fun e c => ?_
  (repeat' split) <;> simp

@[simp] theorem Ctx.storeShed_gauges (c : Ctx) : c.storeShed.gauges = c.gauges := by
  refine c.forFrames_gauges _ fun f c => ?_
  dsimp only
  split
  · exact c.putFrame_gauges f _ rfl
  · rfl

@[simp] theorem Ctx.refile_gauges (c : Ctx) (v : DriveNo) : (c.refile v).gauges = c.gauges := by
  unfold Ctx.refile; split <;> simp

@[simp] theorem Ctx.controlWrite_gauges (c : Ctx) (a b : Bool) :
    (c.controlWrite a b).gauges = c.gauges := by
  have starts (c : Ctx) : c.beginStart.gauges = c.gauges := by
    rw [Ctx.beginStart, Ctx.setCtl_gauges]
    rfl
  have same : ({ c with run := a, driveNotice := b } : Ctx).gauges = c.gauges :=
    rfl
  unfold Ctx.controlWrite
  dsimp only
  (repeat' split) <;> simp only [starts, same, Ctx.startCheck_gauges, Ctx.enterDraining_gauges,
    Ctx.resumeRunning_gauges, Ctx.enterStopped_gauges]

@[simp] theorem Ctx.abandonOrders_gauges (c : Ctx) : c.abandonOrders.gauges = c.gauges := by
  unfold Ctx.abandonOrders
  dsimp only
  rw [Ctx.forDesks_gauges _ _ fun d c => by simp]
  rfl

@[simp] theorem Ctx.restartFormatting_gauges (c : Ctx) (v : DriveNo) :
    (c.restartFormatting v).gauges = c.gauges := by
  unfold Ctx.restartFormatting
  (repeat' split) <;> simp

@[simp] theorem Ctx.deskCommand_gauges (c : Ctx) (d : DeskNo) (a : DeskAction) :
    (c.deskCommand d a).gauges = c.gauges := by
  unfold Ctx.deskCommand
  split
  · cases a <;> simp [Ctx.deskAction]
  · rfl

@[simp] theorem Ctx.writeTableBase_gauges (c : Ctx) (x : Word) :
    (c.writeTableBase x).gauges = c.gauges := by
  unfold Ctx.writeTableBase
  split
  · rfl
  · rfl

@[simp] theorem Ctx.clearNotice_gauges (c : Ctx) (x : Word) :
    (c.clearNotice x).gauges = c.gauges := State.gauges_eq rfl rfl rfl

@[simp] theorem Ctx.warningFalls_gauges (c : Ctx) : c.warningFalls.gauges = c.gauges := by
  unfold Ctx.warningFalls
  dsimp only
  split
  · rw [Ctx.leaveSafe_gauges]; rfl
  · rw [Ctx.startCheck_gauges]; rfl
  · rfl

/-! #### The DMA completions and the Station Interface -/

@[simp] theorem Ctx.linkRead_gauges (c : Ctx) (d : DeskNo) (r : DmaRead) :
    (c.linkRead d r).gauges = c.gauges := by
  unfold Ctx.linkRead
  dsimp only
  (repeat' split) <;> simp

@[simp] theorem Ctx.blockRead_gauges (c : Ctx) (d : DeskNo) (a : Word) (r : DmaRead) :
    (c.blockRead d a r).gauges = c.gauges := by
  unfold Ctx.blockRead
  (repeat' split) <;> simp

@[simp] theorem Ctx.fetched_gauges (c : Ctx) (e : EntryNo) (o : Order) (r : DmaRead) :
    (c.fetched e o r).gauges = c.gauges := by
  unfold Ctx.fetched; split <;> simp

@[simp] theorem Ctx.layoutRead_gauges (c : Ctx) (e : EntryNo) (o : Order) (r : DmaRead) :
    (c.layoutRead e o r).gauges = c.gauges := by
  unfold Ctx.layoutRead
  (repeat' split) <;> simp

@[simp] theorem Ctx.dropOrphan_gauges (c : Ctx) (k : Nat) :
    (c.dropOrphan k).gauges = c.gauges := State.gauges_eq rfl rfl rfl

@[simp] theorem Ctx.driveChange_gauges (c : Ctx) (v : DriveNo) (x : Option Bool) :
    (c.driveChange v x).gauges = c.gauges := by
  unfold Ctx.driveChange
  (repeat' split) <;> simp

end Sys2Proof.Machine

-- ==== Sys2Proof/Proofs/Ranges.lean ====
namespace Sys2Proof.Machine

open Sys2Proof

/-! ### The memories keep their form, the timers their ranges -/

/-- Every memory is in its canonical form. -/
def Gauges.wf (x : Gauges) : Prop := x.mem.wf = true ∧ ∀ f : FrameNo, x.areas[f.val].wf = true

/-- A timer and its estimate are in their ranges. -/
def Timer.ok (t : Timer) : Prop := t.inRange ∧ t.estimateInRange

/-- Every timer is in its ranges. -/
def Gauges.inRange (x : Gauges) : Prop := ∀ v : DriveNo, x.dials[v.val].timer.ok

theorem State.memoriesWf_iff (s : State) : s.memoriesWf ↔ s.gauges.wf := by
  simp [State.memoriesWf, Gauges.wf, State.gauges, State.frame]

theorem State.timersInRange_iff (s : State) : s.timersInRange ↔ s.gauges.inRange := by
  simp [State.timersInRange, Gauges.inRange, Timer.ok, State.gauges, State.drive, Drive.dial]

/-- What every step keeps of the gauges; where they are `still`, the dials are the same. -/
structure Gauges.Keeps (still : Prop) (x y : Gauges) : Prop where
  dials : still → y.dials = x.dials
  wf : x.wf → y.wf
  inRange : x.inRange → y.inRange

section Keeps
variable {still : Prop} {x y z : Gauges} {c : Ctx}

@[simp] theorem Gauges.Keeps.refl (still : Prop) (x : Gauges) : x.Keeps still x := ⟨fun _ => rfl, id, id⟩

theorem Gauges.Keeps.trans (h : x.Keeps still y) (h' : y.Keeps still z) : x.Keeps still z :=
  ⟨fun hs => (h'.dials hs).trans (h.dials hs), h'.wf ∘ h.wf, h'.inRange ∘ h.inRange⟩

theorem Gauges.Keeps.of_dials (dials : y.dials = x.dials) (wf : x.wf → y.wf) : x.Keeps still y :=
  ⟨fun _ => dials, wf, fun h v => by rw [dials]; exact h v⟩

/-! #### Walks -/

theorem foldl_keepsGauges {α β : Type} (π : β → Gauges) (k : β → α → β)
    (step : ∀ b a, x.Keeps still (π b) → x.Keeps still (π (k b a))) :
    ∀ (l : List α) (b : β), x.Keeps still (π b) → x.Keeps still (π (l.foldl k b))
  | [], _, h => h
  | a :: l, b, h => foldl_keepsGauges π k step l (k b a) (step b a h)

theorem Ctx.forDrives_keeps {k : DriveNo → Ctx → Ctx} (step : ∀ v c, x.Keeps still c.gauges → x.Keeps still (k v c).gauges)
    (h : x.Keeps still c.gauges) : x.Keeps still (c.forDrives k).gauges :=
  foldl_keepsGauges (fun c : Ctx => c.gauges) _ (fun c v => step v c) _ c h

/-! #### The updates that change a gauge -/

@[simp] theorem Ctx.writeMem_keeps (a : Nat) (bs : List Byte) (h : x.Keeps still c.gauges) :
    x.Keeps still (c.writeMem a bs).gauges :=
  h.trans (.of_dials rfl fun ⟨mem, areas⟩ => ⟨Mem.wf_writeAll _ _ _ mem, areas⟩)

/-- A frame whose data area is still in its form. -/
theorem Ctx.putFrame_keeps (f : FrameNo) {new : Frame} (wf : (c.frame f).area.wf = true → new.area.wf = true)
    (h : x.Keeps still c.gauges) : x.Keeps still (c.putFrame f new).gauges := by
  rw [Ctx.putFrame_area]
  refine h.trans (.of_dials rfl fun ⟨mem, areas⟩ => ⟨mem, fun g => ?_⟩)
  rw [Vector.getElem_set]
  split
  · exact wf (by simpa [State.gauges, State.frame] using areas f)
  · exact areas g

/-- A drive whose timer is still in its ranges. -/
theorem Ctx.modDrive_keeps (v : DriveNo) (k : Drive → Drive) (ok : (c.drive v).timer.ok → (k (c.drive v)).timer.ok)
    (h : x.Keeps False c.gauges) : x.Keeps False (c.modDrive v k).gauges := by
  refine h.trans ⟨False.elim, ?_, fun range w => ?_⟩
  · rw [Ctx.modDrive, Ctx.setDrive_dial]; exact id
  · simp only [Ctx.modDrive, Ctx.setDrive_dial, Vector.getElem_set]
    split
    · exact ok (by simpa [State.gauges, State.drive, Drive.dial] using range v)
    · exact range w

/-! #### The store and the orders -/

@[simp] theorem Ctx.mergeBytes_keeps (f : FrameNo) (a : Nat) (bs : List Byte) (b1 b2 : Bool) (h : x.Keeps still c.gauges) :
    x.Keeps still (c.mergeBytes f a bs b1 b2).2.gauges := by
  unfold Ctx.mergeBytes
  dsimp only
  rw [foldl_keeps (fun c : Ctx => c.gauges) _ (fun c n => c.sectorFilled_gauges f n 0)]
  exact Ctx.putFrame_keeps f (Mem.wf_writeAll _ _ _) h

theorem Ctx.merge_keeps {f : FrameNo} {a : Nat} {bs : List Byte} {b1 b2 : Bool} {ts : List Touched} {c' : Ctx}
    (hm : c.merge f a bs b1 b2 = .ok (ts, c')) (h : x.Keeps still c.gauges) : x.Keeps still c'.gauges := by
  unfold Ctx.merge at hm
  dsimp only at hm
  split at hm
  · obtain rfl : c' = (c.mergeBytes f a bs b1 b2).2 := by cases hm; rfl
    exact Ctx.mergeBytes_keeps f a bs b1 b2 h
  · cases hm

theorem Ctx.exchange_keeps {f : FrameNo} {a : Nat} {bs old : List Byte} {fill : Option Byte} {b1 b2 : Bool} {ns : List Nat}
    {ts : List Touched} {c' : Ctx} (hm : c.exchange f a bs fill b1 b2 = .ok (old, ns, ts, c')) (h : x.Keeps still c.gauges) :
    x.Keeps still c'.gauges := by
  unfold Ctx.exchange at hm
  dsimp only at hm
  split at hm
  · obtain rfl : c' = (c.mergeBytes f a bs b1 b2).2 := by cases hm; rfl
    exact Ctx.mergeBytes_keeps f a bs b1 b2 h
  · cases hm

@[simp] theorem Ctx.orderStep_keeps (e : EntryNo) (h : x.Keeps still c.gauges) : x.Keeps still (c.orderStep e).gauges := by
  unfold Ctx.orderStep
  split
  · exact h
  · split
    · split
      · simpa using h
      · dsimp only
        split
        · split
          · simpa using h
          · next hc => simpa [c.copyOut_gauges _ _ _ _ hc] using h
        · split
          · simpa using h
          · next hm =>
            have merged := Ctx.merge_keeps hm h
            split <;> simpa using merged
        · split
          · simpa using h
          · next hm => simpa using Ctx.exchange_keeps hm h
        · exact h
    · exact h

@[simp] theorem Ctx.advance_keeps (e : EntryNo) (h : x.Keeps still c.gauges) : x.Keeps still (c.advance e).gauges := by
  unfold Ctx.advance
  split
  · exact h
  · split
    · simpa using h
    · exact Ctx.orderStep_keeps e h

theorem Ctx.cascadeN_keeps : ∀ (n : Nat) (c : Ctx), x.Keeps still c.gauges → x.Keeps still (c.cascadeN n).gauges
  | 0, _, h => h
  | n + 1, c, h => by
    unfold Ctx.cascadeN
    split
    · exact Ctx.cascadeN_keeps n _ (Ctx.advance_keeps _ h)
    · split
      · exact Ctx.cascadeN_keeps n _ (by simpa using h)
      · exact h

@[simp] theorem Ctx.cascade_keeps (h : x.Keeps still c.gauges) : x.Keeps still c.cascade.gauges := Ctx.cascadeN_keeps _ c h

@[simp] theorem Ctx.finish_keeps (h : x.Keeps still c.gauges) : x.Keeps still c.finish.gauges := by
  simpa [Ctx.finish] using Ctx.cascade_keeps h

/-! #### The ends of attempts -/

@[simp] theorem Ctx.readOutcome_keeps (k : Key) (n a : Nat) (o : Outcome) (bs : List Byte) (h : x.Keeps still c.gauges) :
    x.Keeps still (c.readOutcome k n a o bs).gauges := by
  unfold Ctx.readOutcome
  split
  · exact h
  · split
    · exact h
    · split
      · rw [Ctx.sectorFilled_gauges]
        exact Ctx.putFrame_keeps _ (Mem.wf_writeAll _ _ _) h
      · (repeat' split) <;> simpa using h

@[simp] theorem Ctx.reportOutcome_keeps (p : PortNo) (r : Request) (o : Outcome) (h : x.Keeps still c.gauges) :
    x.Keeps still (c.reportOutcome p r o).gauges := by
  unfold Ctx.reportOutcome
  dsimp only
  split <;> simp [h]

@[simp] theorem Ctx.endAttempt_keeps (p : PortNo) (o : Outcome) (h : x.Keeps still c.gauges) :
    x.Keeps still (c.endAttempt p o).gauges := by
  unfold Ctx.endAttempt
  split
  · exact h
  · next r _ =>
    have reported : x.Keeps still ((((c.modChan p fun h => h.closeGate c.g).countOutcome r o).oweRecal p r o).reportOutcome p r
        o).gauges := by simp [h]
    dsimp only
    split <;> simp [reported]

@[simp] theorem Ctx.judgeId_keeps (p : PortNo) (r : Request) (field : List Byte) (h : x.Keeps still c.gauges) :
    x.Keeps still (c.judgeId p r field).gauges := by
  unfold Ctx.judgeId
  dsimp only
  (repeat' split) <;> simp [h]

@[simp] theorem Ctx.openGate_keeps (p : PortNo) (r : Request) (h : x.Keeps still c.gauges) :
    x.Keeps still (c.openGate p r).gauges := by
  unfold Ctx.openGate
  (repeat' split) <;> simp [h]

@[simp] theorem Ctx.awaitedMark_keeps (p : PortNo) (t : Word) (m : Byte) (n : Nat) (h : x.Keeps still c.gauges) :
    x.Keeps still (c.awaitedMark p t m n).gauges := by
  unfold Ctx.awaitedMark
  dsimp only
  split <;> simp [h]

@[simp] theorem Ctx.cutWork_keeps (v : DriveNo) (o : Outcome) (j : JobEnd) (h : x.Keeps still c.gauges) :
    x.Keeps still (c.cutWork v o j).gauges := by
  unfold Ctx.cutWork
  dsimp only
  (repeat' split) <;> simp [h]

@[simp] theorem Ctx.channelMediaLost_keeps (v : DriveNo) (h : x.Keeps still c.gauges) :
    x.Keeps still (c.channelMediaLost v).gauges := by
  simp [Ctx.channelMediaLost, h]

@[simp] theorem Ctx.channelFault_keeps (v : DriveNo) (h : x.Keeps still c.gauges) :
    x.Keeps still (c.channelFault v).gauges := by
  simp [Ctx.channelFault, h]

@[simp] theorem Ctx.channelShed_keeps (p : PortNo) (h : x.Keeps still c.gauges) :
    x.Keeps still (c.channelShed p).gauges := by
  unfold Ctx.channelShed
  dsimp only
  (repeat' split) <;> simp [h]

/-! #### Drive Control and Controller Control -/

theorem Ctx.enterFault_gauges (c : Ctx) (v : DriveNo) (x : Cause) :
    (c.modDrive v fun d => d.enterFault c.g x).gauges = c.gauges := c.modDrive_gauges v _ rfl

@[simp] theorem Ctx.faultEntry_keeps (v : DriveNo) (y : Cause) (h : x.Keeps still c.gauges) :
    x.Keeps still (c.faultEntry v y).gauges := by
  unfold Ctx.faultEntry
  dsimp only
  split <;> simp [h, Ctx.enterFault_gauges]

@[simp] theorem Ctx.speedLost_keeps (v : DriveNo) (h : x.Keeps still c.gauges) : x.Keeps still (c.speedLost v).gauges := by
  unfold Ctx.speedLost
  split <;> simp [h]

@[simp] theorem Ctx.speedReports_keeps (v : DriveNo) (old new : Timer) (h : x.Keeps still c.gauges) :
    x.Keeps still (c.speedReports v old new).gauges := by
  unfold Ctx.speedReports
  (repeat' split) <;> simp [h]

@[simp] theorem Ctx.recalStep_keeps (v : DriveNo) (n : Nat) (b : Option Nat) (z : Bool) (h : x.Keeps still c.gauges) :
    x.Keeps still (c.recalStep v n b z).gauges := by
  have noted : (c.modDrive v fun d => { d with lines := { d.lines with trackZero := some z } }).gauges = c.gauges :=
    c.modDrive_gauges v _ rfl
  have failed (c : Ctx) : ((c.modDrive v fun d => { d with arm := .free }).count v .recal).gauges = c.gauges := by
    rw [Ctx.count_gauges _ _ (by decide), Ctx.modDrive_gauges _ _ _ rfl]
  unfold Ctx.recalStep
  dsimp only
  split
  · rw [Ctx.modDrive_gauges _ _ _ rfl, noted]; exact h
  · split
    · rw [Ctx.modDrive_gauges _ _ _ rfl, noted]; exact h
    · exact Ctx.faultEntry_keeps _ _ (by rw [failed, noted]; exact h)

@[simp] theorem Ctx.enterShedding_keeps (h : x.Keeps still c.gauges) : x.Keeps still c.enterShedding.gauges := by
  simp [Ctx.enterShedding, h]

@[simp] theorem Ctx.warningRises_keeps (h : x.Keeps still c.gauges) : x.Keeps still c.warningRises.gauges := by
  have noted : x.Keeps still ({ c with warning := true } : Ctx).gauges := h
  unfold Ctx.warningRises
  dsimp only
  split <;> simp [noted]

/-! #### The ends of DMA writes -/

@[simp] theorem Ctx.delivered_keeps (e : EntryNo) (o : Order) (r : DmaWrite) (h : x.Keeps still c.gauges) :
    x.Keeps still (c.delivered e o r).gauges := by
  unfold Ctx.delivered
  dsimp only
  (repeat' split) <;> simp [h]

@[simp] theorem Ctx.resultWritten_keeps (e : EntryNo) (o : Order) (y : Result) (r : DmaWrite) (h : x.Keeps still c.gauges) :
    x.Keeps still (c.resultWritten e o y r).gauges := by
  unfold Ctx.resultWritten
  dsimp only
  split <;> simp [h]

@[simp] theorem Ctx.orphanResult_keeps (k : Nat) (y : Orphan) (r : DmaWrite) (h : x.Keeps still c.gauges) :
    x.Keeps still (c.orphanResult k y r).gauges := by
  unfold Ctx.orphanResult
  dsimp only
  split
  · exact Ctx.writeMem_keeps _ _ h
  · simp [h]

@[simp] theorem Ctx.orphanDone_keeps (k : Nat) (y : Orphan) (r : DmaWrite) (h : x.Keeps still c.gauges) :
    x.Keeps still (c.orphanDone k y r).gauges := by
  unfold Ctx.orphanDone
  dsimp only
  (repeat' split) <;> simp [h]

@[simp] theorem Ctx.doneWritten_keeps (e : EntryNo) (o : Order) (r : DmaWrite) (h : x.Keeps still c.gauges) :
    x.Keeps still (c.doneWritten e o r).gauges := by
  unfold Ctx.doneWritten
  dsimp only
  split <;> simp [h]

@[simp] theorem Ctx.entryWritten_keeps (d : DeskNo) (w : EntryWrite) (rest : List EntryWrite) (r : DmaWrite)
    (h : x.Keeps still c.gauges) : x.Keeps still (c.entryWritten d w rest r).gauges := by
  unfold Ctx.entryWritten
  dsimp only
  (repeat' split) <;> simp [h]

end Keeps
end Sys2Proof.Machine

-- ==== Sys2Proof/Proofs/Timers.lean ====
namespace Sys2Proof.Machine

open Sys2Proof

/-! ### Where a timer changes, it stays in its ranges -/

/-! #### The timer by its verdict -/

section Verdicts
variable {t : Timer} {g p : Word} {b : Bool}

theorem Timer.verdict_accepted (h : t.verdict g = .accepted) :
    ∃ p, t.prev = some p ∧ 161667 ≤ (g - p).toNat ∧ (g - p).toNat ≤ 171667 := by
  unfold Timer.verdict at h
  split at h
  · cases h
  · next p hp =>
    by_cases inside : periodMin ≤ ageAt g p ∧ ageAt g p ≤ periodMax
    · exact ⟨p, hp, inside⟩
    · rw [if_neg inside] at h
      cases h

/-- What every pulse does at the timer (R26, R29). -/
theorem Timer.pulse_stamps (t : Timer) (g : Word) (b : Bool) :
    (t.pulse g b).phi = 0 ∧ (t.pulse g b).prev = some g ∧ (t.pulse g b).noIndex = some (g + 400000) := by
  unfold Timer.pulse
  dsimp only
  split <;> exact ⟨rfl, rfl, rfl⟩

theorem Timer.verdict_first (h : t.prev = none) : t.verdict g = .first := by rw [Timer.verdict, h]

theorem Timer.pulse_first (h : t.prev = none) :
    t.pulse g b = { t with phi := 0, prev := some g, noIndex := some (later g noIndexLimit) } := by
  unfold Timer.pulse
  rw [Timer.verdict_first h]

theorem Timer.pulse_accepted (hp : t.prev = some p) (h : t.verdict g = .accepted) : t.pulse g b = { t with
    phi := 0, prev := some g, noIndex := some (later g noIndexLimit), acc := min 4 (t.acc + 1), rej := 0
    p16 := some (estimate t.p16 (ageAt g p)), active := t.staged.or t.active, staged := none } := by
  unfold Timer.pulse
  rw [h, hp]

theorem Timer.pulse_rejected (h : t.verdict g = .rejected) : t.pulse g b = { t with
    phi := 0, prev := some g, noIndex := some (later g noIndexLimit), acc := 0
    rej := if b then 0 else min 4 (t.rej + 1) } := by
  unfold Timer.pulse
  rw [h]

end Verdicts

/-! #### The timer's ranges -/

section Timer
variable {t u : Timer}

/-- The ranges read the phase count, the runs and the estimate. -/
theorem Timer.ok_congr (phi : u.phi = t.phi) (acc : u.acc = t.acc) (rej : u.rej = t.rej) (p16 : u.p16 = t.p16) (h : t.ok) :
    u.ok := by
  unfold Timer.ok Timer.inRange Timer.estimateInRange at *
  rw [phi, acc, rej, p16]
  exact h

/-- A timer that holds no estimate and counts nothing. -/
theorem Timer.ok_of_zero (phi : t.phi = 0) (acc : t.acc = 0) (rej : t.rej = 0) (p16 : t.p16 = none) : t.ok := by
  refine ⟨⟨by rw [phi]; exact Nat.zero_le _, by omega, by omega⟩, fun e he => ?_⟩
  rw [p16] at he
  cases he

theorem Timer.lost_ok (t : Timer) : t.lost.ok := Timer.ok_of_zero rfl rfl rfl rfl

theorem Timer.load_ok (t : Timer) (g : Word) : (t.load g).ok := Timer.ok_of_zero rfl rfl rfl rfl

/-- The estimate after an accepted period is in its range (R27, R30). -/
theorem estimate_inRange {p16 : Option Nat} {p : Nat} (h : ∀ e, p16 = some e → 16 * periodMin ≤ e ∧ e ≤ 16 * periodMax)
    (low : periodMin ≤ p) (high : p ≤ periodMax) :
    16 * periodMin ≤ estimate p16 p ∧ estimate p16 p ≤ 16 * periodMax := by
  cases p16 with
  | none => exact ⟨Nat.mul_le_mul_left 16 low, Nat.mul_le_mul_left 16 high⟩
  | some e =>
    obtain ⟨h1, h2⟩ := h e rfl
    exact estimate_mem h1 h2 (Nat.mul_le_mul_left 16 low) (Nat.mul_le_mul_left 16 high)

/-- A pulse, by its verdict (R27 to R30). -/
theorem Timer.pulse_ok (g : Word) (spinup : Bool) (h : t.ok) : (t.pulse g spinup).ok := by
  obtain ⟨⟨_, acc, rej⟩, est⟩ := h
  unfold Timer.pulse
  dsimp only
  split
  · next p hv hp =>
    refine ⟨⟨Nat.zero_le _, Nat.min_le_left .., Nat.zero_le _⟩, fun e he => ?_⟩
    obtain rfl : estimate t.p16 (ageAt g p) = e := Option.some_inj.mp he
    obtain ⟨q, hq, low, high⟩ := Timer.verdict_accepted hv
    obtain rfl : p = q := Option.some_inj.mp (hp.symm.trans hq)
    exact estimate_inRange est low high
  · refine ⟨⟨Nat.zero_le _, Nat.zero_le _, ?_⟩, est⟩
    dsimp only
    split
    · exact Nat.zero_le _
    · exact Nat.min_le_left ..
  · exact ⟨⟨Nat.zero_le _, acc, rej⟩, est⟩

theorem Drive.tick_ok {d : Drive} (h : d.timer.ok) : d.tick.timer.ok := by
  obtain ⟨⟨phi, runs⟩, est⟩ := h
  cases idle : d.state.timerIdle
  · rw [Drive.tick_running idle]
    exact ⟨⟨Nat.min_le_left .., runs⟩, est⟩
  · rw [Drive.tick_idle idle]
    exact ⟨⟨phi, runs⟩, est⟩

end Timer

section Keeps
variable {x : Gauges} {c : Ctx}

/-! #### Snapshots and orders -/

theorem Ctx.modTimer_keeps (v : DriveNo) (k : Timer → Timer) (ok : (c.drive v).timer.ok → (k (c.drive v).timer).ok)
    (h : x.Keeps False c.gauges) : x.Keeps False (c.modTimer v k).gauges := Ctx.modDrive_keeps v _ ok h

@[simp] theorem Ctx.snapshotDrive_keeps (v : DriveNo) (h : x.Keeps False c.gauges) :
    x.Keeps False (c.snapshotDrive v).gauges := by
  rw [Ctx.snapshotDrive, Ctx.recordWrite_gauges]
  exact Ctx.modDrive_keeps v _ id h

theorem Ctx.snapshotOrder_keeps (e : EntryNo) (o : Order) (h : x.Keeps False c.gauges) :
    x.Keeps False (c.snapshotOrder e o).gauges := by
  rw [Ctx.snapshotOrder, Ctx.endOrder_gauges]
  refine Ctx.forDrives_keeps (fun v c h => ?_) h
  split
  · exact Ctx.snapshotDrive_keeps v h
  · exact h

theorem Ctx.autoSnapshot_keeps (t : Word) (h : x.Keeps False c.gauges) : x.Keeps False (c.autoSnapshot t).gauges :=
  Ctx.forDrives_keeps (fun v _ h => Ctx.snapshotDrive_keeps v h) h

@[simp] theorem Ctx.beginWork_keeps (e : EntryNo) (h : x.Keeps False c.gauges) : x.Keeps False (c.beginWork e).gauges := by
  unfold Ctx.beginWork
  split
  · exact h
  · split
    case h_8 => exact Ctx.snapshotOrder_keeps e _ h
    case h_9 => split <;> simp [h]
    all_goals simp [h]

@[simp] theorem Ctx.validate_keeps (e : EntryNo) (h : x.Keeps False c.gauges) : x.Keeps False (c.validate e).gauges := by
  unfold Ctx.validate
  (repeat' split) <;> simp [h]

@[simp] theorem Ctx.takeBlock_keeps (d : DeskNo) (a : Word) (f : OrderFields) (r : DmaWrite) (h : x.Keeps False c.gauges) :
    x.Keeps False (c.takeBlock d a f r).gauges := by
  unfold Ctx.takeBlock
  dsimp only
  (repeat' split) <;> simp [h]

/-! #### FORMAT orders -/

@[simp] theorem Ctx.enterFormatting_keeps (e : EntryNo) (o : Order) (v : DriveNo) (h : x.Keeps False c.gauges) :
    x.Keeps False (c.enterFormatting e o v).gauges := by
  unfold Ctx.enterFormatting
  dsimp only
  rw [Ctx.formatPost_gauges, Ctx.modOrder_gauges]
  split
  · exact Ctx.modTimer_keeps v _ (Timer.ok_congr rfl rfl rfl rfl) (by simpa using h)
  · simpa using h

@[simp] theorem Ctx.formatEntry_keeps (e : EntryNo) (h : x.Keeps False c.gauges) : x.Keeps False (c.formatEntry e).gauges := by
  unfold Ctx.formatEntry
  split
  · exact h
  · dsimp only
    split
    · simpa using h
    · split
      · simpa using h
      · next v _ _ _ =>
        have discarded : x.Keeps False ((c.dropQuiet e).discardAll v).2.gauges := by simpa using h
        have waits (c : Ctx) (q : List QuietWait) : ({ c with quiet := q } : Ctx).gauges = c.gauges :=
          State.gauges_eq rfl rfl rfl
        split
        · exact Ctx.enterFormatting_keeps _ _ _ discarded
        · rw [waits, Ctx.modOrder_gauges]
          exact discarded

@[simp] theorem Ctx.formatRetry_keeps (e : EntryNo) (h : x.Keeps False c.gauges) : x.Keeps False (c.formatRetry e).gauges := by
  unfold Ctx.formatRetry
  (repeat' split) <;> simp [h]

/-! #### The channel at an index pulse -/

theorem Ctx.discoveryReport_keeps (v : DriveNo) (y : Density) (heard : Option (List Heard)) (h : x.Keeps False c.gauges) :
    x.Keeps False (c.discoveryReport v y heard).gauges := by
  unfold Ctx.discoveryReport
  dsimp only
  split
  · exact h
  · split
    · simpa using h
    · split
      · split
        · rw [Ctx.postDiscover_gauges, Ctx.modDrive_gauges _ _ _ rfl]; exact h
        · simpa using h
      · split
        · simpa using h
        · rw [Ctx.setDriveState_gauges]
          exact Ctx.modDrive_keeps v _ (Timer.ok_congr rfl rfl rfl rfl) h

@[simp] theorem Ctx.listenEnd_keeps (p : PortNo) (r : Request) (heard : Option (List Heard)) (h : x.Keeps False c.gauges) :
    x.Keeps False (c.listenEnd p r heard).gauges := Ctx.discoveryReport_keeps _ _ _ (by simpa using h)

@[simp] theorem Ctx.channelIndex_keeps (v : DriveNo) (y : Verdict) (h : x.Keeps False c.gauges) :
    x.Keeps False (c.channelIndex v y).gauges := by
  unfold Ctx.channelIndex
  dsimp only
  (repeat' split) <;> simp [h]

/-! #### Drive Control -/

@[simp] theorem Ctx.mediaChange_keeps (v : DriveNo) (h : x.Keeps False c.gauges) : x.Keeps False (c.mediaChange v).gauges := by
  have unloaded : x.Keeps False (c.modDrive v Drive.unload).gauges := Ctx.modDrive_keeps v _ (fun _ => Timer.lost_ok _) h
  simp [Ctx.mediaChange, unloaded]

@[simp] theorem Ctx.mediaLoad_keeps (v : DriveNo) (b1 b2 : Bool) (h : x.Keeps False c.gauges) :
    x.Keeps False (c.mediaLoad v b1 b2).gauges := by
  have loaded : x.Keeps False (c.modDrive v fun d => d.load c.g b1 b2).gauges :=
    Ctx.modDrive_keeps v _ (fun _ => Timer.load_ok _ _) h
  unfold Ctx.mediaLoad
  dsimp only
  split <;> simp [loaded]

@[simp] theorem Ctx.probeSettle_keeps (v : DriveNo) (b1 b2 : Bool) (h : x.Keeps False c.gauges) :
    x.Keeps False (c.probeSettle v b1 b2).gauges := by
  have homed : x.Keeps False (c.modDrive v fun d => { d with arm := .free, cylinder := 0 }).gauges :=
    Ctx.modDrive_keeps v _ id h
  unfold Ctx.probeSettle
  dsimp only
  split <;> simp [homed]

@[simp] theorem Ctx.startProfile_keeps (v : DriveNo) (b : Bool) (h : x.Keeps False c.gauges) :
    x.Keeps False (c.startProfile v b).gauges := by
  unfold Ctx.startProfile
  dsimp only
  split
  · exact h
  · split
    · split
      · rw [Ctx.setDriveState_gauges]
        refine Ctx.modDrive_keeps v _ id ?_
        split
        · exact h
        · exact Ctx.mediaChange_keeps v h
      · exact h
    · split
      · exact Ctx.modDrive_keeps v _ id h
      · exact h

@[simp] theorem Ctx.profileRead_keeps (v : DriveNo) (r : DmaRead) (b : Bool) (h : x.Keeps False c.gauges) :
    x.Keeps False (c.profileRead v r b).gauges := by
  unfold Ctx.profileRead
  split
  · exact h
  · dsimp only
    generalize hc1 : c.modDrive v _ = c1
    have read : x.Keeps False c1.gauges := by rw [← hc1, Ctx.modDrive_gauges _ _ _ rfl]; exact h
    (repeat' split) <;> simp [read]

/-- The pulse at the timer, and all that hears of it. -/
@[simp] theorem Ctx.pulseTaken_keeps (s : State) (v : DriveNo) (h : x.Keeps False s.gauges) :
    x.Keeps False (Ctx.pulseTaken s v).gauges := by
  have timed : x.Keeps False ((Ctx.of s).modTimer v fun _ =>
      (s.drive v).timer.pulse s.g ((s.drive v).state == .spinup)).gauges :=
    Ctx.modTimer_keeps v _ (Timer.pulse_ok _ _) h
  have counted {c : Ctx} (h : x.Keeps False c.gauges) : x.Keeps False (c.count v .speedReject).gauges :=
    Ctx.modDrive_keeps v _ id h
  have pulsed : x.Keeps False (Ctx.pulsed s v).gauges := by
    unfold Ctx.pulsed
    dsimp only
    (repeat' split) <;> simp [timed, counted]
  have reported := Ctx.speedReports_keeps v (s.drive v).timer
    ((s.drive v).timer.pulse s.g ((s.drive v).state == .spinup)) pulsed
  unfold Ctx.pulseTaken Ctx.idled
  refine Ctx.channelIndex_keeps v _ ?_
  split <;> simp [reported]

/-! #### Restart, power-on and the clock -/

theorem Ctx.storeRestart_gauges (c : Ctx) : c.storeRestart.gauges = c.gauges := by
  have kept : (c.frames.map fun fr => if fr.held then { fr.mapSectors Sector.restart with uses := 0 } else fr).map Frame.area
      = c.frames.map Frame.area := by
    ext i hi
    simp only [Vector.getElem_map]
    split <;> rfl
  exact congrArg (Gauges.mk _ · _) kept

@[simp] theorem Ctx.restart_keeps (h : x.Keeps False c.gauges) : x.Keeps False c.restart.gauges := by
  have drives : x.Keeps False (c.abandonOrders.storeRestart.forDrives fun v c => c.modDrive v Drive.restart).gauges :=
    Ctx.forDrives_keeps (fun v c h => Ctx.modDrive_keeps v _ id h) (by simpa [Ctx.storeRestart_gauges] using h)
  have channels := (Ctx.channelRestart_gauges _ 1).trans (Ctx.channelRestart_gauges _ 0) ▸ drives
  have counted := Ctx.forDrives_keeps
    (k := fun v c1 => (c1.restartFormatting v).modDrive v fun d => { d with health := (c.drive v).health })
    (fun v c1 h => Ctx.modDrive_keeps v _ id (by simpa using h)) channels
  have cleared (c : Ctx) : ({ c with run := false, startCode := .none, notice := 0 } : Ctx).gauges = c.gauges :=
    State.gauges_eq rfl rfl rfl
  unfold Ctx.restart
  dsimp only
  rw [Ctx.enterStopped_gauges, cleared]
  exact counted

/-- POWER_ON: the frames are free, and every timer starts at zero (R38). -/
theorem State.powerOn_keeps (s : State) : s.gauges.Keeps False s.powerOn.gauges := by
  refine ⟨False.elim, fun ⟨mem, _⟩ => ⟨mem, fun f => ?_⟩, fun _ v => ?_⟩
  · simp only [State.gauges, State.powerOn, Vector.getElem_map, State.reset, Vector.getElem_replicate]
    rfl
  · simp only [State.gauges, State.powerOn, Vector.getElem_map]
    exact Timer.ok_of_zero rfl rfl rfl rfl

theorem State.boundStamps_gauges (s : State) : s.boundStamps.gauges = s.gauges := by
  have areas : (s.frames.map fun fr => fr.boundStamps s.g).map Frame.area = s.frames.map Frame.area := by
    ext i hi
    simp only [Vector.getElem_map, Frame.boundStamps]
    split <;> rfl
  have dials : (s.drives.map fun d => d.boundStamps s.g).map Drive.dial = s.drives.map Drive.dial := by
    ext i hi
    simp only [Vector.getElem_map]
    rfl
  exact congrArg₂ (Gauges.mk _) areas dials

theorem State.tick_keeps (s : State) : s.gauges.Keeps False s.tick.gauges := by
  refine ⟨False.elim, id, fun range v => ?_⟩
  refine s.tick.timersInRange_iff.mp (fun v => ?_) v
  rw [State.tick_drive]
  exact Drive.tick_ok (s.timersInRange_iff.mpr range v)

end Keeps
end Sys2Proof.Machine

-- ==== Sys2Proof/Proofs/MemoriesAndTimers.lean ====
namespace Sys2Proof.Machine

open Sys2Proof

/-! ### Every step keeps the memories' form and the timers' ranges -/

/-- The outcome is no next state, or one that keeps the gauges. -/
def Gauges.KeptBy (x : Gauges) (o : Host.Outcome State Fault Refusal) : Prop := ∀ t, o = .next t → x.Keeps False t.gauges

section KeptBy
variable {x : Gauges}

@[simp] theorem Gauges.keptBy_next (t : State) : x.KeptBy (.next t) ↔ x.Keeps False t.gauges := by
  simp [Gauges.KeptBy]

@[simp] theorem Gauges.keptBy_fault (y : Fault) : x.KeptBy (.fault y) := by
  rintro _ ⟨⟩

@[simp] theorem Ctx.next_keptBy (c : Ctx) : x.KeptBy c.next ↔ x.Keeps False c.finish.gauges := Gauges.keptBy_next _

@[simp] theorem Ctx.setReady_gauges (c : Ctx) (v : DriveNo) (b : Bool) : (c.setReady v b).gauges = c.gauges :=
  c.modDrive_gauges v _ rfl

@[simp] theorem Ctx.setFaultLine_gauges (c : Ctx) (v : DriveNo) (b : Bool) : (c.setFaultLine v b).gauges = c.gauges :=
  c.modDrive_gauges v _ rfl

@[simp] theorem Ctx.markSeen_keptBy {c : Ctx} (p : PortNo) (m : Byte) (n : Nat) (h : x.Keeps False c.gauges) :
    x.KeptBy (c.markSeen p m n) := by
  unfold Ctx.markSeen
  dsimp only
  (repeat' split) <;> simp [h]

@[simp] theorem Ctx.writeControl_keeps {c : Ctx} (w : Word) (h : x.Keeps False c.gauges) :
    x.Keeps False (c.writeControl w).gauges := by
  unfold Ctx.writeControl
  split <;> simp [h]

end KeptBy

theorem execIndexPulse_keeps (v : DriveNo) (s : State) : s.gauges.KeptBy (exec (.indexPulse v) s) := by
  cases h : (s.drive v).state.timerIdle
  · rw [exec_indexPulse h]
    simp
  · simp only [exec, execIndexPulse, h, if_pos]
    simp

/-- Every command, case by case, through what its meaning does with the state. -/
theorem exec_keeps (i : Instr) (s : State) : s.gauges.KeptBy (exec i s) := by
  have start : s.gauges.Keeps False (Ctx.of s).gauges := .refl _ _
  cases i
  case powerOn => exact (Gauges.keptBy_next _).mpr s.powerOn_keeps
  case stampBound => exact (Gauges.keptBy_next _).mpr (by rw [State.boundStamps_gauges]; simp)
  case indexPulse v => exact execIndexPulse_keeps v s
  case registerWrite offset size value =>
    have enabled : ({ s with noticeEnable := value &&& noticeMask } : State).gauges = s.gauges := State.gauges_eq rfl rfl rfl
    dsimp only [exec, execRegisterWrite]
    (repeat' split) <;> simp [start, -Ctx.of_toState, enabled, Ctx.writeDeskCommand]
  case noIndexTimeout v =>
    dsimp only [exec, execNoIndexTimeout]
    split
    · rw [Ctx.next_keptBy]
      refine Ctx.finish_keeps (Ctx.speedLost_keeps v (Ctx.modTimer_keeps v _ (fun ok => ?_) start))
      obtain ⟨⟨phi, _, rej⟩, est⟩ := ok
      exact ⟨⟨phi, Nat.zero_le _, rej⟩, est⟩
    · simp
  case headLoadDone v =>
    dsimp only [exec, execHeadLoadDone]
    split
    · rw [Gauges.keptBy_next, Ctx.modDrive_gauges _ v _ rfl]
      exact start
    · simp
  case snapshotExpiry =>
    dsimp only [exec, execSnapshotExpiry]
    (repeat' split) <;> rw [Gauges.keptBy_next]
    · exact Ctx.autoSnapshot_keeps _ start
    all_goals exact .refl _ _
  case fwqStall e =>
    dsimp only [exec, execFwqStall, Ctx.stall]
    split
    · rw [Gauges.keptBy_next, Ctx.setNotice_gauges]
      exact .of_dials rfl id
    · simp
  case driveRecordWriteDone v r =>
    dsimp only [exec, execDriveRecordWriteDone]
    split
    · simp
    · rw [Gauges.keptBy_next, Ctx.driveChange_gauges, Ctx.modDrive_gauges _ v _ rfl]
      exact Ctx.writeMem_keeps _ _ start
  all_goals
    dsimp only [exec, execRunSet, execRunClear, execRestart, execTableBaseWrite, execNoticeClear, execAttend, execHalt,
      execDeskRestart, execReleaseLocks, execMediaChange, execDriveFaultRise, execDriveFaultFall, execPowerWarningRise,
      execPowerWarningFall, execNoIndexTimeout, execSpinupLimit, execFaultExpiry, execProbeStepDone,
      execSeekStepDone, execArmSettled, execRecalStepDone, execRecalSettled, execSnapshotExpiry, execHeaderReadDone,
      execProfileReadDone, execLinkReadDone, execBlockReadDone, execTake, execFetchDone, execDeliveryDone,
      execLayoutReadDone, execResultWriteDone, execDoneWriteDone, execDeskEntryWriteDone, execArmingTime,
      execSideSelectSet, execIdMarkSeen, execIdFieldEnd, execDataMarkSeen, execDataFieldEnd, execDataMarkTimeout,
      execHuntLimit, execFluxLoss, execGateOpenTime, execGateClose, execDiscardRetry, execFormatEntryStep,
      execFormatJobRepost, execMediaLoad, execProbeSettled]
    (repeat' split) <;> simp [start, -Ctx.of_toState]

/-- A step is one microsecond, or the command at the front of the queue on the state with the queue's rest. -/
theorem step_keeps (s : State) : s.gauges.KeptBy (step s) := by
  unfold step
  split
  · exact (Gauges.keptBy_next _).mpr s.tick_keeps
  · next i rest _ =>
    have popped : ({ s with pending := rest } : State).gauges = s.gauges := State.gauges_eq rfl rfl rfl
    rw [← popped]
    exact exec_keeps i _

/-- Settles O56: both are read off the gauges, which every step keeps. -/
theorem memoriesAndTimersKept : Obligations.MemoriesAndTimersKept := by
  intro s t h
  obtain ⟨_, wf, inRange⟩ := step_keeps s t h
  rw [State.memoriesWf_iff, State.memoriesWf_iff, State.timersInRange_iff, State.timersInRange_iff]
  exact ⟨wf, inRange⟩

end Sys2Proof.Machine

-- ==== Sys2Proof/Proofs/IndexPulses.lean ====
namespace Sys2Proof.Machine

open Sys2Proof

/-! ### INDEX_PULSE at the timer (R25 to R30, R37)

The pulse sets the dial first. What hears of it after that keeps the dial, but for the layout that a discovery concludes
at the same pulse. -/

/-! #### The channel at the pulse -/

section Channels
variable {c : Ctx} {v : DriveNo}

theorem Channel.setOwed_state (h : Channel) (v : DriveNo) (b : Bool) : (h.setOwed v b).state = h.state := by
  unfold Channel.setOwed
  split <;> rfl

theorem Ctx.setDriveState_channels (c : Ctx) (v : DriveNo) (st : DriveState) (x : Cause) :
    (c.setDriveState v st x).channels = c.channels := by rw [Ctx.setDriveState_rest]

theorem Ctx.startRecal_chanState (c : Ctx) (v : DriveNo) :
    ((c.startRecal v none).chan (portOf v)).state = (c.chan (portOf v)).state := by
  have cleared (c : Ctx) : ((c.modChan (portOf v) fun h => h.setOwed v false).chan (portOf v)).state
      = (c.chan (portOf v)).state := by
    rw [Ctx.modChan, Ctx.setChan_chan_self, Channel.setOwed_state]
  unfold Ctx.startRecal Ctx.recalSucceeded
  dsimp only
  split
  · split
    · rw [State.chan_of_channels (Ctx.leaveRecal_channels _ v), cleared]; rfl
    · rw [cleared]; rfl
  · rfl

theorem Ctx.enterRecal_chanState (c : Ctx) (v : DriveNo) :
    ((c.enterRecal v).chan (portOf v)).state = (c.chan (portOf v)).state := by
  unfold Ctx.enterRecal
  dsimp only
  generalize hc : c.setDriveState v .recal _ = c1
  have same : c1.channels = c.channels := hc ▸ Ctx.setDriveState_channels ..
  split
  · rw [State.chan_of_channels same]
  · rw [Ctx.startRecal_chanState, State.chan_of_channels same]

theorem Ctx.leaveFault_chanState (c : Ctx) (v : DriveNo) :
    ((c.leaveFault v).chan (portOf v)).state = (c.chan (portOf v)).state := by
  unfold Ctx.leaveFault
  dsimp only
  split
  · rw [State.chan_of_channels (Ctx.setDriveState_channels ..)]; rfl
  · rw [Ctx.enterRecal_chanState]; rfl

/-- The reports of an accepted pulse leave the channel where it is (R28). -/
theorem Ctx.speedReports_chanState {new : Timer} (old : Timer) (h : new.rej = 0) :
    ((c.speedReports v old new).chan (portOf v)).state = (c.chan (portOf v)).state := by
  unfold Ctx.speedReports Ctx.speedReached Ctx.speedRegained
  split
  · split
    · exact Ctx.enterRecal_chanState c v
    · rfl
  · split
    · split
      · exact Ctx.leaveFault_chanState c v
      · rfl
    · rw [if_neg fun lost => by omega]

end Channels

/-! #### The dial after the pulse -/

/-- A dial with another active layout. -/
def Dial.activated (x : Dial) (l : Option Layout) : Dial := { x with timer := { x.timer with active := l } }

section Dials
variable {c : Ctx} {v : DriveNo} {x : Gauges}

@[simp] theorem Ctx.idled_gauges (c : Ctx) (v : DriveNo) (y : Verdict) : (c.idled v y).gauges = c.gauges := by
  unfold Ctx.idled
  split <;> simp

/-- What the channel hears of a pulse changes no dial, unless a listening revolution ends in it. -/
theorem Ctx.channelIndex_still {y : Verdict} (h : y = .accepted → (c.chan (portOf v)).state ≠ .listen) :
    c.gauges.Keeps True (c.channelIndex v y).gauges := by
  unfold Ctx.channelIndex
  dsimp only
  split
  · exact .refl _ _
  · split
    · exact .refl _ _
    · split
      case h_4 listening => exact absurd listening (h rfl)
      all_goals (repeat' split) <;> simp

/-- A listening revolution may make a layout active. -/
theorem Ctx.discoveryReport_dial (c : Ctx) (v : DriveNo) (y : Density) (heard : Option (List Heard)) :
    ∃ l, ((c.discoveryReport v y heard).drive v).dial = (c.drive v).dial.activated l := by
  have same {c' : Ctx} (h : c'.gauges = c.gauges) : ∃ l, (c'.drive v).dial = (c.drive v).dial.activated l :=
    ⟨_, State.gauges_drive (congrArg Gauges.dials h) v⟩
  unfold Ctx.discoveryReport
  dsimp only
  split
  · exact same rfl
  · split
    · exact same (by simp)
    · split
      · split
        · exact same (by rw [Ctx.postDiscover_gauges, Ctx.modDrive_gauges _ _ _ rfl])
        · exact same (by simp)
      · split
        · exact same (by simp)
        · next l _ =>
          refine ⟨some l, ?_⟩
          rw [State.gauges_drive (congrArg Gauges.dials (Ctx.setDriveState_gauges _ v .ready .none)) v, Ctx.modDrive,
            Ctx.setDrive_drive_self]
          rfl

theorem Ctx.channelIndex_dial (c : Ctx) (v : DriveNo) (y : Verdict) :
    ∃ l, ((c.channelIndex v y).drive v).dial = (c.drive v).dial.activated l := by
  by_cases h : y = .accepted → (c.chan (portOf v)).state ≠ .listen
  · exact ⟨_, State.gauges_drive ((Ctx.channelIndex_still h).dials trivial) v⟩
  · simp only [Classical.not_imp, not_not] at h
    obtain ⟨rfl, listening⟩ := h
    unfold Ctx.channelIndex
    dsimp only
    split
    · exact ⟨_, rfl⟩
    · next r _ =>
      split
      · exact ⟨_, rfl⟩
      · next own =>
        obtain rfl : r.drive = v := not_not.mp own
        rw [listening]
        dsimp only
        rw [Ctx.listenEnd]
        have ended : ((c.jobEnded r.drive).toIdle (portOf r.drive)).gauges = c.gauges := by simp
        obtain ⟨l, dial⟩ := ((c.jobEnded r.drive).toIdle (portOf r.drive)).discoveryReport_dial r.drive r.density
          (some (c.chan (portOf r.drive)).listen)
        refine ⟨l, ?_⟩
        rw [State.gauges_drive (congrArg Gauges.dials ended)] at dial
        exact dial

end Dials

section Taken
variable {s : State} {v : DriveNo}

/-- The reports and the idle count leave the dial that the pulse set. -/
theorem Ctx.pulseReported_still (s : State) (v : DriveNo) : (Ctx.pulsed s v).gauges.Keeps True
    (((Ctx.pulsed s v).speedReports v (s.drive v).timer ((s.drive v).timer.pulse s.g ((s.drive v).state == .spinup))).idled v
      ((s.drive v).timer.verdict s.g)).gauges := by
  rw [Ctx.idled_gauges]
  exact Ctx.speedReports_keeps v _ _ (.refl _ _)

/-- The dial after the command is the one that the pulse set, but for the active layout. -/
theorem Ctx.pulseTaken_dial (s : State) (v : DriveNo) :
    ∃ l, ((Ctx.pulseTaken s v).finish.drive v).dial = ((Ctx.pulsed s v).drive v).dial.activated l := by
  have finished := (Ctx.finish_keeps (still := True) (.refl _ (Ctx.pulseTaken s v).gauges)).dials trivial
  rw [State.gauges_drive finished v, ← State.gauges_drive ((Ctx.pulseReported_still s v).dials trivial) v, Ctx.pulseTaken]
  exact Ctx.channelIndex_dial _ v _

/-- Where no listening revolution ends in the pulse, the active layout is that of the pulse too. -/
theorem Ctx.pulseTaken_dial_still (h : (s.chan (portOf v)).state ≠ .listen) :
    ((Ctx.pulseTaken s v).finish.drive v).dial = ((Ctx.pulsed s v).drive v).dial := by
  have finished := (Ctx.finish_keeps (still := True) (.refl _ (Ctx.pulseTaken s v).gauges)).dials trivial
  rw [State.gauges_drive finished v, ← State.gauges_drive ((Ctx.pulseReported_still s v).dials trivial) v, Ctx.pulseTaken]
  refine State.gauges_drive ((Ctx.channelIndex_still fun accepted => ?_).dials trivial) v
  have runs : ((s.drive v).timer.pulse s.g ((s.drive v).state == .spinup)).rej = 0 := by
    obtain ⟨p, hp, h1, h2⟩ := Timer.verdict_accepted accepted
    exact (Timer.accepted hp h1 h2 _).2.2
  have heard : ((Ctx.pulsed s v).chan (portOf v)) = s.chan (portOf v) :=
    State.chan_of_channels (by rw [Ctx.pulsed_rest]; rfl) _
  rw [(Ctx.idled_counted _ v _).rest]
  rw [← heard, ← Ctx.speedReports_chanState (s.drive v).timer runs] at h
  exact h

end Taken
/-! #### The command -/

/-- The dial that a pulse sets: the timer's own change, and the count of a rejected one. -/
theorem Ctx.pulsed_dial (s : State) (v : DriveNo) :
    let d := s.drive v
    let h := if d.timer.verdict s.g = .rejected then d.health.count .speedReject else d.health
    ((Ctx.pulsed s v).drive v).dial
      = ⟨d.timer.pulse s.g (d.state == .spinup), h.counters[6], h.overflow.getLsbD 6⟩ := by
  rw [Ctx.pulsed_drive]
  rfl

/-- Settles O21: the dial after the command is the one that the pulse set; each clause reads it off by the verdict. -/
theorem indexPulseAtTheTimer : Obligations.IndexPulseAtTheTimer := by
  intro v s d old
  refine ⟨fun idle => if_pos ((DriveState.timerIdle_iff _).mpr idle), fun absent empty => ?_⟩
  have running : (s.drive v).state.timerIdle = false := Bool.eq_false_iff.mpr fun idle =>
    ((DriveState.timerIdle_iff _).mp idle).elim absent empty
  refine ⟨_, exec_indexPulse running, ?_⟩
  obtain ⟨l, dial⟩ := Ctx.pulseTaken_dial s v
  have still := Ctx.pulseTaken_dial_still (s := s) (v := v)
  rw [Ctx.pulsed_dial] at dial still
  generalize (Ctx.pulseTaken s v).finish.drive v = new at dial still ⊢
  have active (h : (s.chan (portOf v)).state ≠ .listen) : new.timer.active = (old.pulse s.g (d.state == .spinup)).active :=
    congrArg (fun x : Dial => x.timer.active) (still h)
  have timer : new.timer = { old.pulse s.g (d.state == .spinup) with active := new.timer.active } := by
    rw [show new.timer = _ from congrArg Dial.timer dial]
    rfl
  have rejects : new.health.counters[6] = _ := congrArg Dial.rejects dial
  have calm (h : old.verdict s.g ≠ .rejected) : new.health.counters[6] = d.health.counters[6] := by
    rw [rejects]
    exact congrArg (fun h : Health => h.counters[6]) (if_neg h)
  obtain ⟨phi, prev, noIndex⟩ := old.pulse_stamps s.g (d.state == .spinup)
  refine ⟨by rw [timer, phi], by rw [timer, prev], by rw [timer, noIndex], fun hp => ?_, fun p hp =>
    ⟨fun h1 h2 => ?_, fun h => ?_⟩⟩
  · have first := old.verdict_first (g := s.g) hp
    rw [Timer.pulse_first hp] at timer
    exact ⟨by rw [timer], by rw [timer], by rw [timer], by rw [timer], calm (by rw [first]; decide)⟩
  · obtain ⟨accepted, -⟩ := Timer.accepted hp h1 h2 (d.state == .spinup)
    rw [Timer.pulse_accepted hp accepted] at timer active
    refine ⟨by rw [timer], by rw [timer], by rw [timer], fun first => ?_, fun e he => ?_, fun quiet => ?_,
      calm (by rw [accepted]; decide)⟩
    · rw [timer, first]; rfl
    · rw [timer, he]; rfl
    · rw [active quiet]
      cases old.staged <;> rfl
  · obtain ⟨rejected, -⟩ := Timer.rejected hp h (d.state == .spinup)
    rw [Timer.pulse_rejected rejected] at timer active
    have counted : (if old.verdict s.g = .rejected then d.health.count .speedReject else d.health)
        = d.health.count .speedReject := if_pos rejected
    refine ⟨by rw [timer], ?_, by rw [timer], by rw [timer], active, ?_, fun full => ?_⟩
    · rw [timer]
      simp only [beq_iff_eq]
    · rw [rejects]
      exact (congrArg (fun h : Health => h.counters[6]) counted).trans Health.count_counter
    · have flag : new.health.overflow.getLsbD 6 = _ := congrArg Dial.overflowed dial
      have set := Health.count_overflow (h := d.health) (k := .speedReject) 6
      rw [show d.health.counters[Counter.speedReject.index.val] = 0xFFFF from full] at set
      rw [flag]
      refine (congrArg (fun h : Health => h.overflow.getLsbD 6) counted).trans (set.trans ?_)
      exact Bool.or_true _

end Sys2Proof.Machine

-- ==== Sys2Proof/Proofs/Fields.lean ====
namespace Sys2Proof.Machine

open Sys2Proof

/-! ### The sampling of the read signal, marks and ID fields (R46, R48, R49, R59) -/

/-! #### Data bits, bytes and marks -/

section Sampling
variable (x : Settings) (reference : Nat) (flux : List Flux)

theorem Density.cellTime_eq (d : Density) : d.cellTime = if d = .fm then 4000 else 2000 := by cases d <;> rfl

theorem Settings.seen_iff (lo hi : Nat) : x.seen reference flux lo hi = true ↔ ∃ f ∈ flux, lo * x.eighth ≤ f.time
    ∧ f.time < hi * x.eighth ∧ x.threshold * reference ≤ 100 * f.amplitude := by
  simp only [Settings.seen, Settings.counts, List.any_eq_true, Bool.and_eq_true, decide_eq_true_eq, and_assoc]

/-- The bits of a number built from its most significant bit down. -/
theorem foldl_bits_testBit (b : Nat → Bool) (n : Nat) : ∀ k, k < n →
    ((List.range n).foldl (fun m i => 2 * m + (b i).toNat) 0).testBit (n - 1 - k) = b k := by
  induction n with
  | zero => exact fun k h => absurd h (Nat.not_lt_zero k)
  | succ n ih =>
    intro k hk
    rw [List.range_succ, List.foldl_append]
    generalize (List.range n).foldl _ 0 = m at ih
    have half : (2 * m + (b n).toNat) / 2 = m := by
      cases b n
      · simp
      · simp only [Bool.toNat_true]
        omega
    obtain rfl | hlt := Nat.eq_or_lt_of_le (Nat.le_of_lt_succ hk)
    · cases hb : b k
      · simp [hb, Nat.testBit_zero]
      · simp [hb, Nat.testBit_zero]
    · have up : n + 1 - 1 - k = (n - 1 - k) + 1 := by omega
      change (2 * m + (b n).toNat).testBit (n + 1 - 1 - k) = b k
      rw [up, Nat.testBit_succ, half]
      exact ih k hlt

theorem Settings.byte_getLsbD (i : Nat) {k : Nat} (hk : k < 8) :
    (x.byte reference flux i).getLsbD (7 - k) = x.dataBit reference flux (8 * i + k) := by
  have bits := foldl_bits_testBit (fun k => x.dataBit reference flux (8 * i + k)) 8 k hk
  have low : 7 - k < 8 := by omega
  rw [Settings.byte, BitVec.getLsbD_ofNat, ← bits]
  simp [low]

theorem foldl_max_ge (l : List Nat) : ∀ m, m ≤ l.foldl max m ∧ ∀ a ∈ l, a ≤ l.foldl max m := by
  induction l with
  | nil => exact fun m => ⟨Nat.le_refl m, fun _ h => nomatch h⟩
  | cons b l ih =>
    intro m
    obtain ⟨base, members⟩ := ih (max m b)
    refine ⟨le_trans (le_max_left m b) base, fun a ha => ?_⟩
    obtain rfl | ha := List.mem_cons.mp ha
    · exact le_trans (le_max_right m a) base
    · exact members a ha

theorem Settings.amplitude_le_peak {f : Flux} (hf : f ∈ flux) (ht : f.time < syncCells * x.density.cellTime) :
    f.amplitude ≤ x.peak flux :=
  (foldl_max_ge _ 0).2 _ (List.mem_map_of_mem (List.mem_filter.mpr ⟨hf, decide_eq_true ht⟩))

theorem Settings.markOf_some {x : Settings} {flux : List Flux} {mark : Byte} {peak : Nat}
    (h : x.markOf flux = some (mark, peak)) :
    peak = x.peak flux ∧ mark = x.byte peak flux 8 ∧ x.syncRun peak flux = true := by
  unfold Settings.markOf at h
  dsimp only at h
  split at h
  · next sync =>
    cases h
    exact ⟨rfl, rfl, sync.1⟩
  · cases h

theorem Settings.syncRun_zero (h : x.syncRun reference flux = true) {k : Nat} (hk : k < 64) :
    x.dataBit reference flux k = false := by
  have cell := List.all_eq_true.mp h k (List.mem_range.mpr hk)
  rw [Bool.and_eq_true, Bool.not_eq_true'] at cell
  exact cell.1

end Sampling

/-! #### A mark is seen -/

section Marks
variable {s : State} {p : PortNo} {sync signal : List Flux} {mark : Byte} {peak : Nat} {r : Request}

theorem exec_marks_none (h : (s.chan p).settings.markOf (sync ++ signal) = none) :
    exec (.idMarkSeen p (sync ++ signal)) s = .next s ∧ exec (.dataMarkSeen p sync signal) s = .next s := by
  constructor
  · change execIdMarkSeen p (sync ++ signal) s = _
    rw [execIdMarkSeen, h]
  · change execDataMarkSeen p sync signal s = _
    rw [execDataMarkSeen, h]

theorem exec_idMarkSeen (h : (s.chan p).settings.markOf (sync ++ signal) = some (mark, peak)) :
    exec (.idMarkSeen p (sync ++ signal)) s = if mark = idMark then (Ctx.of s).markSeen p mark peak else .next s := by
  change execIdMarkSeen p (sync ++ signal) s = _
  rw [execIdMarkSeen, h]

theorem exec_dataMarkSeen (h : (s.chan p).settings.markOf (sync ++ signal) = some (mark, peak)) :
    exec (.dataMarkSeen p sync signal) s = (Ctx.of s).markSeen p mark peak := by
  change execDataMarkSeen p sync signal s = _
  rw [execDataMarkSeen, h]

/-- A command that changes one channel while nothing can move an order ends with that channel. -/
theorem Ctx.setChan_finish (hs : s.still) (p : PortNo) (h : Channel) : ((Ctx.of s).setChan p h).finish = s.withChan p h :=
  Ctx.finish_none _ hs.1 ((State.readyOrder_of_table (t := s) rfl).trans hs.2) rfl rfl rfl

theorem Ctx.markSeen_listen (hs : (s.chan p).state = .listen) (hw : (s.chan p).work = some r) :
    (Ctx.of s).markSeen p mark peak
      = .next (s.withChan p ((s.chan p).listenMark (s.drive r.drive).timer.phi mark peak)) := by
  have state : ((Ctx.of s).chan p).state = .listen := hs
  have work : ((Ctx.of s).chan p).work = some r := hw
  rw [Ctx.markSeen, state, work]
  rfl

/-- In the hunt for an ID field an ID mark enters ID, and another mark is passed over. -/
theorem Ctx.markSeen_hunt (hs : (s.chan p).state = .armed) (hw : (s.chan p).work = some r) (hk : r.kind.isSector = true)
    (hf : (s.chan p).found = none) : (Ctx.of s).markSeen p mark peak
      = .next (if mark = idMark then s.withChan p { s.chan p with state := .id, reference := peak } else s) := by
  have state : ((Ctx.of s).chan p).state = .armed := hs
  have work : ((Ctx.of s).chan p).work = some r := hw
  have found : ((Ctx.of s).chan p).found = none := hf
  rw [Ctx.markSeen, state, work]
  dsimp only
  rw [if_pos hk, found]
  dsimp only
  split
  · rw [← hw, ← hf]
    rfl
  · rfl

/-- Behind the ID field of its sector a write passes marks over, and a read or check judges the mark. -/
theorem Ctx.markSeen_found (hs : (s.chan p).state = .armed) (hw : (s.chan p).work = some r) (hk : r.kind.isSector = true)
    {t : Word} (hf : (s.chan p).found = some t) : (Ctx.of s).markSeen p mark peak
      = if r.kind = .write then .next s else ((Ctx.of s).awaitedMark p t mark peak).next := by
  have state : ((Ctx.of s).chan p).state = .armed := hs
  have work : ((Ctx.of s).chan p).work = some r := hw
  have found : ((Ctx.of s).chan p).found = some t := hf
  rw [Ctx.markSeen, state, work]
  dsimp only
  rw [if_pos hk, found]
  rfl

theorem Ctx.awaitedMark_data (hs : s.still) {t : Word}
    (hd : reached ((s.chan p).dataMarkDue t) s.g = true) :
    ((Ctx.of s).awaitedMark p t dataMark peak).next = .next (s.withChan p { s.chan p with state := .data, reference := peak }) := by
  have due : dataMark = dataMark ∧ reached (((Ctx.of s).chan p).dataMarkDue t) (Ctx.of s).g = true := ⟨rfl, hd⟩
  rw [Ctx.awaitedMark]
  dsimp only
  rw [if_pos due]
  exact congrArg Host.Outcome.next (Ctx.setChan_finish hs p _)

theorem WorkKind.isSector_of {k : WorkKind} (h : k = .read ∨ k = .write ∨ k = .check) : k.isSector = true := by
  obtain rfl | rfl | rfl := h <;> rfl

end Marks

/-! #### An ID field ends -/

section IdFields
variable {s : State} {p : PortNo} {r : Request} {record high low : List Flux} {id : IdRecord} {hi lo : Byte}

theorem exec_idFieldEnd_listen (hs : (s.chan p).state = .listen) : exec (.idFieldEnd p record high low) s
    = .next (s.withChan p ((s.chan p).hear ((s.chan p).read (record ++ high ++ low) 6))) := by
  change execIdFieldEnd p record high low s = _
  rw [execIdFieldEnd, hs]
  rfl

theorem exec_idFieldEnd_id (hs : (s.chan p).state = .id) (hw : (s.chan p).work = some r) : exec (.idFieldEnd p record high low) s
    = .next ((Ctx.of s).judgeId p r ((s.chan p).read (record ++ high ++ low) 6)).finish := by
  change execIdFieldEnd p record high low s = _
  rw [execIdFieldEnd, hs, hw]
  rfl

theorem idGood_iff : idGood [id.cylinder, id.head, id.sector, id.size, hi, lo] = true
    ↔ crc [0xC7, id.cylinder, id.head, id.sector, id.size, hi, lo] = 0 := by
  rw [idGood, fieldGood, beq_iff_eq]
  rfl

theorem Channel.hear_listed (h : Channel) {m : Nat} (hm : h.field = some m) {field : List Byte} (hg : idGood field = true)
    (hl : h.listen.length < 64) : h.hear field = { h with listen := h.listen ++ [⟨idOf field, m⟩], field := none } := by
  rw [Channel.hear, hm]
  exact if_pos ⟨hg, hl⟩

/-- A field without its mark, a bad one, and one past the list's length are not listed. -/
theorem Channel.hear_unlisted (h : Channel) {field : List Byte}
    (hf : h.field = none ∨ ¬ idGood field = true ∨ 64 ≤ h.listen.length) : h.hear field = { h with field := none } := by
  rw [Channel.hear]
  split
  · next none => rw [← none]
  · next m some =>
    obtain none | bad | full := hf
    · rw [some] at none
      cases none
    · exact if_neg fun h => bad h.1
    · exact if_neg fun h => absurd h.2 (Nat.not_lt.mpr full)

theorem State.idMatches_of {f : FrameNo} {x : Sector} {l : Layout}
    (hx : s.sectorAt ⟨r.drive, r.cylinder, r.head⟩ r.slot = some (f, x)) (hl : (s.drive r.drive).timer.active = some l) :
    s.idMatches r id = true ↔ id.cylinder.toNat = r.cylinder ∧ id.head.toNat = r.head ∧ id.sector.toNat = x.number
      ∧ id.size.toNat = l.sizeCode := by
  simp only [State.idMatches, State.expectedNumber, hx, hl, Bool.and_eq_true, beq_iff_eq, Option.some.injEq, and_assoc]
  rw [@eq_comm _ x.number]

theorem State.idMatches_cylinder_head (h : s.idMatches r id = true) :
    id.cylinder.toNat = r.cylinder ∧ id.head.toNat = r.head := by
  simp only [State.idMatches, Bool.and_eq_true, beq_iff_eq, and_assoc] at h
  exact ⟨h.1, h.2.1⟩

theorem Ctx.judgeId_found {field : List Byte} (hg : idGood field = true) (hm : s.idMatches r (idOf field) = true) :
    (Ctx.of s).judgeId p r field = (Ctx.of s).setChan p { s.chan p with state := .armed, found := some s.g } := by
  rw [Ctx.judgeId]
  dsimp only
  rw [if_pos ⟨hg, hm⟩]
  rfl

/-- A field that is not of the granted sector, but of its cylinder or bad, is passed over within the hunt's limit. -/
theorem Ctx.judgeId_passed {field : List Byte} (hm : ¬ (idGood field = true ∧ (Ctx.of s).idMatches r (idOf field) = true))
    (hl : s.huntOver p r = false) (hc : ¬ (idGood field = true ∧ (idOf field).cylinder.toNat ≠ r.cylinder)) :
    (Ctx.of s).judgeId p r field = (Ctx.of s).setChan p { s.chan p with state := .armed } := by
  have within : ¬ (Ctx.of s).huntOver p r = true := by rw [show (Ctx.of s).huntOver p r = false from hl]; simp
  rw [Ctx.judgeId]
  dsimp only
  rw [if_neg hm, if_neg within, if_neg hc]
  rfl

theorem State.huntOver_false (h : ∀ period, workingPeriod (s.drive r.drive).timer.p16 = some period →
    reached s.g ((s.chan p).arming + BitVec.ofNat 32 period) = false) : s.huntOver p r = false := by
  rw [State.huntOver]
  split
  · next period eq => exact h period eq
  · rfl

end IdFields

/-- Settles O47: the sampling is read off its definitions, and each command judges one mark or one field. -/
theorem fieldsAndMarks : Obligations.FieldsAndMarks := by
  refine ⟨fun x reference flux i => ⟨?_, fun k hk => x.byte_getLsbD reference flux i hk, fun mark peak h => ?_⟩,
    fun p sync signal s => ⟨exec_marks_none, fun mark peak h => ?_, fun record high low id hi lo field => ?_⟩⟩
  · rw [Settings.dataBit, Settings.seen_iff, Settings.eighth, Density.cellTime_eq]
    rfl
  · obtain ⟨hp, hm, sync⟩ := Settings.markOf_some h
    refine ⟨hm, fun k hk => x.syncRun_zero peak flux sync hk, fun f hf ht => ?_⟩
    rw [hp]
    refine x.amplitude_le_peak flux hf (ht.trans_eq ?_)
    rw [Density.cellTime_eq]
    split <;> rfl
  · have asId := exec_idMarkSeen h
    have asData := exec_dataMarkSeen h
    refine ⟨fun hm => asId.trans (if_neg hm), fun hm => asData.trans (asId.trans (if_pos hm)).symm,
      fun r hs hw => ⟨fun (hm : mark = idMark) => ?_, fun (hm : mark ≠ idMark) => ?_⟩, fun r hs hw hk =>
      ⟨fun hf => ⟨fun (hm : mark = idMark) => ?_, fun (hm : mark ≠ idMark) => ?_⟩, fun t hf hwrite => ?_,
        fun t hf hread (hm : mark = dataMark) still due => ?_⟩⟩
    · rw [asId, if_pos hm, Ctx.markSeen_listen hs hw, Channel.listenMark, if_pos hm, Density.byteTime_eq]
    · rw [asData, Ctx.markSeen_listen hs hw, Channel.listenMark, if_neg hm]
    · rw [asId, if_pos hm, Ctx.markSeen_hunt hs hw (WorkKind.isSector_of hk) hf, if_pos hm]
    · rw [asData, Ctx.markSeen_hunt hs hw (WorkKind.isSector_of hk) hf, if_neg hm]
    · rw [asData, Ctx.markSeen_found hs hw (WorkKind.isSector_of hk) hf, if_pos hwrite]
    · rw [asData, Ctx.markSeen_found hs hw (WorkKind.isSector_of hk) hf, if_neg hread, hm]
      refine Ctx.awaitedMark_data still (decide_eq_true ?_)
      rwa [Channel.dataMarkDue, Density.byteTime_eq, later]
  · have read : (s.chan p).read (record ++ high ++ low) 6 = [id.cylinder, id.head, id.sector, id.size, hi, lo] := field
    have good := idGood_iff (id := id) (hi := hi) (lo := lo)
    refine ⟨fun r hs hw => ?_, fun r hs hw still => ?_⟩
    · have runs := exec_idFieldEnd_listen (record := record) (high := high) (low := low) hs
      rw [read] at runs
      refine ⟨fun m hm hg hl => runs.trans ?_, fun hf => runs.trans ?_⟩
      · rw [Channel.hear_listed _ hm (good.mpr hg) hl]
        rfl
      · rw [Channel.hear_unlisted]
        exact hf.imp_right (Or.imp_left fun hb hg => hb (good.mp hg))
    · have runs := exec_idFieldEnd_id (record := record) (high := high) (low := low) hs hw
      rw [read] at runs
      refine ⟨fun f x l hg hc hh hx hn hl hz => runs.trans ?_, fun hb hl => runs.trans ?_⟩
      · rw [Ctx.judgeId_found (good.mpr hg) ((State.idMatches_of hx hl).mpr ⟨hc, hh, hn, hz⟩), Ctx.setChan_finish still]
      · rw [Ctx.judgeId_passed ?_ (State.huntOver_false hl) ?_, Ctx.setChan_finish still]
        · rintro ⟨hg, hm⟩
          obtain bad | ⟨_, other⟩ := hb
          · exact bad (good.mp hg)
          · obtain head | ⟨f, x, l, hx, hlayout, other⟩ := other
            · exact head (State.idMatches_cylinder_head hm).2
            · obtain ⟨_, _, number, size⟩ := (State.idMatches_of hx hlayout).mp hm
              exact other.elim (fun h => h number) fun h => h size
        · rintro ⟨hg, cyl⟩
          exact hb.elim (fun bad => bad (good.mp hg)) fun same => cyl same.1

end Sys2Proof.Machine

-- ==== Sys2Proof/Proofs/Arming.lean ====
namespace Sys2Proof.Machine

open Sys2Proof

/-! ### ARMING_TIME and SIDE_SELECT_SET (R44, R45, R50, R57, R69) -/

/-! #### A command that leaves the store's view -/

/-- That no order can go on is read of the store's view. -/
theorem State.readyOrder_of_store {s t : State} (h : t.store = s.store) (hs : s.readyOrder? = none) : t.readyOrder? = none := by
  rw [State.readyOrder_none_iff] at hs ⊢
  intro e o ho hf
  obtain ⟨o', ho', same⟩ := State.order_of_store h.symm ho
  have parked := hs e o' ho' (by rw [same]; exact hf)
  rw [same] at parked
  exact parked

section Kept
variable {s : State} {c : Ctx}

/-- A command that leaves the store's view and asks for no service of the queue goes straight to its release rounds and
picks, where nothing can move an order. -/
theorem Ctx.finish_kept_store (hs : s.still) (store : c.store = s.store) (ctl : c.ctl = s.ctl) (serve : c.serve = false) :
    c.cascade.testDone = c ∧ c.finish.store = s.store ∧ c.finish.view = c.view := by
  have calm : c.calm := ⟨fun h => hs.1.1 (ctl.symm.trans h), fun h => hs.1.2 (ctl.symm.trans h)⟩
  have same : c.cascade.testDone = c := by
    rw [c.cascade_none (State.readyOrder_of_store store hs.2) serve, Ctx.testDone_id c calm.1 calm.2]
  have picked := c.finish_picked
  rw [same] at picked
  refine ⟨same, ?_, ?_⟩
  · rw [Ctx.finish, same]
    exact picked.store.trans store
  · rw [Ctx.finish, same]
    exact picked.view

/-- A round or a pick gives a channel no state but SELECTING. -/
theorem Picked.chanState {ps : List PortNo} {c c' : Ctx} (h : Picked ps c c') (p : PortNo) :
    (c'.chan p).state = (c.chan p).state ∨ (c'.chan p).state = .selecting := by
  have step {c1 c2 : Ctx} {w : DriveNo} (a : c1.AtPick w c2)
      (ih : (c1.chan p).state = (c.chan p).state ∨ (c1.chan p).state = .selecting) :
      (c2.chan p).state = (c.chan p).state ∨ (c2.chan p).state = .selecting := by
    rw [(a.channels p).state]
    exact ih
  have granted {c1 : Ctx} (q : PortNo) (r : Request)
      (ih : (c1.chan p).state = (c.chan p).state ∨ (c1.chan p).state = .selecting) :
      ((c1.grant q r).chan p).state = (c.chan p).state ∨ ((c1.grant q r).chan p).state = .selecting := by
    by_cases hp : p = q
    · subst hp
      exact .inr (c1.grant_chan p r).2.1
    · rw [Ctx.grant_chan_ne _ _ hp]
      exact ih
  have closed {c1 : Ctx} (q : PortNo) (ih : (c1.chan p).state = (c.chan p).state ∨ (c1.chan p).state = .selecting) :
      ((c1.closeRound q).chan p).state = (c.chan p).state ∨ ((c1.closeRound q).chan p).state = .selecting := by
    rw [Ctx.closeRound_chan]
    split
    · next h => subst h; exact ih
    · exact ih
  induction h with
  | refl => exact .inl rfl
  | lists _ _ _ ih => exact ih
  | quiet w _ ih => exact ih
  | recal w _ _ _ ih => exact step (Ctx.recalPick_atPick _ w) ih
  | move w x _ _ _ _ ih => exact step (Ctx.movePick_atPick _ w x) ih
  | @file c1 w x a r _ _ _ _ ih =>
    have filed := step (Ctx.filePick_atPick c1 w x a) ih
    unfold Ctx.fileRequest
    dsimp only
    split
    · exact granted _ r filed
    · rw [Ctx.modChan, Ctx.setChan_chan]
      split
      · next h =>
        subst h
        unfold Channel.setPend
        split
        · exact filed
        · exact filed
      · exact filed
  | close q _ _ ih => exact closed q ih
  | grant q r _ _ _ ih => exact granted q r (closed q ih)

theorem Ctx.finish_chanState (c : Ctx) (p : PortNo) :
    (c.finish.chan p).state = (c.chan p).state ∨ (c.finish.chan p).state = .selecting := by
  have states := c.finish_picked.chanState p
  rw [c.tested_chan] at states
  exact states

/-- The end of a command whose own part ended with a channel that became IDLE and the store's view as it was. -/
theorem Ctx.toIdle_finish (hs : s.still) (store : c.store = s.store) (ctl : c.ctl = s.ctl) (serve : c.serve = false)
    (p : PortNo) : (c.toIdle p).finish.store = s.store ∧ (c.toIdle p).finish.view = c.view
      ∧ (((c.toIdle p).finish.chan p).state = .idle ∨ ((c.toIdle p).finish.chan p).state = .selecting) := by
  obtain ⟨channels, drives, rounds, eq⟩ := c.toIdle_parts p
  obtain ⟨_, kept, view⟩ := Ctx.finish_kept_store (c := c.toIdle p) hs (by rw [eq]; exact store) (by rw [eq]; exact ctl)
    (by rw [eq]; exact serve)
  refine ⟨kept, view.trans (c.toIdle_view p), ?_⟩
  have states := (c.toIdle p).finish_chanState p
  rwa [(c.toIdle_chan p).2] at states

end Kept

/-! #### A sector attempt begins -/

section Armed
variable {s : State} {p : PortNo} {r : Request} {f : FrameNo} {x : Sector} {l : Layout}

theorem exec_armingTime (hs : (s.chan p).state = .selecting) (hr : reached s.g (s.chan p).arming = true)
    (hw : (s.chan p).work = some r) : exec (.armingTime p) s = .next ((Ctx.of s).arm p r).finish := by
  have work : s.armingWork p = some r := (if_pos ⟨hs, hr⟩).trans hw
  change execArmingTime p s = _
  rw [execArmingTime, work]
  rfl

theorem exec_armingTime_waits
    (h : (s.chan p).state ≠ .selecting ∨ reached s.g (s.chan p).arming = false ∨ (s.chan p).work = none) :
    exec (.armingTime p) s = .next s := by
  have work : s.armingWork p = none := by
    unfold State.armingWork
    dsimp only
    split
    · next due =>
      obtain h | h | h := h
      · exact absurd due.1 h
      · exact absurd (h.symm.trans due.2) (by simp)
      · exact h
    · rfl
  change execArmingTime p s = _
  rw [execArmingTime, work]

/-- The sector is in the state that a request of its kind asks for (R44). -/
theorem State.sectorReady_iff (hx : s.sectorAt ⟨r.drive, r.cylinder, r.head⟩ r.slot = some (f, x)) :
    s.sectorReady r = true ↔ (s.frame f).generation = (s.drive r.drive).generation ∧ x.state = r.kind.sectorState := by
  rw [State.sectorReady, hx]
  simp

theorem State.usable_sector_iff (hk : r.kind.isSector = true) : s.usable p r = true ↔
    (s.drive r.drive).arm = .free ∧ (s.drive r.drive).heads = .loaded ∧ (s.drive r.drive).state.transfers = true
      ∧ s.sectorReady r = true ∧ (s.chan p).owed r.drive = false
      ∧ (1 < (s.chan p).burst ∨ ((s.chan p).arming - r.start).toInt ≤ 0) := by
  simp only [State.usable, hk, if_true, Bool.and_eq_true, beq_iff_eq, Bool.not_eq_true', Bool.or_eq_true,
    decide_eq_true_eq, and_assoc]

theorem State.usable_track_iff (hk : r.kind.isSector = false) : s.usable p r = true ↔
    (s.drive r.drive).arm = .free ∧ (s.drive r.drive).heads = .loaded ∧ (s.drive r.drive).cylinder = r.cylinder := by
  simp [State.usable, hk, and_assoc]

theorem DriveState.transfers_iff {d : DriveState} : d.transfers = true ↔ d = .ready ∨ d = .blank ∨ d = .formatting := by
  cases d <;> simp [DriveState.transfers]

/-- The state that a sector takes as an attempt of a kind begins on it (R69). -/
def WorkKind.begunState (k : WorkKind) : SectorState :=
  if k = .read then .reading else if k = .check then .checking else .dirty

/-- The row of the read ladder, and row 1 for a write or check (R51). -/
theorem State.settingsFor_sector (hk : r.kind.isSector = true)
    (hx : s.sectorAt ⟨r.drive, r.cylinder, r.head⟩ r.slot = some (f, x)) (hl : (s.drive r.drive).timer.active = some l) :
    s.settingsFor r =
      { density := l.density
        window := if r.kind = .read ∧ x.attempts + 1 = 3 then .early
          else if r.kind = .read ∧ x.attempts + 1 = 4 then .late else .centre
        threshold := if r.kind = .read ∧ x.attempts + 1 = 5 then 40
          else if r.kind = .read ∧ x.attempts + 1 = 6 then 60
          else if r.kind = .read ∧ x.attempts + 1 = 8 then 70 else 50 } := by
  have density : ¬ r.kind = .discover := fun h => by rw [h] at hk; cases hk
  rw [State.settingsFor, hx, hl]
  dsimp only
  rw [if_neg density]
  by_cases hr : r.kind = .read
  · simp only [hr, if_true, true_and, readSettings]
    generalize x.attempts + 1 = n
    by_cases h3 : n = 3
    · simp [h3]
    by_cases h4 : n = 4
    · simp [h4]
    by_cases h5 : n = 5
    · simp [h5]
    by_cases h6 : n = 6
    · simp [h6]
    by_cases h8 : n = 8
    · simp [h8]
    simp [h3, h4, h5, h6, h8]
  · simp [hr]

/-- What an attempt that begins leaves: its sector's state alone, and nothing to report. -/
structure Ctx.Begins (c : Ctx) (f : FrameNo) (n : Nat) (y : Sector) (c' : Ctx) : Prop where
  frame : ∀ f', c'.frame f' = if f' = f then { c.frame f with sectors := (c.frame f).sectors.set n y } else c.frame f'
  table : c'.table = c.table
  channels : c'.channels = c.channels
  view : c'.view = c.view
  quiet : c'.serve = c.serve ∧ c'.picks = c.picks ∧ c'.rounds = c.rounds

/-- A sector comes under the head. -/
theorem Ctx.modSector_begins {c : Ctx} {n : Nat} {k : Sector → Sector} (hx : (c.frame f).sectors[n]? = some x)
    (hk : (k x).state.busy = true) : c.Begins f n (k x) (c.modSector f n k) where
  frame f' := by
    rw [Ctx.modSector, Ctx.modFrame, Ctx.putFrame_frame]
    split
    · rw [Frame.modSlot, List.modify_eq_set_getElem?, hx]
      rfl
    · rfl
  table := Ctx.putFrame_table c f _
  channels := Ctx.putFrame_channels c f _
  view := c.modSector_view f n k
  quiet := Ctx.modSector_busy hx hk

/-- ATTEMPT BEGUN takes the sector of a read or check under the head and leaves that of a write (R69). -/
theorem Ctx.attemptBegun_begins {c : Ctx} {k : Key} {n : Nat} {kind : WorkKind} (hx : c.sectorAt k n = some (f, x))
    (hk : kind.isSector = true) (hs : x.state = kind.sectorState) :
    c.Begins f n { x with state := kind.begunState } (c.attemptBegun k n kind) := by
  have found := State.sectorAt_some hx
  rw [Ctx.attemptBegun, hx]
  dsimp only
  cases kind with
  | read =>
    rw [if_pos ⟨rfl, hs⟩]
    exact Ctx.modSector_begins (k := fun x => { x with state := .reading }) found rfl
  | check =>
    rw [if_neg (by simp), if_pos ⟨rfl, hs⟩]
    exact Ctx.modSector_begins (k := fun x => { x with state := .checking }) found rfl
  | write =>
    have same : ({ x with state := WorkKind.begunState .write } : Sector) = x := by
      rw [show WorkKind.begunState .write = x.state from hs.symm]
    obtain ⟨bound, at_n⟩ := List.getElem?_eq_some_iff.mp found
    rw [if_neg (by simp), if_neg (by simp), same]
    refine ⟨fun f' => ?_, rfl, rfl, rfl, rfl, rfl, rfl⟩
    split
    · next h => rw [h, ← at_n, List.set_getElem_self]
    · rfl
  | formatTrack => cases hk
  | discover => cases hk
  | recal => cases hk

/-- A sector attempt that is armed: its channel, its sector, and nothing else. -/
theorem exec_armingTime_armed (still : s.still) (hs : (s.chan p).state = .selecting)
    (hr : reached s.g (s.chan p).arming = true) (hw : (s.chan p).work = some r) (hk : r.kind.isSector = true)
    (hu : s.usable p r = true) (hx : s.sectorAt ⟨r.drive, r.cylinder, r.head⟩ r.slot = some (f, x))
    (ready : x.state = r.kind.sectorState) :
    ∃ t, exec (.armingTime p) s = .next t
      ∧ (∀ q, t.chan q = if q = p then { s.chan p with
          state := .armed, work := some { r with attempt := x.attempts + 1 }, settings := s.settingsFor r } else s.chan q)
      ∧ (∀ f', t.frame f' = if f' = f then
          { s.frame f with sectors := (s.frame f).sectors.set r.slot { x with state := r.kind.begunState } } else s.frame f')
      ∧ t.table = s.table ∧ t.view = s.view := by
  have number : (Ctx.of s).attemptNumber r = x.attempts + 1 := by
    change s.attemptNumber r = _
    rw [State.attemptNumber, hx]
  have usable : (Ctx.of s).usable p r = true := hu
  have armed : (Ctx.of s).arm p r = ((Ctx.of s).modChan p fun h => { h with
      state := .armed, work := some { r with attempt := x.attempts + 1 }, settings := s.settingsFor r }).attemptBegun
        ⟨r.drive, r.cylinder, r.head⟩ r.slot r.kind := by
    rw [Ctx.arm, if_pos usable, if_pos hk]
    dsimp only
    rw [number]
    rfl
  have begins := Ctx.attemptBegun_begins (c := (Ctx.of s).modChan p fun h => { h with
      state := .armed, work := some { r with attempt := x.attempts + 1 }, settings := s.settingsFor r })
    (k := ⟨r.drive, r.cylinder, r.head⟩) (n := r.slot) hx hk ready
  rw [← armed] at begins
  have runs := exec_armingTime hs hr hw
  generalize (Ctx.of s).arm p r = c at begins runs
  obtain ⟨frame, table, channels, view, serve, picks, rounds⟩ := begins
  have ctl : c.ctl = s.ctl := State.view_ctl view
  have ends : c.finish = c.toState :=
    Ctx.finish_none c ⟨fun h => still.1.1 (ctl.symm.trans h), fun h => still.1.2 (ctl.symm.trans h)⟩
      ((State.readyOrder_of_table table).trans still.2) serve picks rounds
  rw [ends] at runs
  refine ⟨_, runs, fun q => ?_, frame, table, view⟩
  rw [State.chan_of_channels channels, Ctx.modChan, Ctx.setChan_chan]
  rfl

end Armed

/-! #### A grant that cannot be used -/

section Missed
variable {s : State} {p : PortNo} {r : Request} {j : Job}

theorem Ctx.arm_missed (h : s.usable p r = false) : (Ctx.of s).arm p r = (Ctx.of s).missed p r := by
  have unusable : ¬ (Ctx.of s).usable p r = true := by
    rw [show (Ctx.of s).usable p r = false from h]
    simp
  rw [Ctx.arm, if_neg unusable]

/-- A sector attempt that is MISSED raises RECAL REQUEST for an owed mark at most. -/
theorem Ctx.missed_sector (hk : r.kind.isSector = true) :
    ∃ c1, (Ctx.of s).missed p r = c1.toIdle p ∧ (Ctx.of s).Jobs r.drive c1 ∧ c1.store = s.store := by
  rw [Ctx.missed, if_pos hk]
  refine ⟨_, rfl, ?_⟩
  split
  · exact ⟨(Ctx.of s).recalRequest_jobs r.drive, (Ctx.of s).postJob_store r.drive _⟩
  · exact ⟨.refl _ _, rfl⟩

/-- The running mark of a job that was MISSED is cleared. -/
def Ctx.jobPending (c : Ctx) (v : DriveNo) (j : Job) : Ctx :=
  (c.modSched v fun x => { x with job := some { j with running := false } }).raiseMarks v

theorem Ctx.jobPending_jobs (c : Ctx) (v : DriveNo) (j : Job) : c.Jobs v (c.jobPending v j) :=
  (c.modSched_jobs v _).trans (Ctx.raiseMarks_jobs _ v)

theorem Ctx.jobPending_sched (c : Ctx) (v : DriveNo) (j : Job) : ((c.jobPending v j).drive v).sched
    = { (c.drive v).sched with job := some { j with running := false } } := by
  simp [Ctx.jobPending, Ctx.raiseMarks, Ctx.modSched, Ctx.modDrive]

/-- A MISSED track job whose requester remains is pending again (R93). -/
theorem Ctx.missedJob_pending {c : Ctx} (hj : (c.drive r.drive).sched.job = some j) (hk : j.kind = r.kind)
    (calm : c.ctl ≠ .shedding) (hr : ∀ b, j.requester ≠ .gone b) : c.missedJob r = c.jobPending r.drive j := by
  rw [Ctx.missedJob]
  dsimp only
  rw [hj]
  dsimp only
  rw [if_neg (not_not.mpr hk)]
  split
  · next b h => exact absurd h (hr b)
  · exact if_neg calm
  · rfl
  · rfl

/-- A MISSED track job that a restart left is dropped (R174). -/
theorem Ctx.missedJob_gone {c : Ctx} {b : Bool} (hj : (c.drive r.drive).sched.job = some j) (hk : j.kind = r.kind)
    (hr : j.requester = .gone b) : c.missedJob r
      = if b then ((c.jobPending r.drive j).jobEnded r.drive).blankIncomplete r.drive
        else (c.jobPending r.drive j).jobEnded r.drive := by
  rw [Ctx.missedJob]
  dsimp only
  rw [hj]
  dsimp only
  rw [if_neg (not_not.mpr hk)]
  split
  · next b' h =>
    obtain rfl : b = b' := by
      rw [hr] at h
      cases h
      rfl
    rfl
  all_goals
    next h =>
    rw [hr] at h
    cases h

theorem Ctx.blankIncomplete_store (c : Ctx) (v : DriveNo) : (c.blankIncomplete v).store = c.store := by
  rw [Ctx.blankIncomplete]
  split
  · rw [Ctx.setDriveState_rest]
    rfl
  · rfl

theorem Ctx.blankIncomplete_serve (c : Ctx) (v : DriveNo) : (c.blankIncomplete v).serve = c.serve := by
  rw [Ctx.blankIncomplete]
  split
  · rw [Ctx.setDriveState_rest]
    rfl
  · rfl

theorem Ctx.toIdle_job_sameJob (c : Ctx) (p : PortNo) (v : DriveNo) (hn : ∀ j, (c.drive v).sched.job = some j → j.kind ≠ .recal) :
    ((c.toIdle p).finish.drive v).sched.job = (c.drive v).sched.job
      ∨ ((c.toIdle p).finish.drive v).sched.job = (c.drive v).sched.job.map fun j => { j with running := true } := by
  have same := ((c.toIdle p).finish_sameJob (v := v) (by rwa [c.toIdle_job])).1
  rwa [c.toIdle_job] at same

/-- The job slot of a drive stays free over the end of a command. -/
theorem Ctx.toIdle_finish_noJob (c : Ctx) (p : PortNo) (v : DriveNo) (h : (c.drive v).sched.job = none) :
    ((c.toIdle p).finish.drive v).sched.job = none := by
  obtain same | same := c.toIdle_job_sameJob p v fun j hj => by rw [h] at hj; cases hj
  · rw [same, h]
  · rw [same, h]
    rfl

/-- The drive of a dropped job of a diskette format is BLANK, and has no job. -/
theorem Ctx.blankIncomplete_drive (c : Ctx) {v : DriveNo} (h : (c.drive v).state = .formatting) :
    ((c.blankIncomplete v).drive v).state = .blank ∧ ((c.blankIncomplete v).drive v).cause = .incomplete
      ∧ ((c.blankIncomplete v).drive v).layoutKnown = false
      ∧ ((c.blankIncomplete v).drive v).sched = (c.drive v).sched := by
  have changed : ¬ (((c.modDrive v fun d => { d with layoutKnown := false, incomplete := false }).drive v).state = .blank
      ∧ ((c.modDrive v fun d => { d with layoutKnown := false, incomplete := false }).drive v).cause = .incomplete) := by
    rw [Ctx.modDrive, Ctx.setDrive_drive_self, h]
    simp
  rw [Ctx.blankIncomplete, if_pos h, Ctx.setDriveState_drive _ _ _ _ changed, Ctx.modDrive, Ctx.setDrive_drive_self]
  exact ⟨rfl, rfl, rfl, rfl⟩

end Missed

section Tracks
theorem Drive.view_shown {d d' : Drive} (h : d'.view = d.view) :
    d'.state = d.state ∧ d'.cause = d.cause ∧ d'.layoutKnown = d.layoutKnown :=
  ⟨congrArg DriveView.state h, congrArg DriveView.cause h, congrArg DriveView.layoutKnown h⟩

variable {s : State} {p : PortNo} {r : Request} {j : Job}

/-- A MISSED track job whose requester remains may be granted anew in the same command. -/
theorem Ctx.missed_pending (still : s.still) (hk : r.kind.isSector = false) (hn : j.kind ≠ .recal)
    (hj : (s.drive r.drive).sched.job = some j) (hjk : j.kind = r.kind) (hr : ∀ b, j.requester ≠ .gone b) :
    let t := ((Ctx.of s).missed p r).finish
    t.store = s.store ∧ ((t.chan p).state = .idle ∨ (t.chan p).state = .selecting)
      ∧ (t.drive r.drive).view = (s.drive r.drive).view
      ∧ ∃ b, (t.drive r.drive).sched.job = some { j with running := b } := by
  have pending := Ctx.missedJob_pending (c := Ctx.of s) hj hjk still.1.2 hr
  have sector : ¬ r.kind.isSector = true := by rw [hk]; simp
  have missed : (Ctx.of s).missed p r = ((Ctx.of s).jobPending r.drive j).toIdle p := by
    rw [Ctx.missed, if_neg sector, pending]
  have jobs := (Ctx.of s).jobPending_jobs r.drive j
  obtain ⟨store, view, states⟩ := Ctx.toIdle_finish (c := (Ctx.of s).jobPending r.drive j) still rfl jobs.ctl
    (by rw [jobs.rest]; rfl) p
  have job : (((Ctx.of s).jobPending r.drive j).drive r.drive).sched.job = some { j with running := false } := by
    rw [Ctx.jobPending_sched]
  have same := Ctx.toIdle_job_sameJob ((Ctx.of s).jobPending r.drive j) p r.drive fun j' h => by
    rw [job] at h
    cases h
    exact hn
  rw [job] at same
  dsimp only
  rw [missed]
  refine ⟨store, states, ?_, ?_⟩
  · rw [State.view_drive view, jobs.drive]
    rfl
  · obtain same | same := same
    · exact ⟨false, same⟩
    · exact ⟨true, same⟩

/-- A MISSED track job that a restart left is dropped, and a diskette format's leaves its drive BLANK. -/
theorem Ctx.missed_gone (still : s.still) (hk : r.kind.isSector = false) (hj : (s.drive r.drive).sched.job = some j)
    (hjk : j.kind = r.kind) {b : Bool} (hr : j.requester = .gone b) :
    let t := ((Ctx.of s).missed p r).finish
    t.store = s.store ∧ ((t.chan p).state = .idle ∨ (t.chan p).state = .selecting)
      ∧ (.driveControl ∉ (s.drive r.drive).sched.busy → (t.drive r.drive).sched.job = none
        ∧ (b = true → (s.drive r.drive).state = .formatting → (t.drive r.drive).state = .blank
          ∧ (t.drive r.drive).cause = .incomplete ∧ (t.drive r.drive).layoutKnown = false)
        ∧ (b = false ∨ (s.drive r.drive).state ≠ .formatting → (t.drive r.drive).view = (s.drive r.drive).view)) := by
  have gone := Ctx.missedJob_gone (c := Ctx.of s) hj hjk hr
  have sector : ¬ r.kind.isSector = true := by rw [hk]; simp
  have jobs := ((Ctx.of s).jobPending_jobs r.drive j).trans (Ctx.jobEnded_jobs _ r.drive)
  have sched := (Ctx.of s).jobPending_sched r.drive j
  have free := ((Ctx.of s).jobPending r.drive j).jobEnded_drive r.drive
  have store1 : (((Ctx.of s).jobPending r.drive j).jobEnded r.drive).store = s.store := Ctx.jobEnded_store _ _
  generalize ((Ctx.of s).jobPending r.drive j).jobEnded r.drive = c1 at gone jobs free store1
  have serve1 : c1.serve = false := by rw [jobs.rest]; rfl
  have view1 : (c1.drive r.drive).view = (s.drive r.drive).view := by rw [jobs.drive]; rfl
  have noJob : .driveControl ∉ (s.drive r.drive).sched.busy → (c1.drive r.drive).sched.job = none := fun hb => by
    rw [free fun h => absurd (show .driveControl ∈ (s.drive r.drive).sched.busy by rw [sched] at h; exact h) hb]
  dsimp only
  rw [Ctx.missed, if_neg sector, gone]
  by_cases blanks : b = true ∧ (c1.drive r.drive).state = .formatting
  · obtain ⟨rfl, formatting⟩ := blanks
    rw [if_pos rfl]
    obtain ⟨blank, cause, known, sched2⟩ := c1.blankIncomplete_drive formatting
    obtain ⟨store, view, states⟩ := Ctx.toIdle_finish (c := c1.blankIncomplete r.drive) still
      ((c1.blankIncomplete_store _).trans store1) ((c1.blankIncomplete_parts _).2.trans jobs.ctl)
      ((c1.blankIncomplete_serve _).trans serve1) p
    obtain ⟨state3, cause3, known3⟩ := Drive.view_shown (State.view_drive view r.drive)
    refine ⟨store, states, fun hb => ⟨?_, fun _ _ => ⟨state3.trans blank, cause3.trans cause, known3.trans known⟩,
      fun h => ?_⟩⟩
    · exact Ctx.toIdle_finish_noJob _ p _ (by rw [sched2]; exact noJob hb)
    · exact h.elim (fun h => nomatch h) fun h => absurd (jobs.state.symm.trans formatting) h
  · have same : (if b = true then c1.blankIncomplete r.drive else c1) = c1 := by
      split
      · next hb => exact c1.blankIncomplete_away fun h => blanks ⟨hb, h⟩
      · rfl
    rw [same]
    obtain ⟨store, view, states⟩ := Ctx.toIdle_finish still store1 jobs.ctl serve1 p
    refine ⟨store, states, fun hb => ⟨Ctx.toIdle_finish_noJob _ p _ (noJob hb), fun hb hs => ?_, fun _ => ?_⟩⟩
    · exact absurd ⟨hb, jobs.state.trans hs⟩ blanks
    · exact (State.view_drive view r.drive).trans view1

end Tracks

/-! #### The select -/

theorem exec_sideSelectSet {s : State} {p : PortNo} : exec (.sideSelectSet p) s
    = if s.selectDue p = true then .next (s.withChan p (s.chan p).select) else .next s := rfl

/-- Settles O46: a usable grant changes its channel and its sector's record, and every other returns its channel to IDLE with
the store as it was, a track job being pending again or dropped. -/
theorem armingTime : Obligations.ArmingTime := by
  intro p s
  refine ⟨exec_armingTime_waits, fun r still hs hr hw => ⟨?_, fun hk bad => ?_, fun j hk hj hjk bad => ?_, ?_⟩, ?_, ?_⟩
  · intro f x l hx hl arm heads state generation owed inTime kinds
    have sector : r.kind.isSector = true := by
      obtain ⟨k, _⟩ | ⟨k, _⟩ | ⟨k, _⟩ := kinds
      all_goals rw [k]; rfl
    have ready : x.state = r.kind.sectorState := by
      obtain ⟨k, h⟩ | ⟨k, h⟩ | ⟨k, h⟩ := kinds
      all_goals rw [k]; exact h
    have usable := (State.usable_sector_iff (p := p) sector).mpr
      ⟨arm, heads, DriveState.transfers_iff.mpr state, (State.sectorReady_iff hx).mpr ⟨generation, ready⟩, owed, inTime⟩
    obtain ⟨t, runs, chan, frame, table, view⟩ := exec_armingTime_armed still hs hr hw sector usable hx ready
    refine ⟨t, runs, ?_, ?_, fun f' hf => (frame f').trans (if_neg hf), fun q hq => (chan q).trans (if_neg hq), table, view⟩
    · rw [chan, if_pos rfl, State.settingsFor_sector sector hx hl]
    · rw [frame, if_pos rfl]
      rfl
  · have sector := WorkKind.isSector_of hk
    have unusable : s.usable p r = false := by
      rw [Bool.eq_false_iff, ne_eq, State.usable_sector_iff sector]
      rintro ⟨arm, heads, state, ready, owed, inTime⟩
      obtain h | h | h | h | ⟨h1, h2, h3⟩ | h | ⟨f, x, hx, h⟩ := bad
      · exact h arm
      · exact h heads
      · exact absurd (owed.symm.trans h) (by simp)
      · exact h inTime
      · obtain h | h | h := DriveState.transfers_iff.mp state
        · exact h1 h
        · exact h2 h
        · exact h3 h
      · rw [State.sectorReady, h] at ready
        cases ready
      · obtain ⟨generation, asked⟩ := (State.sectorReady_iff hx).mp ready
        obtain h | ⟨k, h⟩ | ⟨k, h⟩ | ⟨k, h⟩ := h
        · exact h generation
        all_goals
          rw [k] at asked
          exact h asked
    obtain ⟨c1, missed, jobs, store1⟩ := Ctx.missed_sector (s := s) (p := p) sector
    obtain ⟨store, view, states⟩ := Ctx.toIdle_finish still store1 jobs.ctl (by rw [jobs.rest]; rfl) p
    have runs := exec_armingTime hs hr hw
    rw [Ctx.arm_missed unusable, missed] at runs
    refine ⟨_, runs, store, ?_, states⟩
    rw [State.view_drive view, jobs.drive]
    rfl
  · have track : r.kind.isSector = false := by obtain h | h := hk <;> rw [h] <;> rfl
    have unusable : s.usable p r = false := by
      rw [Bool.eq_false_iff, ne_eq, State.usable_track_iff track]
      rintro ⟨arm, heads, cylinder⟩
      exact bad.elim (fun h => h arm) fun h => h.elim (fun h => h heads) fun h => h cylinder
    have noRecal : j.kind ≠ .recal := by obtain h | h := hk <;> rw [hjk, h] <;> simp
    have runs := exec_armingTime hs hr hw
    rw [Ctx.arm_missed unusable] at runs
    refine ⟨_, runs, ?_⟩
    by_cases gone : ∃ b, j.requester = .gone b
    · obtain ⟨b, hb⟩ := gone
      obtain ⟨store, states, dropped⟩ := Ctx.missed_gone (p := p) still track hj hjk hb
      refine ⟨states, store, fun h => absurd hb (h b), fun b' hb' busy => ?_⟩
      obtain rfl : b = b' := by
        rw [hb] at hb'
        cases hb'
        rfl
      exact dropped busy
    · have here : ∀ b, j.requester ≠ .gone b := fun b hb => gone ⟨b, hb⟩
      obtain ⟨store, states, view, job⟩ := Ctx.missed_pending (p := p) still track noRecal hj hjk here
      exact ⟨states, store, fun _ => ⟨view, job⟩, fun b hb => absurd hb (here b)⟩
  · intro hk arm heads cylinder
    have track : r.kind.isSector = false := by obtain h | h := hk <;> rw [h] <;> rfl
    have usable : (Ctx.of s).usable p r = true := (State.usable_track_iff (s := s) track).mpr ⟨arm, heads, cylinder⟩
    have sector : ¬ r.kind.isSector = true := by rw [track]; simp
    rw [exec_armingTime hs hr hw, Ctx.arm, if_pos usable, if_neg sector]
    exact congrArg Host.Outcome.next (Ctx.setChan_finish still p _)
  · intro waits
    have due : ¬ s.selectDue p = true := by
      rw [State.selectDue]
      split
      · next x hx => rw [waits x hx]; simp
      · simp
    rw [exec_sideSelectSet, if_neg due]
  · intro x v head hx hr hv
    have due : s.selectDue p = true := by
      rw [State.selectDue, hx]
      exact hr
    rw [exec_sideSelectSet, if_pos due, Channel.select, hv]
    rfl

end Sys2Proof.Machine

-- ==== Sys2Proof/Proofs/Choices.lean ====
namespace Sys2Proof.Machine

open Sys2Proof

/-! ### The pick, the release round and the burst (R41 to R43, R98 to R101) -/

/-! #### The ranking -/

/-- The ranking order is the order of lists of numbers. -/
theorem keysBefore_iff : ∀ xs ys : List Nat, keysBefore xs ys = true ↔ xs < ys
  | [], [] => by simp [keysBefore]
  | [], y :: ys => by simp [keysBefore]
  | x :: xs, [] => by simp [keysBefore]
  | x :: xs, y :: ys => by
    rw [keysBefore, List.cons_lt_cons_iff]
    have ih := keysBefore_iff xs ys
    obtain h | h | h := Nat.lt_trichotomy x y
    · simp [h]
    · simp [h, ih]
    · simp [h, Nat.lt_asymm h, Nat.ne_of_gt h]

theorem keys_le_iff {x y : Nat} {xs ys : List Nat} : x :: xs ≤ y :: ys ↔ x < y ∨ x = y ∧ xs ≤ ys := by
  rw [← not_lt, List.cons_lt_cons_iff, ← not_lt]
  obtain h | rfl | h := Nat.lt_trichotomy x y
  · simp [h, Nat.lt_asymm h, Nat.ne_of_gt h]
  · simp
  · simp [h, Nat.lt_asymm h, Nat.ne_of_gt h]

/-- The first of a list in the ranking comes before none of the others. -/
theorem bestOf_le {xs : List Ranked} {b : Ranked} (h : bestOf xs = some b) : ∀ y ∈ xs, b.keys ≤ y.keys := by
  have walk : ∀ (l : List Ranked) (best : Option Ranked) (b : Ranked), l.foldl (fun best x => match best with
        | none => some x
        | some b => if keysBefore x.keys b.keys then some x else some b) best = some b →
      (∀ a, best = some a → b.keys ≤ a.keys) ∧ ∀ y ∈ l, b.keys ≤ y.keys := by
    intro l
    induction l with
    | nil =>
      rintro _ b rfl
      refine ⟨fun a ha => ?_, fun _ h => nomatch h⟩
      cases ha
      exact le_rfl
    | cons x l ih =>
      intro best b h
      obtain ⟨held, members⟩ := ih _ b h
      have first : b.keys ≤ x.keys ∧ ∀ a, best = some a → b.keys ≤ a.keys := by
        cases best with
        | none => exact ⟨held x rfl, fun _ h => nomatch h⟩
        | some a =>
          dsimp only at held
          split at held
          · next before =>
            have le := held x rfl
            exact ⟨le, fun a' ha => by cases ha; exact le.trans ((keysBefore_iff _ _).mp before).le⟩
          · next before =>
            have le := held a rfl
            refine ⟨le.trans (not_lt.mp fun h => before ((keysBefore_iff _ _).mpr h)), fun a' ha => by cases ha; exact le⟩
      refine ⟨first.2, fun y hy => ?_⟩
      obtain rfl | hy := List.mem_cons.mp hy
      · exact first.1
      · exact members y hy
  exact (walk xs none b h).2

theorem bestOf_some {xs : List Ranked} (h : xs ≠ []) : ∃ b, bestOf xs = some b := by
  have walk : ∀ (l : List Ranked) (a : Ranked), ∃ b, l.foldl (fun best x => match best with
        | none => some x
        | some b => if keysBefore x.keys b.keys then some x else some b) (some a) = some b := by
    intro l
    induction l with
    | nil => exact fun a => ⟨a, rfl⟩
    | cons x l ih =>
      intro a
      rw [List.foldl_cons]
      dsimp only
      split
      · exact ih x
      · exact ih a
  cases xs with
  | nil => exact absurd rfl h
  | cons x l => exact walk l x

/-- Where a place comes in the last keys of the ranking: by cylinder, head and slot, a track job before slot 0 (R98). -/
def Place.notAfter (x y : Place) : Prop :=
  x.cylinder < y.cylinder ∨ (x.cylinder = y.cylinder ∧ (x.head < y.head ∨ (x.head = y.head
    ∧ (x.slot = none ∨ ∃ j k, x.slot = some j ∧ y.slot = some k ∧ j ≤ k))))

theorem Place.notAfter_of {x y : Place} (h : [x.cylinder, x.head, slotOrder x.slot] ≤ [y.cylinder, y.head, slotOrder y.slot]) :
    x.notAfter y := by
  simp only [keys_le_iff] at h
  have slots : slotOrder x.slot ≤ slotOrder y.slot →
      x.slot = none ∨ ∃ j k, x.slot = some j ∧ y.slot = some k ∧ j ≤ k := by
    cases hx : x.slot <;> cases hy : y.slot <;> simp [slotOrder]
  obtain h | ⟨hc, h | ⟨hh, h | ⟨hs, _⟩⟩⟩ := h
  · exact .inl h
  · exact .inr ⟨hc, .inl h⟩
  · exact .inr ⟨hc, .inr ⟨hh, slots h.le⟩⟩
  · exact .inr ⟨hc, .inr ⟨hh, slots hs.le⟩⟩

theorem State.candAge_le (s : State) (x : Cand) : s.candAge x ≤ ageLimit := Nat.min_le_left _ _

/-- What the order of the keys says of two ranked candidates: the class, then the arm target, then age and cost or cost and age,
and last the place (R98). -/
theorem Ranked.keys_le {a b : Ranked} (ha : a.age ≤ ageLimit) (hb : b.age ≤ ageLimit) (h : a.keys ≤ b.keys) :
    a.cls < b.cls ∨ (a.cls = b.cls ∧ ((a.isTarget = true ∧ b.isTarget = false) ∨ (a.isTarget = b.isTarget
      ∧ (a.cls = 2 → b.age < a.age ∨ (b.age = a.age
          ∧ (a.cost < b.cost ∨ (a.cost = b.cost ∧ a.cand.place.notAfter b.cand.place))))
      ∧ (a.cls ≠ 2 → a.cost < b.cost ∨ (a.cost = b.cost
          ∧ (b.age < a.age ∨ (b.age = a.age ∧ a.cand.place.notAfter b.cand.place))))))) := by
  simp only [Ranked.keys, List.cons_append, List.nil_append, keys_le_iff] at h
  obtain less | ⟨cls, h⟩ := h
  · exact .inl less
  refine .inr ⟨cls, ?_⟩
  obtain target | ⟨target, h⟩ := h
  · left
    revert target
    cases a.isTarget <;> cases b.isTarget <;> simp
  have targets : a.isTarget = b.isTarget := by
    revert target
    cases a.isTarget <;> cases b.isTarget <;> simp
  refine .inr ⟨targets, fun two => ?_, fun other => ?_⟩
  · rw [if_pos two, if_pos (cls.symm.trans two)] at h
    simp only [List.cons_append, List.nil_append, keys_le_iff] at h
    obtain h | ⟨age, h | ⟨cost, h⟩⟩ := h
    · exact .inl (by omega)
    · exact .inr ⟨by omega, .inl h⟩
    · exact .inr ⟨by omega, .inr ⟨cost, Place.notAfter_of (by simpa only [keys_le_iff] using h)⟩⟩
  · rw [if_neg other, if_neg fun h => other (cls.trans h)] at h
    simp only [List.cons_append, List.nil_append, keys_le_iff] at h
    obtain h | ⟨cost, h | ⟨age, h⟩⟩ := h
    · exact .inl h
    · exact .inr ⟨cost, .inl (by omega)⟩
    · exact .inr ⟨cost, .inr ⟨by omega, Place.notAfter_of (by simpa only [keys_le_iff] using h)⟩⟩

/-! #### The pick -/

section Pick
variable {s : State} {v : DriveNo} {target : Option Place}

/-- The candidate stands on the drive's cylinder. -/
def Cand.on (x : Cand) (d : Drive) : Bool := x.place.cylinder == d.cylinder

theorem Cand.on_iff {x : Cand} {d : Drive} : x.on d = true ↔ x.place.cylinder = d.cylinder := beq_iff_eq

/-- The pick moves the arm: no candidate is on the cylinder, or one off it is overdue (R99). -/
def State.armPicks (s : State) (v : DriveNo) : Bool :=
  !(s.served v).any (fun x => x.on (s.drive v)) || (s.served v).any fun x => !x.on (s.drive v) && s.overdue x

theorem State.armPicks_iff : s.armPicks v = true ↔ (∀ x ∈ s.served v, ¬ x.place.cylinder = (s.drive v).cylinder)
    ∨ ∃ x ∈ s.served v, ¬ x.place.cylinder = (s.drive v).cylinder ∧ s.overdue x = true := by
  simp [State.armPicks, Cand.on]

/-- A pick that serves and has no RECAL job acts on the best of the candidates that compete. -/
theorem State.pick_best (serves : s.served v ≠ []) (jobs : ∀ x ∈ s.served v, x.kind ≠ .recal) :
    ∃ x ∈ s.served v, (s.armPicks v = true ∨ x.place.cylinder = (s.drive v).cylinder)
      ∧ (∀ y ∈ s.served v, s.armPicks v = true ∨ y.place.cylinder = (s.drive v).cylinder →
          (s.rank v (!s.armPicks v) target x).keys ≤ (s.rank v (!s.armPicks v) target y).keys)
      ∧ s.pick v target = if x.on (s.drive v) then
          .file x (s.cost v x) (s.candClass x (!s.armPicks v) == 2) (s.armPicks v) else .move x := by
  have list : (s.served v).isEmpty = false := by simpa using serves
  have recal : (s.served v).any (fun x => x.kind == .recal) = false := by simpa using jobs
  have competitors (y : Cand) : y ∈ (if s.armPicks v = true then s.served v else (s.served v).filter fun x => x.on (s.drive v))
      ↔ y ∈ s.served v ∧ (s.armPicks v = true ∨ y.place.cylinder = (s.drive v).cylinder) := by
    split
    · next h => simp [h]
    · next h => simp [h, Cand.on]
  obtain ⟨y0, hy0⟩ : ∃ y, y ∈ (if s.armPicks v = true then s.served v else (s.served v).filter fun x => x.on (s.drive v)) := by
    by_cases arm : s.armPicks v = true
    · rw [if_pos arm]
      exact List.exists_mem_of_ne_nil _ serves
    · obtain ⟨here, _⟩ : (∃ x ∈ s.served v, x.on (s.drive v) = true) ∧ _ := by simpa [State.armPicks] using arm
      obtain ⟨y, hy, hon⟩ := here
      exact ⟨y, (competitors y).mpr ⟨hy, .inr (Cand.on_iff.mp hon)⟩⟩
  obtain ⟨b, hb⟩ := bestOf_some (List.ne_nil_of_mem (List.mem_map_of_mem (f := s.rank v (!s.armPicks v) target) hy0))
  obtain ⟨x, hx, rfl⟩ := List.mem_map.mp (bestOf_mem hb)
  obtain ⟨served, competes⟩ := (competitors x).mp hx
  refine ⟨x, served, competes, fun y hy hc => ?_, ?_⟩
  · exact bestOf_le hb _ (List.mem_map_of_mem ((competitors y).mpr ⟨hy, hc⟩))
  · have unfolded : s.pick v target = if (s.served v).isEmpty then .nothing
        else if (s.served v).any fun x => x.kind == .recal then .recal
        else match bestOf ((if s.armPicks v = true then s.served v
            else (s.served v).filter fun x => x.on (s.drive v)).map (s.rank v (!s.armPicks v) target)) with
          | none => .nothing
          | some b => if b.cand.on (s.drive v) then .file b.cand b.cost (b.cls == 2) (s.armPicks v) else .move b.cand := rfl
    rw [unfolded, list, recal, hb]
    rfl

/-- The class of a candidate at a pick (R98). -/
theorem State.candClass_eq (s : State) (x : Cand) (arm : Bool) : s.candClass x (!arm)
    = if x.kind = .recal then 1 else if s.overdue x = true then 2
      else if x.place.slot = none ∧ ¬ arm = true then 3 else if x.rush = true then 4 else 5 := by
  cases arm <;> simp [State.candClass]

theorem State.candClass_overdue {x : Cand} (h : x.kind ≠ .recal) (arm : Bool) :
    (s.candClass x (!arm) == 2) = s.overdue x := by
  rw [State.candClass_eq, if_neg h]
  cases s.overdue x
  · rw [if_neg Bool.false_ne_true]
    split
    · rfl
    · split
      · rfl
      · rfl
  · rfl

end Pick

/-! #### A release round -/

section Round
variable {s : State} {p : PortNo} {v : DriveNo}

/-- A channel whose release round is open. -/
def Channel.InRound (h : Channel) : Prop := h.state = .idle ∧ h.work = none ∧ h.roundOpen = true

theorem Channel.Quieter.inRound {h h' : Channel} (a : h.Quieter h') (hr : h.InRound) : h'.InRound := by
  rw [a.rest]
  exact hr

theorem Channel.setPend_inRound {h : Channel} (hr : h.InRound) (v : DriveNo) (r : Option Request) : (h.setPend v r).InRound := by
  unfold Channel.setPend
  split
  · exact hr
  · exact hr

/-- A request that is filed while the round is open waits as its drive's answer (R41). -/
theorem Ctx.fileRequest_inRound {c : Ctx} {r : Request} (h : (c.chan (portOf r.drive)).InRound) (q : PortNo) :
    (c.fileRequest r).chan q = if q = portOf r.drive then (c.chan q).setPend r.drive (some r) else c.chan q := by
  obtain ⟨_, _, opened⟩ := h
  have waits : ¬ ((c.chan (portOf r.drive)).state = .idle ∧ (!(c.chan (portOf r.drive)).roundOpen) = true) := by simp [opened]
  unfold Ctx.fileRequest
  dsimp only
  rw [if_neg waits, Ctx.modChan, Ctx.setChan_chan]
  split
  · next h => subst h; rfl
  · rfl

/-- The answers of the drives leave the round open (R41). -/
theorem Picked.inRound {c c' : Ctx} (h : Picked [] c c') (hr : (c.chan p).InRound) : (c'.chan p).InRound := by
  induction h with
  | refl => exact hr
  | lists _ _ _ ih => exact ih
  | quiet w _ ih => exact ih
  | recal w _ _ _ ih => exact ((Ctx.recalPick_atPick _ w).channels p).inRound ih
  | move w x _ _ _ _ ih => exact ((Ctx.movePick_atPick _ w x).channels p).inRound ih
  | @file c1 w x a r _ _ _ _ ih =>
    have filed := ((Ctx.filePick_atPick c1 w x a).channels p).inRound ih
    by_cases hp : p = portOf r.drive
    · subst hp
      rw [Ctx.fileRequest_inRound filed, if_pos rfl]
      exact Channel.setPend_inRound filed _ _
    · have other : ((c1.filePick w x a).fileRequest r).chan p = (c1.filePick w x a).chan p := by
        unfold Ctx.fileRequest
        dsimp only
        split
        · rw [Ctx.grant_chan_ne _ _ hp]
          rfl
        · rw [Ctx.modChan, Ctx.setChan_chan, if_neg hp]
          rfl
      rw [other]
      exact filed
  | close q _ hq ih => cases hq
  | grant q r _ hq _ ih => cases hq

theorem Ctx.toIdle_opens (h : (s.chan p).acrossRestart = false) : (Ctx.of s).toIdle p
    = { (Ctx.of s).setChan p ((s.chan p).idled true) with rounds := [p] } := by
  have across : ((Ctx.of s).chan p).acrossRestart = false := h
  unfold Ctx.toIdle
  dsimp only
  rw [across]
  rfl

theorem Ctx.toIdle_open_chan (h : (s.chan p).acrossRestart = false) :
    ((Ctx.of s).toIdle p).chan p = (s.chan p).idled true := by
  rw [Ctx.toIdle_opens h]
  exact Ctx.setChan_chan_self _ p _

/-- What a release round grants (R42). -/
def Ctx.Granted (c : Ctx) (p : PortNo) (a : Request) : Prop :=
  (c.chan p).work = some a ∧ (c.chan p).state = .selecting ∧ (c.chan p).burst = 1 ∧ (c.drive a.drive).sched.state = .served

theorem Ctx.closeRound_granted (c : Ctx) (p : PortNo) (a : Request) : let t := (c.closeRound p).grant p a
    t.Granted p a ∧ (t.chan p).roundOpen = false ∧ (t.chan p).pendLow = none ∧ (t.chan p).pendHigh = none := by
  obtain ⟨work, selecting, _, low, high, _⟩ := (c.closeRound p).grant_chan p a
  have closed := (c.closeRound_chan p p).trans (if_pos rfl)
  have set : ((c.closeRound p).grant p a).chan p = _ := Ctx.setChan_chan_self (c.closeRound p) p _
  have burst : (((c.closeRound p).grant p a).chan p).burst = 1 := congrArg Channel.burst set
  have opened : (((c.closeRound p).grant p a).chan p).roundOpen = ((c.closeRound p).chan p).roundOpen :=
    (congrArg Channel.roundOpen set).trans rfl
  refine ⟨⟨work, selecting, burst, ?_⟩, opened.trans (by rw [closed]), low.trans (by rw [closed]), high.trans (by rw [closed])⟩
  rw [Ctx.grant_drive, if_pos rfl]

/-- The better of two answers, case by case (R42). -/
theorem betterAnswer_cases (g : Word) (a b : Request) :
    let x := (a.start - g).toInt
    let y := (b.start - g).toInt
    let w := betterAnswer g a b
    (x < y → w = a) ∧ (y < x → w = b)
    ∧ (x = y → a.overdue = true → b.overdue = false → w = a)
    ∧ (x = y → a.overdue = false → b.overdue = true → w = b)
    ∧ (x = y → a.overdue = b.overdue → a.rush = true → b.rush = false → w = a)
    ∧ (x = y → a.overdue = b.overdue → a.rush = false → b.rush = true → w = b)
    ∧ (x = y → a.overdue = b.overdue → a.rush = b.rush → (a.drive ≤ b.drive → w = a) ∧ (b.drive < a.drive → w = b)) := by
  unfold betterAnswer
  dsimp only
  generalize (a.start - g).toInt = x
  generalize (b.start - g).toInt = y
  refine ⟨fun h => if_pos h, fun h => ?_, ?_, ?_, ?_, ?_, ?_⟩
  · rw [if_neg (Int.not_lt.mpr h.le), if_pos h]
  all_goals
    intro same
    subst same
    simp only [lt_irrefl, if_false]
  · intro ha hb
    simp [ha, hb]
  · intro ha hb
    simp [ha, hb]
  · intro overdue ha hb
    simp [overdue, ha, hb]
  · intro overdue ha hb
    simp [overdue, ha, hb]
  · intro overdue rush
    simp only [overdue, rush, Bool.and_not_self, Bool.false_eq_true, if_false]
    exact ⟨fun h => if_pos h, fun h => if_neg (not_le.mpr h)⟩

/-- A release round closes on what the drives answered, and grants the better answer (R41, R42). -/
theorem Ctx.releaseRound_grants {u c : Ctx} (hc : (u.answerRound (lowDrive p)).answerRound (highDrive p) = c)
    (round : (c.chan p).InRound) :
    let t := u.releaseRound p
    (t.chan p).roundOpen = false ∧ (t.chan p).pendLow = none ∧ (t.chan p).pendHigh = none
    ∧ ((c.chan p).pendLow = none → (c.chan p).pendHigh = none → (t.chan p).state = .idle ∧ (t.chan p).work = none)
    ∧ (∀ a, (c.chan p).pendLow = some a → (c.chan p).pendHigh = none → t.Granted p a)
    ∧ (∀ b, (c.chan p).pendLow = none → (c.chan p).pendHigh = some b → t.Granted p b)
    ∧ ∀ a b, (c.chan p).pendLow = some a → (c.chan p).pendHigh = some b → t.Granted p (betterAnswer c.g a b) := by
  obtain ⟨idle, work, _⟩ := round
  have closes : u.releaseRound p = match (c.chan p).pendLow, (c.chan p).pendHigh with
      | none, none => c.closeRound p
      | some a, none => (c.closeRound p).grant p a
      | none, some b => (c.closeRound p).grant p b
      | some a, some b => (c.closeRound p).grant p (betterAnswer c.g a b) := by
    rw [← hc]
    rfl
  dsimp only
  rw [closes]
  cases low : (c.chan p).pendLow <;> cases high : (c.chan p).pendHigh <;> dsimp only
  · rw [(c.closeRound_chan p p).trans (if_pos rfl)]
    exact ⟨rfl, rfl, rfl, fun _ _ => ⟨idle, work⟩, fun _ h => (nomatch h), fun _ _ h => (nomatch h), fun _ _ h => (nomatch h)⟩
  · next b =>
    obtain ⟨granted, closed⟩ := c.closeRound_granted p b
    exact ⟨closed.1, closed.2.1, closed.2.2, fun _ h => (nomatch h), fun _ h => (nomatch h),
      fun _ _ h => by cases h; exact granted, fun _ _ h => (nomatch h)⟩
  · next a =>
    obtain ⟨granted, closed⟩ := c.closeRound_granted p a
    exact ⟨closed.1, closed.2.1, closed.2.2, fun h => (nomatch h), fun _ h _ => by cases h; exact granted,
      fun _ h => (nomatch h), fun _ _ _ h => (nomatch h)⟩
  · next a b =>
    obtain ⟨granted, closed⟩ := c.closeRound_granted p (betterAnswer c.g a b)
    exact ⟨closed.1, closed.2.1, closed.2.2, fun h => (nomatch h), fun _ _ h => (nomatch h), fun _ h => (nomatch h),
      fun _ _ ha hb => by cases ha; cases hb; exact granted⟩

end Round

/-! #### A drive's answer -/

section Answer
variable {s : State} {p : PortNo} {v : DriveNo}

/-- A drive whose arm moves, or that a restart holds, answers NONE: it makes no pick (R41, R106). -/
theorem Ctx.answerRound_none {c : Ctx} (h : (c.drive v).sched.state = .moving ∨ (c.drive v).sched.state = .recalibrating
    ∨ (c.drive v).sched.hold = true) : c.answerRound v = c := by
  unfold Ctx.answerRound
  dsimp only
  split
  · rfl
  · rfl
  all_goals
    next state =>
    rw [state] at h
    have hold : (c.drive v).sched.hold = true := by simpa using h
    rw [if_pos hold]

theorem Ctx.answerRound_picks {c : Ctx} (h : ¬ ((c.drive v).sched.state = .moving ∨ (c.drive v).sched.state = .recalibrating
    ∨ (c.drive v).sched.hold = true)) : c.answerRound v = c.pickNow v none := by
  obtain ⟨moving, recalibrating, hold⟩ : (c.drive v).sched.state ≠ .moving ∧ (c.drive v).sched.state ≠ .recalibrating
      ∧ ¬ (c.drive v).sched.hold = true := by simpa using h
  unfold Ctx.answerRound
  dsimp only
  split
  · next state => exact absurd state moving
  · next state => exact absurd state recalibrating
  all_goals exact if_neg hold

theorem Channel.idled_pend (h : Channel) (b : Bool) (v : DriveNo) : (h.idled b).pend v = none := by
  unfold Channel.pend
  split <;> rfl

theorem Channel.setPend_pend (h : Channel) (v : DriveNo) (r : Option Request) : (h.setPend v r).pend v = r := by
  unfold Channel.setPend Channel.pend
  by_cases low : isLow v = true
  · rw [if_pos low, if_pos low]
  · rw [if_neg low, if_neg low]

/-- What a drive answers in the round that opens as its channel becomes IDLE (R41). -/
theorem Ctx.toIdle_answer (across : (s.chan p).acrossRestart = false) (hp : portOf v = p) :
    let u := (Ctx.of s).toIdle p
    ((s.drive v).sched.state = .moving ∨ (s.drive v).sched.state = .recalibrating ∨ (s.drive v).sched.hold = true →
      ((u.answerRound v).chan p).pend v = none)
    ∧ (s.served v = [] → ((u.answerRound v).chan p).pend v = none)
    ∧ ∀ y cost overdue b, ¬ ((s.drive v).sched.state = .moving ∨ (s.drive v).sched.state = .recalibrating
          ∨ (s.drive v).sched.hold = true) → s.pick v none = .file y cost overdue b →
        ((u.answerRound v).chan p).pend v = some (s.requestFor v y cost overdue) := by
  have opened := Ctx.toIdle_open_chan across
  have drive : ((Ctx.of s).toIdle p).drive v = s.drive v := by rw [Ctx.toIdle_opens across]; rfl
  have served : ((Ctx.of s).toIdle p).served v = s.served v := by rw [Ctx.toIdle_opens across]; rfl
  have pick : ((Ctx.of s).toIdle p).pick v none = s.pick v none := by rw [Ctx.toIdle_opens across]; rfl
  have request y cost overdue b : ((Ctx.of s).toIdle p).picked v y cost overdue b = s.requestFor v y cost overdue := by
    rw [Ctx.toIdle_opens across, Ctx.picked, State.requestFor]
    simp [Ctx.leaveQuiet, Ctx.modSched, Ctx.modDrive]
    rfl
  have noPend : (((Ctx.of s).toIdle p).chan p).pend v = none := by rw [opened]; exact Channel.idled_pend _ _ v
  have round : (((Ctx.of s).toIdle p).chan p).InRound := by rw [opened]; exact ⟨rfl, rfl, rfl⟩
  dsimp only
  generalize (Ctx.of s).toIdle p = u at drive served pick request noPend round
  rw [← drive]
  refine ⟨fun h => ?_, fun h => ?_, fun y cost overdue b h hy => ?_⟩
  · rw [Ctx.answerRound_none h]
    exact noPend
  · by_cases answers : (u.drive v).sched.state = .moving ∨ (u.drive v).sched.state = .recalibrating
        ∨ (u.drive v).sched.hold = true
    · rw [Ctx.answerRound_none answers]
      exact noPend
    · rw [Ctx.answerRound_picks answers, Ctx.pickNow_nothing (served.trans h)]
      exact noPend
  · subst hp
    have filed := ((Ctx.filePick_atPick u v y b).channels (portOf v)).inRound round
    have waits := Ctx.fileRequest_inRound (r := s.requestFor v y cost overdue) filed (portOf v)
    rw [Ctx.answerRound_picks h, Ctx.pickNow_file (pick.trans hy), request, waits]
    exact (congrArg (Channel.pend · v) (if_pos rfl)).trans (Channel.setPend_pend _ v _)

/-- A drive that is ABSENT, EMPTY or in FAULT serves nothing (R95). -/
theorem Drive.down_of {d : Drive} (h : d.state = .absent ∨ d.state = .empty ∨ d.state = .fault) : d.down := by
  intro k
  obtain h | h | h := h <;> rw [h] <;> rfl

end Answer

/-! #### The burst -/

section Burst
variable {s : State} {p : PortNo} {r : Request} {y : Cand} {l : Layout} {cost : Nat} {overdue b : Bool}

theorem Layout.slotStart_eq (l : Layout) (k : Nat) : l.slotStart k = (l.g0 + k * (37 + l.size + l.g3)) * l.bt := rfl

/-- The conditions under which a burst takes the next slot (R43). -/
def State.burstsOn (s : State) (p : PortNo) (r : Request) (y : Cand) (l : Layout) : Prop :=
  y.place = ⟨r.cylinder, r.head, some (r.slot + 1)⟩ ∧ r.slot + 1 < l.spt ∧ (s.chan p).burst < 8
    ∧ (s.drive r.drive).timer.phi + 100 ≤ l.slotStart (r.slot + 1)

/-- The burst goes on in the next slot (R43, log 30). -/
theorem Ctx.burstQuery_on (hy : s.pick r.drive none = .file y cost overdue b) (hl : (s.drive r.drive).timer.active = some l)
    (hb : s.burstsOn p r y l) :
    let due := later s.g (l.slotStart (r.slot + 1) - 100 - (s.drive r.drive).timer.phi)
    ∃ settings, ((Ctx.of s).burstQuery p r).chan p = { s.chan p with
      state := .selecting, work := some { s.requestFor r.drive y cost overdue with start := due }
      burst := (s.chan p).burst + 1, settings := settings, arming := due, staging := [], found := none, field := none } := by
  have pick : (Ctx.of s).pick r.drive none = .file y cost overdue b := hy
  have active : ((Ctx.of s).drive r.drive).timer.active = some l := hl
  unfold Ctx.burstQuery
  dsimp only
  rw [pick, active]
  dsimp only
  split
  · exact ⟨_, Ctx.setChan_chan_self _ p _⟩
  · next h => exact absurd hb h

/-- Otherwise the channel returns to IDLE (R43). -/
theorem Ctx.burstQuery_off (h : ∀ y cost overdue b l, s.pick r.drive none = .file y cost overdue b →
    (s.drive r.drive).timer.active = some l → ¬ s.burstsOn p r y l) : (Ctx.of s).burstQuery p r = (Ctx.of s).toIdle p := by
  unfold Ctx.burstQuery
  dsimp only
  split
  · next y cost overdue b l pick active => exact if_neg (h y cost overdue b l pick active)
  · rfl

end Burst

/-- Settles O53: a pick acts on the first of the ranking, whose key order is read off; the drives' answers leave the round open
until it closes with the better one; and the burst query is one case split. -/
theorem picksRoundsAndBursts : Obligations.PicksRoundsAndBursts := by
  refine ⟨fun s v target => ?_, fun s p across => ?_, fun s p r => ⟨?_, fun y l on => ?_, fun off => ?_⟩⟩
  · refine ⟨State.pick_nothing, fun ⟨x, hx, hk⟩ => ?_, fun serves jobs => ?_⟩
    · have list : ¬ (s.served v).isEmpty = true := by simpa using List.ne_nil_of_mem hx
      have recal : (s.served v).any (fun x => x.kind == .recal) = true := List.any_eq_true.mpr ⟨x, hx, beq_iff_eq.mpr hk⟩
      rw [State.pick]
      dsimp only
      rw [if_neg list, if_pos recal]
    · obtain ⟨x, served, competes, first, pick⟩ := s.pick_best (target := target) serves jobs
      have arm := s.armPicks_iff (v := v)
      refine ⟨x, ⟨⟨served, competes.imp_left arm.mp⟩, fun y m n hy hm hn => ?_⟩, fun hon => ?_, fun hoff => ?_⟩
      · have cls (z : Cand) : (s.rank v (!s.armPicks v) target z).cls = if z.kind = .recal then 1 else if s.overdue z = true then 2
            else if z.place.slot = none ∧ ¬ s.armPicks v = true then 3 else if z.rush = true then 4 else 5 :=
          s.candClass_eq z (s.armPicks v)
        have hm' : (s.rank v (!s.armPicks v) target x).cls = m := by rw [cls, hm]; simp only [arm]
        have hn' : (s.rank v (!s.armPicks v) target y).cls = n := by rw [cls, hn]; simp only [arm]
        have le := Ranked.keys_le (s.candAge_le x) (s.candAge_le y) (first y hy.1 (hy.2.imp_left arm.mpr))
        rw [hm', hn'] at le
        have isTarget (z : Cand) : (s.rank v (!s.armPicks v) target z).isTarget = true ↔ target = some z.place := by
          rw [State.rank]
          exact beq_iff_eq
        obtain less | ⟨same, targets⟩ := le
        · exact ⟨less.le, fun h => absurd h (Nat.ne_of_lt less)⟩
        refine ⟨same.le, fun _ => ⟨fun hty => ?_, fun both => ?_⟩⟩
        · obtain ⟨tx, _⟩ | ⟨eq, _⟩ := targets
          · exact (isTarget x).mp tx
          · exact (isTarget x).mp (eq.trans ((isTarget y).mpr hty))
        · obtain ⟨tx, ty⟩ | ⟨_, two, other⟩ := targets
          · have := (isTarget y).mpr (both.mp ((isTarget x).mp tx))
            rw [ty] at this
            cases this
          · exact ⟨two, other⟩
      · refine ⟨s.armPicks v, arm, ?_⟩
        rw [pick, if_pos (Cand.on_iff.mpr hon), State.candClass_overdue (jobs x served)]
      · rw [pick, if_neg fun h => hoff (Cand.on_iff.mp h)]
  · have opened := Ctx.toIdle_open_chan across
    have g : ((Ctx.of s).toIdle p).g = s.g := by rw [Ctx.toIdle_opens across]; rfl
    have answer (v : DriveNo) (hp : portOf v = p) := Ctx.toIdle_answer (v := v) across hp
    have answers := ((Picked.refl (ps := []) (c := (Ctx.of s).toIdle p)).answerRound (lowDrive p)).answerRound (highDrive p)
    have round := answers.inRound (p := p) (by rw [opened]; exact ⟨rfl, rfl, rfl⟩)
    have g2 := (State.view_g answers.view).trans g
    obtain ⟨closed, low, high, none, onlyLow, onlyHigh, both⟩ := Ctx.releaseRound_grants rfl round
    dsimp only
    refine ⟨?_, ?_, ?_, ?_, ?_, closed, low, high, none, onlyLow, onlyHigh, fun a b ha hb => ?_, fun v hp => ?_⟩
    · rw [opened]; rfl
    · rw [opened]; rfl
    · rw [opened]; rfl
    · rw [opened]; rfl
    · rw [opened]; rfl
    · have granted := both a b ha hb
      rw [g2] at granted
      obtain ⟨c1, c2, c3, c4, c5, c6, c7⟩ := betterAnswer_cases s.g a b
      have at1 {w : Request} (h : betterAnswer s.g a b = w) := h ▸ granted
      exact ⟨fun h => at1 (c1 h), fun h => at1 (c2 h), fun h1 h2 h3 => at1 (c3 h1 h2 h3), fun h1 h2 h3 => at1 (c4 h1 h2 h3),
        fun h1 h2 h3 h4 => at1 (c5 h1 h2 h3 h4), fun h1 h2 h3 h4 => at1 (c6 h1 h2 h3 h4),
        fun h1 h2 h3 => ⟨fun h => at1 ((c7 h1 h2 h3).1 h), fun h => at1 ((c7 h1 h2 h3).2 h)⟩⟩
    · obtain ⟨none, idle, files⟩ := answer v hp
      refine ⟨fun h => ?_, fun y cost overdue b h pick => ⟨_, files y cost overdue b h pick, rfl, rfl, rfl, rfl, rfl, rfl, rfl, rfl⟩⟩
      obtain h | h := h
      · exact none h
      · exact idle (State.served_down (Drive.down_of h))
  · intro outcome
    cases outcome <;> simp [Outcome.keepsBurst]
  · obtain ⟨⟨cost, overdue, b, pick⟩, active, place, inTrack, burst, time⟩ := on
    obtain ⟨settings, chan⟩ := Ctx.burstQuery_on (p := p) pick active ⟨place, inTrack, burst, time⟩
    rw [chan]
    exact ⟨rfl, rfl, rfl, rfl, rfl, _, rfl, rfl, rfl, congrArg Place.cylinder place, congrArg Place.head place,
      congrArg (fun x : Place => x.slot.getD 0) place, rfl⟩
  · refine Ctx.burstQuery_off fun y cost overdue b l pick active hb => ?_
    obtain ⟨place, inTrack, burst, time⟩ := hb
    exact off y l ⟨⟨cost, overdue, b, pick⟩, active, place, inTrack, burst, time⟩

end Sys2Proof.Machine

-- ==== Sys2Proof/Proofs/Attempts.lean ====
namespace Sys2Proof.Machine

open Sys2Proof

/-! ### The end of an attempt where nothing waits (R50, R53, R70, R73, R74) -/

/-! #### Counts -/

/-- A counter after one more event (R175). -/
def nextCount (n : Half) : Half := if n = 0xFFFF then n else n + 1

theorem Health.count_counters (h : Health) (k : Counter) (i : Fin 8) :
    (h.count k).counters[i.val] = if k.index = i then nextCount h.counters[i.val] else h.counters[i.val] := by
  split
  · next eq =>
    subst eq
    refine Health.count_counter.trans ?_
    unfold nextCount
    split
    · next full => exact full.symm
    · rfl
  · next ne => exact Health.count_other (Ne.symm ne)

/-- A counter after a list of events. -/
theorem Health.counts_counters (l : List Counter) (i : Fin 8) : ∀ h : Health,
    (l.foldl Health.count h).counters[i.val] = nextCount^[l.countP fun k => k.index = i] h.counters[i.val] := by
  induction l with
  | nil => exact fun _ => rfl
  | cons k l ih =>
    intro h
    rw [List.foldl_cons, ih, Health.count_counters, List.countP_cons]
    by_cases hk : k.index = i
    · rw [if_pos hk, if_pos (decide_eq_true hk), Function.iterate_add_apply]
      rfl
    · rw [if_neg hk, if_neg (by simpa using hk)]
      rfl

section Counting
variable {c c' : Ctx} {p : PortNo} {r : Request} {x : Outcome} {v : DriveNo}

/-- The events of an attempt's end are counted in its drive's record, and nothing else changes (R53). -/
theorem Ctx.countOutcome_parts (c : Ctx) (r : Request) (x : Outcome) :
    c.countOutcome r x = { c with drives := (c.countOutcome r x).drives }
    ∧ (c.countOutcome r x).drive r.drive = { c.drive r.drive with
        health := (c.outcomeCounters r x).foldl Health.count (c.drive r.drive).health } := by
  have walk : ∀ (l : List Counter) (c : Ctx), let c' := l.foldl (fun c k => c.count r.drive k) c
      c' = { c with drives := c'.drives }
      ∧ c'.drive r.drive = { c.drive r.drive with health := l.foldl Health.count (c.drive r.drive).health } := by
    intro l
    induction l with
    | nil => exact fun c => ⟨rfl, rfl⟩
    | cons k l ih =>
      intro c
      obtain ⟨rest, drive⟩ := ih (c.count r.drive k)
      have one : (c.count r.drive k).drive r.drive
          = { c.drive r.drive with health := (c.drive r.drive).health.count k } := Ctx.setDrive_drive_self ..
      rw [one] at drive
      exact ⟨rest, drive⟩
  exact walk _ c

theorem Ctx.recalRequest_table (c : Ctx) (v : DriveNo) : (c.recalRequest v).table = c.table := by
  unfold Ctx.recalRequest Ctx.postJob
  dsimp only
  repeat' split
  case h_2 => exact Ctx.slotTaken_table c v _
  all_goals rfl

/-- The end of an attempt before the store is told: the gate is closed, the events are counted, and a recalibration may be
owed (R50, R52, R53). -/
def Ctx.attemptCounted (c : Ctx) (p : PortNo) (r : Request) (x : Outcome) : Ctx :=
  ((c.modChan p fun h => h.closeGate c.g).countOutcome r x).oweRecal p r x

theorem Ctx.attemptCounted_rest (c : Ctx) (p : PortNo) (r : Request) (x : Outcome) :
    ∃ channels drives picks, c.attemptCounted p r x = { c with channels := channels, drives := drives, picks := picks } := by
  obtain ⟨rest, _⟩ := (c.modChan p fun h => h.closeGate c.g).countOutcome_parts r x
  unfold Ctx.attemptCounted Ctx.oweRecal
  generalize (c.modChan p fun h => h.closeGate c.g).countOutcome r x = c1 at rest
  split
  · have jobs := (c1.modChan p fun h => h.setOwed r.drive true).recalRequest_jobs r.drive
    have table := (c1.modChan p fun h => h.setOwed r.drive true).recalRequest_table r.drive
    rw [jobs.rest, table, rest]
    exact ⟨_, _, _, rfl⟩
  · rw [rest]
    exact ⟨_, _, c.picks, rfl⟩

@[simp] theorem Ctx.attemptCounted_view (c : Ctx) (p : PortNo) (r : Request) (x : Outcome) :
    (c.attemptCounted p r x).view = c.view := by
  unfold Ctx.attemptCounted Ctx.oweRecal
  split
  · simp
  · simp

theorem Ctx.attemptCounted_counters (c : Ctx) (p : PortNo) (r : Request) (x : Outcome) (i : Fin 8) :
    ((c.attemptCounted p r x).drive r.drive).health.counters[i.val]
      = nextCount^[(c.outcomeCounters r x).countP fun k => k.index = i] (c.drive r.drive).health.counters[i.val] := by
  obtain ⟨_, drive⟩ := (c.modChan p fun h => h.closeGate c.g).countOutcome_parts r x
  have counted := Health.counts_counters (c.outcomeCounters r x) i (c.drive r.drive).health
  have counters : ((c.attemptCounted p r x).drive r.drive).health.counters
      = (((c.modChan p fun h => h.closeGate c.g).countOutcome r x).drive r.drive).health.counters := by
    unfold Ctx.attemptCounted Ctx.oweRecal
    split
    · exact (Ctx.recalRequest_jobs _ r.drive).counters
    · rfl
  rw [counters, drive]
  exact counted

theorem Channel.closeGate_staging (h : Channel) (g : Word) : (h.closeGate g).staging = h.staging := by
  unfold Channel.closeGate
  split <;> rfl

theorem Ctx.attemptCounted_staging (c : Ctx) (p : PortNo) (r : Request) (x : Outcome) :
    ((c.attemptCounted p r x).chan p).staging = (c.chan p).staging := by
  obtain ⟨rest, _⟩ := (c.modChan p fun h => h.closeGate c.g).countOutcome_parts r x
  have closed : (((c.modChan p fun h => h.closeGate c.g).countOutcome r x).chan p).staging = (c.chan p).staging := by
    rw [rest]
    exact (congrArg Channel.staging (c.setChan_chan_self p _)).trans ((c.chan p).closeGate_staging c.g)
  unfold Ctx.attemptCounted Ctx.oweRecal
  split
  · rw [State.chan_of_channels (Ctx.recalRequest_jobs _ r.drive).channels, Ctx.modChan, Ctx.setChan_chan_self]
    unfold Channel.setOwed
    split <;> exact closed
  · exact closed

/-- Of a drive's counters the picks move that of the recalibrations alone. -/
def Drive.SameCounts (d d' : Drive) : Prop := ∀ i : Fin 8, i ≠ 7 → d'.health.counters[i.val] = d.health.counters[i.val]

theorem Drive.SameCounts.of_eq {d d' : Drive} (h : d'.health.counters = d.health.counters) : d.SameCounts d' :=
  fun _ _ => by rw [h]

theorem Drive.SameCounts.trans {d d' d'' : Drive} (h : d.SameCounts d') (h' : d'.SameCounts d'') : d.SameCounts d'' :=
  fun i hi => (h' i hi).trans (h i hi)

theorem Ctx.recalJobDone_counters (c : Ctx) (v : DriveNo) :
    ((c.recalJobDone v).drive v).health.counters = (c.drive v).health.counters := by
  have ended := ((c.modChan (portOf v) fun h => h.setOwed v false).jobEnded_jobs v).counters
  have sched (c : Ctx) : ((c.modSched v fun x => { x with state := .quiet }).drive v).health.counters
      = (c.drive v).health.counters := (Ctx.modSched_jobs c v _).counters
  unfold Ctx.recalJobDone
  split
  · split
    · dsimp only
      split
      · split
        · exact (sched _).trans ended
        · rw [Ctx.flagPick_drive]
          exact (sched _).trans ended
      · exact ended
    · rfl
  · rfl

theorem Ctx.startRecal_counts (c : Ctx) (v : DriveNo) (n : Nat) : (c.drive v).SameCounts ((c.startRecal v (some n)).drive v) := by
  unfold Ctx.startRecal
  dsimp only
  split
  · have counted : (c.drive v).SameCounts
        (((c.count v .recal).modDrive v fun d => { d with cylinder := 0, arm := .free }).drive v) := by
      intro i hi
      rw [Ctx.modDrive, Ctx.setDrive_drive_self, Ctx.count, Ctx.modDrive, Ctx.setDrive_drive_self]
      exact Health.count_other hi
    unfold Ctx.recalSucceeded
    dsimp only
    split
    · exact counted.trans (.of_eq (Ctx.recalJobDone_counters _ v))
    · refine counted.trans (.of_eq ?_)
      rw [Ctx.startSeek_drive]
  · refine .of_eq ?_
    rw [Ctx.setDrive_drive_self]

theorem Ctx.recalPick_counts (c : Ctx) (v : DriveNo) : (c.drive v).SameCounts ((c.recalPick v).drive v) :=
  (Drive.SameCounts.of_eq ((c.withdraw v).modSched_jobs v _).counters).trans (Ctx.startRecal_counts _ v _)

theorem Picked.sameCounts {ps : List PortNo} (h : Picked ps c c') (v : DriveNo) : (c.drive v).SameCounts (c'.drive v) := by
  have step {c1 c2 : Ctx} {w : DriveNo} (a : c1.AtPick w c2) (ih : (c.drive v).SameCounts (c1.drive v))
      (here : w = v → (c1.drive v).SameCounts (c2.drive v)) : (c.drive v).SameCounts (c2.drive v) := by
    by_cases hw : v = w
    · exact ih.trans (here hw.symm)
    · rw [a.others v hw]
      exact ih
  have granted {c1 : Ctx} (p : PortNo) (r : Request) (ih : (c.drive v).SameCounts (c1.drive v)) :
      (c.drive v).SameCounts ((c1.grant p r).drive v) := by
    rw [Ctx.grant_drive]
    split
    · exact ih
    · exact ih
  induction h with
  | refl => exact .of_eq rfl
  | lists _ _ _ ih => exact ih
  | quiet w _ ih =>
    refine step (Ctx.modSched_jobs _ w _).atPick ih ?_
    rintro rfl
    exact .of_eq (Ctx.modSched_jobs _ w _).counters
  | recal w _ _ _ ih =>
    refine step (Ctx.recalPick_atPick _ w) ih ?_
    rintro rfl
    exact Ctx.recalPick_counts _ w
  | move w x _ _ _ _ ih =>
    refine step (Ctx.movePick_atPick _ w x) ih ?_
    rintro rfl
    rw [Ctx.movePick_drive]
    exact .of_eq rfl
  | file w x a r _ _ _ _ ih =>
    have filed := step (Ctx.filePick_atPick _ w x a) ih (by
      rintro rfl
      rw [Ctx.filePick_drive]
      exact .of_eq rfl)
    have asked := step (Ctx.modSched_jobs _ r.drive fun x => { x with state := .filed }).atPick filed (by
      rintro rfl
      exact .of_eq (Ctx.modSched_jobs _ r.drive _).counters)
    unfold Ctx.fileRequest
    dsimp only
    split
    · exact granted _ r asked
    · exact asked
  | close p _ _ ih => exact ih
  | grant p r _ _ _ ih => exact granted p r ih

theorem Ctx.finish_sameCounts (c : Ctx) (v : DriveNo) : (c.drive v).SameCounts (c.finish.drive v) :=
  (Drive.SameCounts.of_eq (c.tested_drive v).2.2).trans (c.finish_picked.sameCounts v)

theorem Ctx.toIdle_counts (c : Ctx) (p : PortNo) (v : DriveNo) : (c.drive v).SameCounts ((c.toIdle p).drive v) := by
  have cleared (c : Ctx) (w : DriveNo) : (c.drive v).SameCounts ((c.modSched w fun x => { x with hold := false }).drive v) := by
    rw [Ctx.modSched, Ctx.modDrive, Ctx.setDrive_drive]
    split
    · next h =>
      subst h
      exact .of_eq rfl
    · exact .of_eq rfl
  unfold Ctx.toIdle
  dsimp only
  split
  · exact (cleared _ (lowDrive p)).trans (cleared _ (highDrive p))
  · exact .of_eq rfl

theorem Ctx.burstQuery_counts (c : Ctx) (p : PortNo) (r : Request) (v : DriveNo) :
    (c.drive v).SameCounts ((c.burstQuery p r).drive v) := by
  unfold Ctx.burstQuery
  dsimp only
  split
  · split
    · exact .of_eq rfl
    · exact c.toIdle_counts p v
  · exact c.toIdle_counts p v

end Counting

/-! #### What the end of an attempt leaves of the store -/

section Ends
variable {c : Ctx} {p : PortNo} {r : Request} {x : Outcome}

theorem Ctx.endAttempt_eq (hw : (c.chan p).work = some r) (x : Outcome) : c.endAttempt p x
    = if x.keepsBurst then ((((c.attemptCounted p r x).reportOutcome p r x).cascade.testDone).burstQuery p r)
      else ((c.attemptCounted p r x).reportOutcome p r x).toIdle p := by
  rw [Ctx.endAttempt, hw]
  rfl

/-- Where nothing waits the store is left as the outcome's report makes it, and the counters but for the recalibrations. -/
theorem Ctx.endAttempt_finish (hw : (c.chan p).work = some r)
    (calm : ((c.attemptCounted p r x).reportOutcome p r x).calm)
    (fills : ((c.attemptCounted p r x).reportOutcome p r x).NoneFill) :
    (c.endAttempt p x).finish.store = ((c.attemptCounted p r x).reportOutcome p r x).store
    ∧ ∀ v, (((c.attemptCounted p r x).reportOutcome p r x).drive v).SameCounts ((c.endAttempt p x).finish.drive v) := by
  rw [Ctx.endAttempt_eq hw]
  generalize (c.attemptCounted p r x).reportOutcome p r x = c1 at calm fills
  have none := c1.readyOrder_none fills.2
  split
  · rw [c1.cascade_noQueue none fills.1, Ctx.testDone_id { c1 with serve := false } calm.1 calm.2]
    obtain ⟨⟨channels, drives, rounds, eq⟩, _⟩ := ({ c1 with serve := false } : Ctx).burstQuery_parts p r
    refine ⟨?_, fun v => Drive.SameCounts.trans ?_ (Ctx.finish_sameCounts _ v)⟩
    · rw [eq]
      exact Ctx.finish_store _ calm none fills.1
    · exact ({ c1 with serve := false } : Ctx).burstQuery_counts p r v
  · obtain ⟨channels, drives, rounds, eq⟩ := c1.toIdle_parts p
    refine ⟨?_, fun v => Drive.SameCounts.trans ?_ (Ctx.finish_sameCounts _ v)⟩
    · rw [eq]
      exact Ctx.finish_store _ calm none fills.1
    · exact c1.toIdle_counts p v

end Ends

/-! #### The report of an outcome -/

section Outcomes
variable {c c' : Ctx} {f : FrameNo} {n a : Nat} {x y : Sector} {k : Key} {m : Mem} {o : Outcome}

/-- A frame but for the use count that ended orders drop: the record in slot `n` became `y`, and the area `m`; the other frames
stand, and the orders end at most. -/
structure Ctx.SlotTurns (c : Ctx) (f : FrameNo) (n : Nat) (y : Sector) (m : Mem) (c' : Ctx) : Prop where
  sectors : (c'.frame f).sectors = (c.frame f).sectors.set n y
  area : (c'.frame f).area = m
  key : (c'.frame f).key = (c.frame f).key
  others : ∀ f', f' ≠ f → (c'.frame f').sectors = (c.frame f').sectors ∧ (c'.frame f').area = (c.frame f').area
  fills : c.NoneFill → c'.NoneFill
  view : c'.view = c.view
  channels : c'.channels = c.channels
  counters : ∀ v, (c'.drive v).health.counters = (c.drive v).health.counters
  drives : ∀ v, (c'.drive v) = { c.drive v with health := (c'.drive v).health, recordWrites := (c'.drive v).recordWrites }

/-- A changed frame is put in place. -/
theorem Ctx.putFrame_turns (c : Ctx) {fr : Frame} (sectors : fr.sectors = (c.frame f).sectors.set n y)
    (key : fr.key = (c.frame f).key) : c.SlotTurns f n y fr.area (c.putFrame f fr) := by
  have here : (c.putFrame f fr).frame f = fr := by rw [Ctx.putFrame_frame, if_pos rfl]
  refine ⟨by rw [here, sectors], by rw [here], by rw [here, key], fun f' hf => ?_, fun hn => ⟨?_, fun e o ho => ?_⟩,
    c.putFrame_view f fr, Ctx.putFrame_channels c f fr, fun v => (c.putFrame_reported f fr v).counters,
    fun v => (c.putFrame_reported f fr v).rest⟩
  · rw [Ctx.putFrame_frame, if_neg hf]
    exact ⟨rfl, rfl⟩
  · rw [Ctx.putFrame_fwq]
    exact hn.1
  · rw [State.order?_of_table (Ctx.putFrame_table c f fr) e] at ho
    exact hn.2 e o ho

theorem Ctx.modSector_turns (hx : (c.frame f).sectors[n]? = some x) (h : Sector → Sector) :
    c.SlotTurns f n (h x) (c.frame f).area (c.modSector f n h) := by
  refine c.putFrame_turns (fr := (c.frame f).modSlot n h) ?_ rfl
  rw [Frame.modSlot, List.modify_eq_set_getElem?, hx]
  rfl

/-- Orders that only end change of a frame its use count. -/
theorem Ctx.SlotTurns.steps {N : EntryNo → Prop} {c'' : Ctx} (h : c.SlotTurns f n y m c')
    (steps : Steps N Frame.UsesOnly c' c'') : c.SlotTurns f n y m c'' := by
  have uses (f : FrameNo) : (c''.frame f).sectors = (c'.frame f).sectors ∧ (c''.frame f).area = (c'.frame f).area
      ∧ (c''.frame f).key = (c'.frame f).key :=
    steps.frame_rel (R := fun a b => b.sectors = a.sectors ∧ b.area = a.area ∧ b.key = a.key) (fun _ => ⟨rfl, rfl, rfl⟩)
      (fun _ _ _ h h' => ⟨h'.1.trans h.1, h'.2.1.trans h.2.1, h'.2.2.trans h.2.2⟩)
      (fun a b hab => by rw [hab]; exact ⟨rfl, rfl, rfl⟩) f
  have told (v : DriveNo) := steps.drive v
  exact ⟨(uses f).1.trans h.sectors, (uses f).2.1.trans h.area, (uses f).2.2.trans h.key,
    fun f' hf => ⟨(uses f').1.trans (h.others f' hf).1, (uses f').2.1.trans (h.others f' hf).2⟩,
    fun hn => steps.ends.fills (h.fills hn), steps.view.trans h.view, steps.channels.1.trans h.channels,
    fun v => (told v).counters.trans (h.counters v), fun v => by rw [(told v).rest, h.drives v]⟩

/-- No order waits for a sector where none is in FILL. -/
theorem Ctx.forEntries_noneFill (hn : c.NoneFill) {h : EntryNo → Ctx → Ctx}
    (idle : ∀ e, (∀ o, c.order? e = some o → o.stage ≠ .fill) → h e c = c) : c.forEntries h = c :=
  Ctx.forEntries_keeps (P := fun c' => c' = c) c rfl fun e c' hc => by
    subst hc
    exact idle e (hn.2 e)

theorem Order.waitsOn_false {o : Order} (h : o.stage ≠ .fill) (f : FrameNo) (n : Nat) : ¬ o.waitsOn f n = true :=
  fun hw => h (Order.waitsOn_fill hw)

theorem Ctx.sectorFilled_none (hn : c.NoneFill) (f : FrameNo) (n a : Nat) : c.sectorFilled f n a = c :=
  Ctx.forEntries_noneFill hn fun e he => by
    split
    · rfl
    · next o ho => exact if_neg (Order.waitsOn_false (he o ho) f n)

theorem Ctx.readFailed_none (hn : c.NoneFill) (f : FrameNo) (n a : Nat) (o : Outcome) : c.readFailed f n a o = c :=
  Ctx.forEntries_noneFill hn fun e he => by
    split
    · rfl
    · next o ho => exact if_neg (Order.waitsOn_false (he o ho) f n)

theorem Ctx.sectorBad_none (hn : c.NoneFill) (f : FrameNo) (n a : Nat) : c.sectorBad f n a = c :=
  Ctx.forEntries_noneFill hn fun e he => by
    split
    · rfl
    · next o ho => exact if_neg (Order.waitsOn_false (he o ho) f n)

/-- A sector in READING after a failed read attempt of a number (R70): WANTED again, or BAD after the eighth. -/
def Sector.afterFailedRead (x : Sector) (attempt : Nat) : Sector :=
  if attempt < 8 then { x with state := .wanted, attempts := x.attempts + 1 }
  else { x with state := .bad, attempts := 8, rush := false }

/-- A sector in CHECKING after a failed check attempt of a number (R74): DIRTY again, or STRANDED after the third. -/
def Sector.afterFailedCheck (x : Sector) (attempt : Nat) : Sector :=
  if attempt < 3 then { x with state := .dirty, attempts := x.attempts + 1, verify := true, check := false, redirty := false }
  else { x with
    state := .stranded, attempts := 3, rush := false, verify := true, check := false, redirty := false, cause := .check }

section Found
variable (hx : c.sectorAt k n = some (f, x))
include hx

/-- A good read fills its sector (R70). -/
theorem Ctx.readOutcome_good (hs : x.state = .reading) (hn : c.NoneFill) (b : List Byte) :
    c.SlotTurns f n { x with state := .valid, settledVer := x.dataVer, attempts := 0, rush := false }
      ((c.frame f).area.writeAll ((c.frame f).sectorStart x.number) b) (c.readOutcome k n a .good b) := by
  have found := State.sectorAt_some hx
  have turned := c.putFrame_turns (n := n) (f := f)
    (fr := { (c.frame f).modSlot n (fun x => { x with state := .valid, settledVer := x.dataVer, attempts := 0, rush := false }) with
      area := (c.frame f).area.writeAll ((c.frame f).sectorStart x.number) b })
    (y := { x with state := .valid, settledVer := x.dataVer, attempts := 0, rush := false })
    (by
      rw [Frame.modSlot, List.modify_eq_set_getElem?, found]
      rfl) rfl
  rw [Ctx.readOutcome, hx]
  dsimp only
  rw [if_neg (not_not.mpr hs), if_pos rfl, Ctx.sectorFilled_none (turned.fills hn)]
  exact turned

/-- A failed read climbs its ladder (R70). -/
theorem Ctx.readOutcome_failed (hs : x.state = .reading) (ho : o.failed = true) (hn : c.NoneFill) (b : List Byte) :
    c.SlotTurns f n (x.afterFailedRead a) (c.frame f).area (c.readOutcome k n a o b) := by
  have found := State.sectorAt_some hx
  have bad : ¬ o = .good := by
    rintro rfl
    cases ho
  rw [Ctx.readOutcome, hx]
  dsimp only
  rw [if_neg (not_not.mpr hs), if_neg bad, if_pos ho, Ctx.readFailed_none hn, Sector.afterFailedRead]
  by_cases ha : a < 8
  · rw [if_pos (show a < readLadder from ha), if_pos ha]
    exact Ctx.modSector_turns found fun x => { x with state := .wanted, attempts := x.attempts + 1 }
  · have turned := Ctx.modSector_turns found fun x => { x with state := .bad, attempts := readLadder, rush := false }
    rw [if_neg (show ¬ a < readLadder from ha), if_neg ha, Ctx.sectorBad_none (turned.fills hn)]
    exact turned

/-- A sector is stranded, and the orders that follow it are told (R73, R74). -/
theorem Ctx.strandSector_turns (cause : StrandCause) (b : Bool) :
    let y : Sector := { x with
      state := .stranded, attempts := 3, rush := false, verify := b, check := false, redirty := false, cause := cause }
    c.SlotTurns f n y (c.frame f).area (c.strandSector f n cause b a)
    ∧ ∃ c1 : Ctx, c.strandSector f n cause b a = c1.sectorStranded f x.number cause a
      ∧ c1.table = c.table ∧ c1.waiters = c.waiters ∧ c1.g = c.g := by
  have found := State.sectorAt_some hx
  have turned := Ctx.modSector_turns found fun x => { x with
    state := .stranded, attempts := writeLadder, rush := false, verify := b, check := false, redirty := false, cause := cause }
  have steps (c : Ctx) : Steps (fun _ => True) Frame.UsesOnly c (c.sectorStranded f x.number cause a) :=
    Works.sectorStranded (P := fun _ => False) (Q := False) (fun _ _ => rfl) (fun _ h => h.elim) c f x.number cause a
      (fun _ _ _ h => h) fun _ h => absurd trivial h
  have told : c.strandSector f n cause b a = (c.modSector f n fun x => { x with
      state := .stranded, attempts := writeLadder, rush := false, verify := b, check := false
      redirty := false, cause := cause }).sectorStranded f x.number cause a := by
    rw [Ctx.strandSector, found]
  refine ⟨?_, _, told, Ctx.putFrame_table c f _, Ctx.putFrame_waiters c f _, State.view_g (c.modSector_view f n _)⟩
  rw [told]
  exact turned.steps (steps _)

/-- A failed write or check below the third returns its sector to DIRTY (R73, R74). -/
theorem Ctx.redoWrite_turns (b : Bool) : c.SlotTurns f n
    { x with state := .dirty, attempts := x.attempts + 1, verify := b, check := false, redirty := false }
    (c.frame f).area (c.redoWrite f n b) :=
  Ctx.modSector_turns (State.sectorAt_some hx) fun x => { x with
    state := .dirty, attempts := x.attempts + 1, verify := b, check := false, redirty := false }

theorem Ctx.checkOutcome_failed_eq (hs : x.state = .checking) (ho : o.failed = true) : c.checkOutcome k n a o
    = if a < 3 then c.redoWrite f n true else c.strandSector f n .check true a := by
  have bad : ¬ o = .good := by
    rintro rfl
    cases ho
  rw [Ctx.checkOutcome, hx]
  dsimp only
  rw [if_neg (not_not.mpr hs), if_neg bad, if_pos ho]
  rfl

/-- A failed check climbs its ladder (R74). -/
theorem Ctx.checkOutcome_failed (hs : x.state = .checking) (ho : o.failed = true) :
    c.SlotTurns f n (x.afterFailedCheck a) (c.frame f).area (c.checkOutcome k n a o) := by
  rw [Ctx.checkOutcome_failed_eq hx hs ho, Sector.afterFailedCheck]
  split
  · exact Ctx.redoWrite_turns hx true
  · exact (Ctx.strandSector_turns hx .check true).1

/-- A failed write climbs its ladder (R73). -/
theorem Ctx.writeOutcome_fails (hs : x.state = .writing) (ho : o.failed = true) (w : Half) :
    c.SlotTurns f n (x.afterFailedWrite a) (c.frame f).area (c.writeOutcome k n a o w) := by
  rw [c.writeOutcome_failed k n a o w f x hx hs ho, Sector.afterFailedWrite]
  by_cases ha : a < 3
  · rw [if_pos (show a < writeLadder from ha), if_pos ha]
    exact Ctx.redoWrite_turns hx _
  · rw [if_neg (show ¬ a < writeLadder from ha), if_neg ha]
    exact (Ctx.strandSector_turns hx .write _).1

/-- A good check settles its write (R72, R74). -/
theorem Ctx.checkOutcome_good (hs : x.state = .checking) :
    c.SlotTurns f n (x.settledAt c.g) (c.frame f).area (c.checkOutcome k n a .good) := by
  have found := State.sectorAt_some hx
  rw [Ctx.checkOutcome, hx]
  dsimp only
  rw [if_neg (not_not.mpr hs), if_pos rfl, Ctx.settleWrite_eq found]
  exact (Ctx.modSector_turns found fun _ => x.settledAt c.g).steps (Ctx.sectorSettled_steps _ _ _ _ _)

end Found
end Outcomes
end Sys2Proof.Machine

-- ==== Sys2Proof/Proofs/DataFields.lean ====
namespace Sys2Proof.Machine

open Sys2Proof

/-! ### DATA_FIELD_END (R46, R49, R53, R56, R70, R72, R74) -/

/-! #### From the end of an attempt to the end of its command -/

/-- From `s` to `t` the record in slot `n` of frame `f` became `y` and the frame's area `m`, and the other frames' sectors and
areas stand. -/
structure State.SlotEnds (s : State) (f : FrameNo) (n : Nat) (y : Sector) (m : Mem) (t : State) : Prop where
  sectors : (t.frame f).sectors = (s.frame f).sectors.set n y
  area : (t.frame f).area = m
  key : (t.frame f).key = (s.frame f).key
  others : ∀ f', f' ≠ f → (t.frame f').sectors = (s.frame f').sectors ∧ (t.frame f').area = (s.frame f').area

section Attempt
variable {c : Ctx} {p : PortNo} {r : Request} {x : Outcome} {f : FrameNo} {n : Nat} {y : Sector} {m : Mem}

theorem Ctx.attemptCounted_frames (c : Ctx) (p : PortNo) (r : Request) (x : Outcome) :
    (c.attemptCounted p r x).frames = c.frames := by
  obtain ⟨channels, drives, picks, eq⟩ := c.attemptCounted_rest p r x
  rw [eq]

theorem Ctx.attemptCounted_noneFill (hn : c.NoneFill) : (c.attemptCounted p r x).NoneFill := by
  obtain ⟨channels, drives, picks, eq⟩ := c.attemptCounted_rest p r x
  rw [eq]
  exact hn

/-- The end of a command whose attempt ended while nothing waited is what the report of its outcome made. -/
theorem Ctx.endAttempt_turns (hw : (c.chan p).work = some r) (calm : c.calm) (hn : c.NoneFill)
    (turns : (c.attemptCounted p r x).SlotTurns f n y m ((c.attemptCounted p r x).reportOutcome p r x)) :
    let t := (c.endAttempt p x).finish
    c.toState.SlotEnds f n y m t ∧ t.store = ((c.attemptCounted p r x).reportOutcome p r x).store
    ∧ ∀ i : Fin 8, i ≠ 7 → (t.drive r.drive).health.counters[i.val]
        = nextCount^[(c.outcomeCounters r x).countP fun k => k.index = i] (c.drive r.drive).health.counters[i.val] := by
  have frames := c.attemptCounted_frames p r x
  have before (f : FrameNo) : (c.attemptCounted p r x).frame f = c.frame f := by rw [State.frame, frames]; rfl
  have counters := c.attemptCounted_counters p r x
  have ctl := State.view_ctl (turns.view.trans (c.attemptCounted_view p r x))
  obtain ⟨store, counts⟩ := Ctx.endAttempt_finish (x := x) hw
    ⟨fun h => calm.1 (ctl.symm.trans h), fun h => calm.2 (ctl.symm.trans h)⟩ (turns.fills (Ctx.attemptCounted_noneFill hn))
  have frame (f : FrameNo) : (c.endAttempt p x).finish.frame f = ((c.attemptCounted p r x).reportOutcome p r x).frame f :=
    congrArg (fun x : Vector Frame 16 => x[f.val]) (congrArg StoreView.frames store)
  refine ⟨⟨?_, ?_, ?_, fun f' hf => ?_⟩, store, fun i hi => ?_⟩
  · rw [frame, turns.sectors, before]
  · rw [frame, turns.area]
  · rw [frame, turns.key, before]
  · obtain ⟨sectors, area⟩ := turns.others f' hf
    rw [frame, sectors, area, before]
    exact ⟨rfl, rfl⟩
  · rw [counts r.drive i hi, turns.counters, counters]

end Attempt

/-! #### The command -/

section Command
variable {s : State} {p : PortNo} {r : Request} {data high low : List Flux} {b : List Byte} {hi lo : Byte}

theorem exec_dataFieldEnd_away (h : (s.chan p).state ≠ .data) : exec (.dataFieldEnd p data high low) s = .next s := by
  change execDataFieldEnd p data high low s = _
  unfold execDataFieldEnd
  dsimp only
  split
  · next state _ => exact absurd state h
  · rfl

/-- The state with the field's data bytes staged. -/
def Ctx.staged (s : State) (p : PortNo) (b : List Byte) : Ctx := (Ctx.of s).setChan p { s.chan p with staging := b }

theorem Ctx.staged_chan (s : State) (p : PortNo) (b : List Byte) : (Ctx.staged s p b).chan p = { s.chan p with staging := b } :=
  Ctx.setChan_chan_self _ p _

theorem exec_dataFieldEnd (hs : (s.chan p).state = .data) (hw : (s.chan p).work = some r)
    (hb : b.length = s.sectorLength r.drive)
    (field : (s.chan p).settings.bytes (s.chan p).reference (data ++ high ++ low) (b.length + 2) = b ++ [hi, lo]) :
    exec (.dataFieldEnd p data high low) s
      = .next ((Ctx.staged s p b).endAttempt p (s.dataOutcome r b.length (b ++ [hi, lo]))).finish := by
  have read : (s.chan p).read (data ++ high ++ low) (s.sectorLength r.drive + 2) = b ++ [hi, lo] := by
    rw [← hb]
    exact field
  change execDataFieldEnd p data high low s = _
  unfold execDataFieldEnd
  dsimp only
  rw [hs, hw]
  dsimp only
  rw [read, ← hb, List.take_left]
  unfold Ctx.staged
  rw [← hs, ← hw]
  rfl

theorem fieldGood_iff : fieldGood dataMark (b ++ [hi, lo]) = true ↔ crc (0xCB :: (b ++ [hi, lo])) = 0 := by
  rw [fieldGood, beq_iff_eq]
  rfl

theorem State.dataOutcome_bad (n : Nat) (h : ¬ crc (0xCB :: (b ++ [hi, lo])) = 0) :
    s.dataOutcome r n (b ++ [hi, lo]) = .crcError := by
  have bad : fieldGood dataMark (b ++ [hi, lo]) = false := Bool.eq_false_iff.mpr fun good => h (fieldGood_iff.mp good)
  rw [State.dataOutcome, bad]
  rfl

theorem State.dataOutcome_read (n : Nat) (h : crc (0xCB :: (b ++ [hi, lo])) = 0) (hk : r.kind = .read) :
    s.dataOutcome r n (b ++ [hi, lo]) = .good := by
  rw [State.dataOutcome, fieldGood_iff.mpr h, hk]
  rfl

/-- A check compares the data CRC with the one that its write noted (R56). -/
theorem State.dataOutcome_check {f : FrameNo} {x : Sector} (h : crc (0xCB :: (b ++ [hi, lo])) = 0) (hk : r.kind = .check)
    (hx : s.sectorAt ⟨r.drive, r.cylinder, r.head⟩ r.slot = some (f, x)) :
    s.dataOutcome r b.length (b ++ [hi, lo]) = if crc (0xCB :: b) = x.writtenCrc then .good else .checkMismatch := by
  rw [State.dataOutcome, fieldGood_iff.mpr h, hx]
  dsimp only
  rw [List.take_left, if_pos hk]
  rfl

end Command

/-! #### What a WRITE in SETTLE hears of a stranding (R138, R143, R144) -/

section Stranding
variable {c : Ctx} {e : EntryNo} {o : Order} {f : FrameNo} {n a : Nat} {y : Target} {cause : StrandCause} {g : Word}

/-- The targets of an order after the stranding of a sector (R143). -/
def Order.strandedTargets (o : Order) (f : FrameNo) (n : Nat) (cause : StrandCause) : List Target :=
  o.targets.map fun t => if t.frame == f && t.sector == n && t.awaited then { t with state := .stranded cause } else t

/-- A WRITE in SETTLE that followed one sector, told of its stranding. -/
def Order.fails (o : Order) (f : FrameNo) (n a : Nat) (y : Target) (cause : StrandCause) : Order :=
  { o with targets := o.strandedTargets f n cause, highest := max o.highest a, failure := some (cause.code, y.block) }

/-- The awaited target of the sector is the only one. -/
structure Order.FollowsOnce (o : Order) (f : FrameNo) (n : Nat) (y : Target) : Prop where
  mem : y ∈ o.targets
  frame : y.frame = f
  sector : y.sector = n
  state : y.state = .awaited
  only : ∀ z ∈ o.targets, z.frame = f → z.sector = n → z.state = .awaited → z = y

theorem Order.FollowsOnce.hit_iff (hy : o.FollowsOnce f n y) {t : Target} (ht : t ∈ o.targets) :
    (t.frame == f && t.sector == n && t.awaited) = true ↔ t = y := by
  simp only [Bool.and_eq_true, beq_iff_eq, Target.awaited, and_assoc]
  constructor
  · rintro ⟨frame, sector, state⟩
    exact hy.only t ht frame sector state
  · rintro rfl
    exact ⟨hy.frame, hy.sector, hy.state⟩

/-- Of the targets of a WRITE in SETTLE the stranded one is the first failure. -/
theorem Order.FollowsOnce.firstFailure (hy : o.FollowsOnce f n y) (clean : ∀ z ∈ o.targets, z.failure? = none) :
    firstFailure (o.strandedTargets f n cause) = some (cause.code, y.block) := by
  have each : ∀ t ∈ o.strandedTargets f n cause, t.failure? = none ∨ t.failure? = some (cause.code, y.block) := by
    intro t ht
    obtain ⟨z, hz, rfl⟩ := List.mem_map.mp ht
    split
    · next hit =>
      rw [(hy.hit_iff hz).mp hit]
      exact .inr rfl
    · exact .inl (clean z hz)
  have here : { y with state := TargetState.stranded cause } ∈ o.strandedTargets f n cause :=
    List.mem_map.mpr ⟨y, hy.mem, if_pos ((hy.hit_iff hy.mem).mpr rfl)⟩
  rw [Sys2Proof.Machine.firstFailure]
  cases found : (o.strandedTargets f n cause).findSome? Target.failure? with
  | none => exact absurd (List.findSome?_eq_none_iff.mp found _ here) (by simp [Target.failure?])
  | some z =>
    obtain ⟨t, ht, hz⟩ := List.exists_of_findSome?_eq_some found
    obtain none | some := each t ht
    · rw [none] at hz
      cases hz
    · rw [← hz, some]

/-- What the stranding of its sector does to a WRITE in SETTLE: it ends with the cause's code. -/
theorem Ctx.reportTo_stranding (ho : c.order? e = some o) (hs : o.settling) (hy : o.FollowsOnce f n y) :
    c.reportTo f n a (fun _ => .stranded cause) e
      = (c.setOrder e (o.fails f n a y cause)).endOrder e cause.code y.block := by
  obtain ⟨kind, stage, failure, _, clean⟩ := id hs
  have hit : o.targets.any (fun t => t.frame == f && t.sector == n && t.awaited) = true :=
    List.any_eq_true.mpr ⟨y, hy.mem, (hy.hit_iff hy.mem).mpr rfl⟩
  have noted : Order.noteFailure { o with targets := o.strandedTargets f n cause, highest := max o.highest a }
      = o.fails f n a y cause := by
    unfold Order.noteFailure
    dsimp only
    rw [failure, hy.firstFailure clean]
    rfl
  have told : c.reportTo f n a (fun _ => .stranded cause) e = (c.setOrder e (o.fails f n a y cause)).settleCheck e := by
    rw [Ctx.reportTo, ho]
    dsimp only
    rw [if_pos hit, if_pos kind, if_neg (by rw [kind]; decide), ← noted]
    rfl
  have here : (c.setOrder e (o.fails f n a y cause)).order? e = some (o.fails f n a y cause) := by
    rw [Ctx.setOrder_order?, if_pos rfl]
  have settle : ¬ (o.fails f n a y cause).stage ≠ .settle := not_not.mpr stage
  have write : (o.fails f n a y cause).fields.kind? = some .write := kind
  rw [told, Ctx.settleCheck, here]
  dsimp only
  rw [if_neg settle, write]
  rfl

/-- A WRITE in SETTLE that follows one sector ends when it is stranded, where no CHECKOUT waits. -/
theorem Ctx.Stands.sectorStranded (h : c.Stands e o g) (hs : o.settling) (hy : o.FollowsOnce f n y) :
    (c.sectorStranded f n cause a).Stands e ((o.fails f n a y cause).finished g cause.code y.block) g := by
  rw [Ctx.sectorStranded, Ctx.reportTargets_eq]
  refine Ctx.forEntries_meet (e := e) (P := fun c => c.Stands e o g)
    (Q := fun c => c.Stands e ((o.fails f n a y cause).finished g cause.code y.block) g)
    c h (fun e' c he h => h.reportTo he f n a _) (fun c h => ?_) (fun e' c he h => h.reportTo he f n a _)
  obtain ⟨ho, free, hg⟩ := h
  rw [Ctx.reportTo_stranding ho hs hy, ← hg]
  have here : (c.setOrder e (o.fails f n a y cause)).order? e = some (o.fails f n a y cause) := by
    rw [Ctx.setOrder_order?, if_pos rfl]
  have alive : (o.fails f n a y cause).stage ≠ .finish := by
    rw [show (o.fails f n a y cause).stage = o.stage from rfl, hs.2.1]
    decide
  exact ⟨Ctx.endOrder_self _ e _ _ _ here alive, ((c.setOrder e (o.fails f n a y cause)).endOrder_endedWith _ _ here alive).2.2,
    State.view_g (Ctx.endOrder_view _ e _ _)⟩

end Stranding

/-! #### The four ends of a data field -/

theorem State.frame_of_frames {s t : State} (h : t.frames = s.frames) (f : FrameNo) : t.frame f = s.frame f := by
  rw [State.frame, h]
  rfl

section Counters
variable {s : State} {r : Request} {x : Outcome}

theorem State.outcomeCounters_read_good (hk : r.kind = .read) :
    s.outcomeCounters r .good = if 2 ≤ r.attempt then [.softRead] else [] := by
  simp [State.outcomeCounters, hk, Outcome.failed]

theorem State.outcomeCounters_read_bad (hk : r.kind = .read) :
    s.outcomeCounters r .crcError = if r.attempt = 8 then [.hardRead] else [] := by
  simp [State.outcomeCounters, hk, Outcome.failed, readLadder]

theorem State.outcomeCounters_check_good (hk : r.kind = .check) :
    s.outcomeCounters r .good = if 2 ≤ r.attempt then [.writeRetry] else [] := by
  simp [State.outcomeCounters, hk, Outcome.failed]

theorem State.outcomeCounters_check_bad (hk : r.kind = .check) (hx : x = .crcError ∨ x = .checkMismatch) :
    s.outcomeCounters r x = if r.attempt = 3 then [.writeFail] else [] := by
  obtain rfl | rfl := hx
  · simp [State.outcomeCounters, hk, Outcome.failed, writeLadder]
  · simp [State.outcomeCounters, hk, Outcome.failed, writeLadder]

/-- A counter of which at most one event was counted. -/
theorem nextCount_if (c : Prop) [Decidable c] (k : Counter) (i : Fin 8) (hk : k.index = i) (n : Half) :
    nextCount^[(if c then [k] else []).countP fun k => k.index = i] n
      = if c then (if n = 0xFFFF then n else n + 1) else n := by
  split
  · rw [List.countP_singleton, if_pos (decide_eq_true hk)]
    rfl
  · rfl

end Counters

section Fields
variable {s : State} {p : PortNo} {r : Request} {data high low : List Flux} {b : List Byte} {hi lo : Byte} {f : FrameNo}
  {x : Sector}

theorem Ctx.reportOutcome_read {c : Ctx} (hk : r.kind = .read) (o : Outcome) : c.reportOutcome p r o
    = c.readOutcome ⟨r.drive, r.cylinder, r.head⟩ r.slot r.attempt o (c.chan p).staging := by
  rw [Ctx.reportOutcome, hk]

theorem Ctx.reportOutcome_check {c : Ctx} (hk : r.kind = .check) (o : Outcome) : c.reportOutcome p r o
    = c.checkOutcome ⟨r.drive, r.cylinder, r.head⟩ r.slot r.attempt o := by
  rw [Ctx.reportOutcome, hk]

theorem Ctx.reportOutcome_write {c : Ctx} (hk : r.kind = .write) (o : Outcome) : c.reportOutcome p r o
    = c.writeOutcome ⟨r.drive, r.cylinder, r.head⟩ r.slot r.attempt o (dataCrc (c.chan p).staging) := by
  rw [Ctx.reportOutcome, hk]

variable (nw : s.noneWaiting) (hw : (s.chan p).work = some r)
  (hx : s.sectorAt ⟨r.drive, r.cylinder, r.head⟩ r.slot = some (f, x))
include nw hw hx

/-- A data field ends with an outcome whose report turns its sector. -/
theorem Ctx.staged_turns {o : Outcome} {y : Sector} {m : Mem}
    (turns : ∀ c : Ctx, c.frames = s.frames → c.NoneFill → c.g = s.g → (c.chan p).staging = b →
      c.sectorAt ⟨r.drive, r.cylinder, r.head⟩ r.slot = some (f, x) → c.SlotTurns f r.slot y m (c.reportOutcome p r o)) :
    let t := ((Ctx.staged s p b).endAttempt p o).finish
    s.SlotEnds f r.slot y m t
    ∧ t.store = (((Ctx.staged s p b).attemptCounted p r o).reportOutcome p r o).store
    ∧ ∀ i : Fin 8, i ≠ 7 → (t.drive r.drive).health.counters[i.val]
        = nextCount^[(s.outcomeCounters r o).countP fun k => k.index = i] (s.drive r.drive).health.counters[i.val] := by
  have work : ((Ctx.staged s p b).chan p).work = some r := by
    rw [Ctx.staged_chan]
    exact hw
  have frames := (Ctx.staged s p b).attemptCounted_frames p r o
  have staging := ((Ctx.staged s p b).attemptCounted_staging p r o).trans (congrArg Channel.staging (Ctx.staged_chan s p b))
  obtain ⟨ends, store, counters⟩ := Ctx.endAttempt_turns work nw.1 nw.2 (turns _ frames (Ctx.attemptCounted_noneFill nw.2)
    (State.view_g ((Ctx.staged s p b).attemptCounted_view p r o)) staging ((State.sectorAt_of_frames frames _ _).trans hx))
  exact ⟨⟨ends.sectors, ends.area, ends.key, ends.others⟩, store, counters⟩

omit nw hw in
/-- What a WRITE in SETTLE has become whose sector the third bad check stranded. -/
theorem Ctx.staged_strands (hk : r.kind = .check) (hs : x.state = .checking) {o : Outcome} (ho : o.failed = true)
    (last : 3 ≤ r.attempt) (free : s.waiters = []) {t : State}
    (store : t.store = (((Ctx.staged s p b).attemptCounted p r o).reportOutcome p r o).store) {e : EntryNo} {order : Order}
    (he : s.order? e = some order) (settling : order.settling) {y : Target} (hy : order.FollowsOnce f x.number y) :
    ∃ o', t.order? e = some o' ∧ o'.stage = .finish ∧ o'.result = some ⟨.verifyFail, y.block, s.g⟩
      ∧ o'.highest = max order.highest r.attempt := by
  obtain ⟨channels, drives, picks, eq⟩ := (Ctx.staged s p b).attemptCounted_rest p r o
  have frames := (Ctx.staged s p b).attemptCounted_frames p r o
  have found : ((Ctx.staged s p b).attemptCounted p r o).sectorAt ⟨r.drive, r.cylinder, r.head⟩ r.slot = some (f, x) :=
    (State.sectorAt_of_frames frames _ _).trans hx
  rw [Ctx.reportOutcome_check hk, Ctx.checkOutcome_failed_eq found hs ho, if_neg (Nat.not_lt.mpr last)] at store
  obtain ⟨c1, told, table, waiters, g⟩ := (Ctx.strandSector_turns (a := r.attempt) found .check true).2
  have stands : c1.Stands e order s.g := by
    refine ⟨(State.order?_of_table table e).trans ?_, ?_, g.trans ?_⟩
    · rw [eq]
      exact he
    · rw [waiters, eq]
      intro w hw
      rw [show (Ctx.staged s p b).waiters = s.waiters from rfl, free] at hw
      cases hw
    · rw [eq]
      rfl
  rw [told] at store
  obtain ⟨o', ho', same⟩ := State.order_of_store store (stands.sectorStranded (a := r.attempt) (cause := .check) settling hy).1
  refine ⟨o', ho', ?_, ?_, ?_⟩
  all_goals
    rw [same]
    rfl

end Fields

/-- Settles O48: a data field's outcome is read off its bytes, its report turns one record, the end of the command keeps what
it made, and the WRITE that awaits a stranded sector hears of it once. -/
theorem dataFieldEnd : Obligations.DataFieldEnd := by
  intro p r data high low s
  refine ⟨exec_dataFieldEnd_away, fun f x b hi lo nw hs hw hx hb field => ?_⟩
  have runs := exec_dataFieldEnd hs hw hb field
  refine ⟨fun hk reading good => ?_, fun hk reading bad => ?_, fun hk checking good same => ?_, fun hk checking bad => ?_⟩
  · rw [State.dataOutcome_read b.length good hk] at runs
    obtain ⟨ends, _, counters⟩ := Ctx.staged_turns (b := b) (o := .good) (p := p)
      (y := { x with state := .valid, settledVer := x.dataVer, attempts := 0, rush := false })
      (m := (s.frame f).area.writeAll ((s.frame f).sectorStart x.number) b) nw hw hx fun c frames fills _ staging found => by
        rw [Ctx.reportOutcome_read hk, staging, ← State.frame_of_frames frames]
        exact Ctx.readOutcome_good found reading fills b
    refine ⟨_, ⟨runs, ends.sectors, ends.key, ends.others⟩, ?_, ?_⟩
    · rw [ends.area]
      exact Mem.storedAt_writeAll _ _ _
    · have counted := counters 0 (by decide)
      rw [State.outcomeCounters_read_good hk, nextCount_if _ .softRead 0 rfl] at counted
      exact counted
  · rw [State.dataOutcome_bad b.length bad] at runs
    obtain ⟨ends, _, counters⟩ := Ctx.staged_turns (b := b) (o := .crcError) (p := p) (y := x.afterFailedRead r.attempt)
      (m := (s.frame f).area) nw hw hx fun c frames fills _ _ found => by
        rw [Ctx.reportOutcome_read hk, ← State.frame_of_frames frames]
        exact Ctx.readOutcome_failed found reading rfl fills _
    refine ⟨_, ⟨runs, ends.sectors, ends.key, ends.others⟩, ends.area, ?_⟩
    have counted := counters 1 (by decide)
    rw [State.outcomeCounters_read_bad hk, nextCount_if _ .hardRead 1 rfl] at counted
    exact counted
  · rw [State.dataOutcome_check good hk hx, if_pos same] at runs
    obtain ⟨ends, _, counters⟩ := Ctx.staged_turns (b := b) (o := .good) (p := p) (y := x.settledAt s.g)
      (m := (s.frame f).area) nw hw hx fun c frames _ g _ found => by
        rw [Ctx.reportOutcome_check hk, ← State.frame_of_frames frames, ← g]
        exact Ctx.checkOutcome_good found checking
    refine ⟨_, ⟨runs, ends.sectors, ends.key, ends.others⟩, ends.area, ?_⟩
    have counted := counters 4 (by decide)
    rw [State.outcomeCounters_check_good hk, nextCount_if _ .writeRetry 4 rfl] at counted
    exact counted
  · obtain ⟨o, outcome, kinds⟩ : ∃ o, s.dataOutcome r b.length (b ++ [hi, lo]) = o ∧ (o = .crcError ∨ o = .checkMismatch) := by
      by_cases good : crc (0xCB :: (b ++ [hi, lo])) = 0
      · have differs := bad.resolve_left (not_not.mpr good)
        exact ⟨_, (State.dataOutcome_check good hk hx).trans (if_neg differs), .inr rfl⟩
      · exact ⟨_, State.dataOutcome_bad b.length good, .inl rfl⟩
    have failed : o.failed = true := by obtain rfl | rfl := kinds <;> rfl
    rw [outcome] at runs
    obtain ⟨ends, store, counters⟩ := Ctx.staged_turns (b := b) (o := o) (p := p) (y := x.afterFailedCheck r.attempt)
      (m := (s.frame f).area) nw hw hx fun c frames _ _ _ found => by
        rw [Ctx.reportOutcome_check hk, ← State.frame_of_frames frames]
        exact Ctx.checkOutcome_failed found checking failed
    refine ⟨_, ⟨runs, ends.sectors, ends.key, ends.others⟩, ends.area, ?_, ?_⟩
    · have counted := counters 5 (by decide)
      rw [State.outcomeCounters_check_bad hk kinds, nextCount_if _ .writeFail 5 rfl] at counted
      exact counted
    · intro last free e order he settling y hy frame sector awaited only
      exact Ctx.staged_strands hx hk checking failed last free store he settling ⟨hy, frame, sector, awaited, only⟩

end Sys2Proof.Machine

-- ==== Sys2Proof/Proofs/FailedAttempts.lean ====
namespace Sys2Proof.Machine

open Sys2Proof

/-! ### Attempts that fail before their data field (R47 to R49, R52, R53, R70, R73, R74) -/

/-! #### Where no RECAL job can end, an owed mark stands over the picks (R52, R103) -/

section Owed
variable {c c' : Ctx} {ps : List PortNo} {p : PortNo} {v w : DriveNo} {n : Nat}

/-- The level of TRACK ZERO that a drive's lines show. -/
def Drive.zeroLevel (d : Drive) (v : DriveNo) : Bool := d.lines.trackZero.getD (Config.trackZero v d.lines.steps)

/-- A recalibration that begins now does not end at once on a cylinder that it would stay on. -/
def Drive.Away (d : Drive) (v : DriveNo) : Prop := d.zeroLevel v = false ∨ d.cylinder ≠ 0

/-- The drive's job, if it holds one, is a RECAL job at cylinder `n` that cannot end in this command. -/
def Drive.RecalWaits (d : Drive) (v : DriveNo) (n : Nat) : Prop :=
  d.sched.job = none
    ∨ ((∃ j, d.sched.job = some j ∧ j.kind = .recal ∧ j.cylinder = n) ∧ (d.arm = .free → d.Away v))

theorem Drive.RecalWaits.of_same {d d' : Drive} (h : d.RecalWaits v n) (job : d'.sched.job = d.sched.job)
    (arm : d'.arm = d.arm) (cylinder : d'.cylinder = d.cylinder) (lines : d'.lines = d.lines) : d'.RecalWaits v n := by
  unfold Drive.RecalWaits Drive.Away Drive.zeroLevel at h ⊢
  rw [job, arm, cylinder, lines]
  exact h

theorem Drive.RecalWaits.of_busy {d d' : Drive} (h : d.RecalWaits v n) (job : d'.sched.job = d.sched.job
      ∨ d'.sched.job = d.sched.job.map fun j => { j with running := true })
    (arm : d'.arm = .free → d.arm = .free ∧ d'.cylinder = d.cylinder ∧ d'.lines = d.lines) : d'.RecalWaits v n := by
  obtain none | ⟨⟨j, hj, kind, cylinder⟩, away⟩ := h
  · left
    obtain job | job := job
    · rw [job, none]
    · rw [job, none]
      rfl
  · refine .inr ⟨?_, fun free => ?_⟩
    · obtain job | job := job
      · exact ⟨j, by rw [job, hj], kind, cylinder⟩
      · exact ⟨{ j with running := true }, by rw [job, hj]; rfl, kind, cylinder⟩
    · obtain ⟨free, cyl, lines⟩ := arm free
      have stands := away free
      unfold Drive.Away Drive.zeroLevel at stands ⊢
      rwa [cyl, lines]

/-- Two drives of one port are told apart by which is the lower one. -/
theorem isLow_ne (hp : portOf v = portOf w) (h : v ≠ w) : isLow v ≠ isLow w := by
  revert v w
  decide

theorem Channel.setOwed_owed_ne (h : Channel) (b : Bool) (hl : isLow v ≠ isLow w) : (h.setOwed w b).owed v = h.owed v := by
  unfold Channel.setOwed Channel.owed
  cases hv : isLow v <;> cases hw : isLow w <;> simp_all

theorem Channel.setOwed_owed (h : Channel) (v : DriveNo) (b : Bool) : (h.setOwed v b).owed v = b := by
  unfold Channel.setOwed Channel.owed
  by_cases low : isLow v = true
  · rw [if_pos low, if_pos low]
  · rw [if_neg low, if_neg low]

theorem Channel.setPend_owed (h : Channel) (w : DriveNo) (r : Option Request) (v : DriveNo) :
    (h.setPend w r).owed v = h.owed v := by
  unfold Channel.setPend
  split <;> rfl

theorem Ctx.withdraw_owed (c : Ctx) (w : DriveNo) (p : PortNo) (v : DriveNo) :
    ((c.withdraw w).chan p).owed v = (c.chan p).owed v := by
  rw [Ctx.withdraw, Ctx.modChan, Ctx.setChan_chan]
  split
  · next h =>
    subst h
    exact Channel.setPend_owed _ _ _ _
  · rfl

theorem Ctx.startSeek_chan (c : Ctx) (w : DriveNo) (n : Nat) (b : Bool) (q : PortNo) : (c.startSeek w n b).chan q = c.chan q := by
  unfold Ctx.startSeek
  dsimp only
  split <;> rfl

/-- A seek to another cylinder keeps the arm busy. -/
theorem Ctx.startSeek_busy (c : Ctx) (v : DriveNo) {n : Nat} (b : Bool) (h : n ≠ (c.drive v).cylinder) :
    ((c.startSeek v n b).drive v).arm ≠ .free := by
  have far : ¬ (n - (c.drive v).cylinder) + ((c.drive v).cylinder - n) = 0 := by omega
  unfold Ctx.startSeek
  dsimp only
  rw [if_neg far, Ctx.setDrive_drive_self]
  simp

/-- Another drive's RECAL job leaves this one's owed mark. -/
theorem Ctx.recalJobDone_owed_ne (c : Ctx) (hv : v ≠ w) :
    ((c.recalJobDone w).chan (portOf v)).owed v = (c.chan (portOf v)).owed v := by
  have cleared : ((c.modChan (portOf w) fun h => h.setOwed w false).chan (portOf v)).owed v = (c.chan (portOf v)).owed v := by
    rw [Ctx.modChan, Ctx.setChan_chan]
    split
    · next h =>
      rw [Channel.setOwed_owed_ne _ _ (isLow_ne h hv), h]
    · rfl
  have ended : (((c.modChan (portOf w) fun h => h.setOwed w false).jobEnded w).chan (portOf v)).owed v
      = (c.chan (portOf v)).owed v := by
    rw [State.chan_of_channels (Ctx.jobEnded_jobs _ w).channels]
    exact cleared
  unfold Ctx.recalJobDone
  split
  · split
    · dsimp only
      split
      · split
        · exact ended
        · rw [State.chan_of_channels (Ctx.flagPick_jobs _ w).channels]
          exact ended
      · exact ended
    · rfl
  · rfl

theorem Ctx.startRecal_owed_ne (c : Ctx) (hv : v ≠ w) (n : Nat) :
    ((c.startRecal w (some n)).chan (portOf v)).owed v = (c.chan (portOf v)).owed v := by
  unfold Ctx.startRecal Ctx.recalSucceeded
  dsimp only
  split
  · split
    · exact Ctx.recalJobDone_owed_ne _ hv
    · rw [Ctx.startSeek_chan]
      rfl
  · rfl

/-- The pick of a RECAL job that cannot end at once: the arm is busy, and the owed marks stand (R103). -/
theorem Ctx.recalPick_waits (c : Ctx) (v : DriveNo) (h : (c.drive v).Away v) :
    ((c.recalPick v).drive v).sched.job = (c.drive v).sched.job.map (fun j => { j with running := true })
    ∧ ((c.recalPick v).drive v).arm ≠ .free ∧ ∀ q w, ((c.recalPick v).chan q).owed w = (c.chan q).owed w := by
  have drive : ((c.withdraw v).modSched v fun x => { x with
      state := .recalibrating, idle := 0, job := x.job.map fun j => { j with running := true } }).drive v
      = { c.drive v with sched := { (c.drive v).sched with
          state := .recalibrating, idle := 0, job := (c.drive v).sched.job.map fun j => { j with running := true } } } :=
    Ctx.setDrive_drive_self ..
  have owed (q : PortNo) (w : DriveNo) : (((c.withdraw v).modSched v fun x => { x with
      state := .recalibrating, idle := 0, job := x.job.map fun j => { j with running := true } }).chan q).owed w
      = (c.chan q).owed w := c.withdraw_owed v q w
  unfold Ctx.recalPick
  generalize (c.withdraw v).modSched v _ = c1 at drive owed
  unfold Ctx.startRecal
  dsimp only
  by_cases zero : c1.trackZero v = true
  · have cylinder : ¬ (c1.drive v).cylinder = 0 := by
      rw [drive]
      refine h.resolve_left fun low => ?_
      have level : c1.trackZero v = (c.drive v).zeroLevel v := by
        rw [State.trackZero, drive]
        rfl
      rw [level, low] at zero
      cases zero
    have zeroed : ((c1.count v .recal).modDrive v fun d => { d with cylinder := 0, arm := .free }).drive v
        = { c1.drive v with health := (c1.drive v).health.count .recal, cylinder := 0, arm := .free } := by
      rw [Ctx.modDrive, Ctx.setDrive_drive_self, Ctx.count, Ctx.modDrive, Ctx.setDrive_drive_self]
    rw [if_pos zero, Ctx.recalSucceeded, if_neg cylinder]
    refine ⟨?_, Ctx.startSeek_busy _ v true (by rw [zeroed]; exact cylinder), fun q w => ?_⟩
    · rw [Ctx.startSeek_drive, zeroed, drive]
    · rw [Ctx.startSeek_chan]
      exact owed q w
  · rw [if_neg zero, Ctx.setDrive_drive_self]
    exact ⟨by rw [drive], by simp, owed⟩

theorem Ctx.loadIfUnloaded_chan (c : Ctx) (w : DriveNo) (q : PortNo) :
    (if (c.drive w).unloaded then c.loadRequest w else c).chan q = c.chan q := by
  split <;> rfl

theorem Ctx.movePick_chan (c : Ctx) (w : DriveNo) (x : Cand) (q : PortNo) : (c.movePick w x).chan q = c.chan q := by
  unfold Ctx.movePick
  dsimp only
  rw [Ctx.startSeek_chan]
  exact Ctx.loadIfUnloaded_chan _ w q

theorem Ctx.movePick_busy (c : Ctx) (v : DriveNo) (x : Cand) (h : x.place.cylinder ≠ (c.drive v).cylinder) :
    ((c.movePick v x).drive v).arm ≠ .free := by
  refine Ctx.startSeek_busy _ v false ?_
  rw [Ctx.loadIfUnloaded_drive]
  simpa [Ctx.leaveQuiet, Ctx.modSched, Ctx.modDrive] using h

theorem Ctx.filePick_chan (c : Ctx) (w : DriveNo) (x : Cand) (b : Bool) (q : PortNo) : (c.filePick w x b).chan q = c.chan q :=
  Ctx.loadIfUnloaded_chan _ w q

theorem Ctx.filePick_lines (c : Ctx) (w : DriveNo) (x : Cand) (b : Bool) :
    ((c.filePick w x b).drive w).sched.job = (c.drive w).sched.job ∧ ((c.filePick w x b).drive w).arm = (c.drive w).arm
    ∧ ((c.filePick w x b).drive w).cylinder = (c.drive w).cylinder
    ∧ ((c.filePick w x b).drive w).lines = (c.drive w).lines := by
  rw [Ctx.filePick_drive]
  exact ⟨rfl, rfl, rfl, rfl⟩

/-- While no RECAL job can end, the owed mark of a drive and whether it holds a job stand over all release rounds and picks. -/
structure Ctx.OwedStands (v : DriveNo) (n : Nat) (c c' : Ctx) : Prop where
  waits : (c'.drive v).RecalWaits v n
  owed : (c'.chan (portOf v)).owed v = (c.chan (portOf v)).owed v
  job : (c'.drive v).sched.job.isSome = (c.drive v).sched.job.isSome

theorem Picked.owedStands (h : Picked ps c c') (h0 : (c.drive v).RecalWaits v n) : c.OwedStands v n c' := by
  have granted {c1 : Ctx} (q : PortNo) (r : Request) (ih : c.OwedStands v n c1) : c.OwedStands v n (c1.grant q r) := by
    have drive := c1.grant_drive q r v
    have job : ((c1.grant q r).drive v).sched.job = (c1.drive v).sched.job
        ∨ ((c1.grant q r).drive v).sched.job = (c1.drive v).sched.job.map fun j => { j with running := true } := by
      rw [drive]
      split
      · dsimp only
        split
        · exact .inr rfl
        · exact .inl rfl
      · exact .inl rfl
    have rest : ((c1.grant q r).drive v).arm = (c1.drive v).arm ∧ ((c1.grant q r).drive v).cylinder = (c1.drive v).cylinder
        ∧ ((c1.grant q r).drive v).lines = (c1.drive v).lines := by
      rw [drive]
      split
      · exact ⟨rfl, rfl, rfl⟩
      · exact ⟨rfl, rfl, rfl⟩
    refine ⟨ih.waits.of_busy job fun free => ⟨rest.1.symm.trans free, rest.2⟩, ?_, ?_⟩
    · by_cases hq : portOf v = q
      · subst hq
        exact ((c1.grant_chan _ r).2.2.2.2.2 v).trans ih.owed
      · rw [Ctx.grant_chan_ne _ _ hq]
        exact ih.owed
    · rw [← ih.job]
      obtain job | job := job
      · rw [job]
      · rw [job, Option.isSome_map]
  have closed {c1 : Ctx} (q : PortNo) (ih : c.OwedStands v n c1) : c.OwedStands v n (c1.closeRound q) := by
    refine ⟨ih.waits, ?_, ih.job⟩
    rw [Ctx.closeRound_chan]
    split
    · next h =>
      subst h
      exact ih.owed
    · exact ih.owed
  have sched {c1 : Ctx} (w : DriveNo) (k : Sched → Sched) (hk : ∀ x, (k x).job = x.job) (ih : c.OwedStands v n c1) :
      c.OwedStands v n (c1.modSched w k) := by
    have drive : (c1.modSched w k).drive v = if v = w then { c1.drive v with sched := k (c1.drive v).sched } else c1.drive v := by
      rw [Ctx.modSched, Ctx.modDrive, Ctx.setDrive_drive]
      split
      · next h =>
        subst h
        rfl
      · rfl
    have job : ((c1.modSched w k).drive v).sched.job = (c1.drive v).sched.job := by
      rw [drive]
      split
      · exact hk _
      · rfl
    refine ⟨ih.waits.of_same job ?_ ?_ ?_, ih.owed, (congrArg Option.isSome job).trans ih.job⟩
    all_goals
      rw [drive]
      split <;> rfl
  induction h with
  | refl => exact ⟨h0, rfl, rfl⟩
  | lists _ _ _ ih => exact ⟨ih.waits, ih.owed, ih.job⟩
  | quiet w _ ih => exact sched w _ (fun _ => rfl) ih
  | @recal c1 w _ hr free ih =>
    by_cases hw : v = w
    · subst hw
      obtain ⟨j, hj, _⟩ := State.served_recal hr
      obtain none | ⟨_, away⟩ := ih.waits
      · rw [none] at hj
        cases hj
      · obtain ⟨job, busy, owed⟩ := c1.recalPick_waits v (away free)
        refine ⟨ih.waits.of_busy (.inr job) fun free => absurd free busy, (owed _ v).trans ih.owed, ?_⟩
        rw [job, Option.isSome_map, ih.job]
    · have same := (c1.recalPick_atPick w).others v hw
      have owed : ((c1.recalPick w).chan (portOf v)).owed v = (c1.chan (portOf v)).owed v :=
        (Ctx.startRecal_owed_ne _ hw _).trans (c1.withdraw_owed w _ v)
      exact ⟨by rw [same]; exact ih.waits, owed.trans ih.owed, by rw [same]; exact ih.job⟩
  | @move c1 w x _ _ far _ ih =>
    by_cases hw : v = w
    · subst hw
      have job : ((c1.movePick v x).drive v).sched.job = (c1.drive v).sched.job := by rw [Ctx.movePick_drive]
      refine ⟨ih.waits.of_busy (.inl job) fun free => absurd free (c1.movePick_busy v x far), ?_, ?_⟩
      · rw [Ctx.movePick_chan]
        exact ih.owed
      · rw [job]
        exact ih.job
    · have same := (c1.movePick_atPick w x).others v hw
      exact ⟨by rw [same]; exact ih.waits, by rw [Ctx.movePick_chan]; exact ih.owed, by rw [same]; exact ih.job⟩
  | @file c1 w x a r _ _ _ _ ih =>
    have filed : c.OwedStands v n (c1.filePick w x a) := by
      by_cases hw : v = w
      · subst hw
        obtain ⟨job, arm, cylinder, lines⟩ := c1.filePick_lines v x a
        exact ⟨ih.waits.of_same job arm cylinder lines, by rw [Ctx.filePick_chan]; exact ih.owed, by rw [job]; exact ih.job⟩
      · have same := (c1.filePick_atPick w x a).others v hw
        exact ⟨by rw [same]; exact ih.waits, by rw [Ctx.filePick_chan]; exact ih.owed, by rw [same]; exact ih.job⟩
    have asked := sched r.drive (fun x => { x with state := .filed }) (fun _ => rfl) filed
    unfold Ctx.fileRequest
    dsimp only
    split
    · exact granted _ r asked
    · refine ⟨asked.waits, ?_, asked.job⟩
      rw [Ctx.modChan, Ctx.setChan_chan]
      split
      · next h =>
        rw [Channel.setPend_owed, ← h]
        exact asked.owed
      · exact asked.owed
  | close q _ _ ih => exact closed q ih
  | grant q r _ _ _ ih => exact granted q r (closed q ih)

end Owed

/-! #### What a failed attempt leaves -/

section Failed
variable {s : State} {p : PortNo} {r : Request} {f : FrameNo} {x : Sector} {o : Outcome}

/-- The outcomes of an attempt that failed before its data field. -/
def Outcome.early (o : Outcome) : Prop := o = .notFound ∨ o = .seekError ∨ o = .fluxLoss

theorem Outcome.early.failed (h : o.early) : o.failed = true ∧ o.keepsBurst = false := by
  obtain rfl | rfl | rfl := h <;> exact ⟨rfl, rfl⟩

/-- A sector after a failed attempt: the ladder of its kind, where it is in the state that the kind names (R70, R73, R74,
R76). -/
def Sector.afterFailed (x : Sector) (r : Request) : Sector :=
  match r.kind with
  | .read => if x.state = .reading then x.afterFailedRead r.attempt else x
  | .check => if x.state = .checking then x.afterFailedCheck r.attempt else x
  | .write => if x.state = .writing then x.afterFailedWrite r.attempt else x
  | .formatTrack | .discover | .recal => x

/-- A discarded report changes nothing. -/
theorem Ctx.SlotTurns.refl {c : Ctx} {n : Nat} (hx : (c.frame f).sectors[n]? = some x) :
    c.SlotTurns f n x (c.frame f).area c := by
  obtain ⟨bound, at_n⟩ := List.getElem?_eq_some_iff.mp hx
  exact ⟨by rw [← at_n, List.set_getElem_self], rfl, rfl, fun _ _ => ⟨rfl, rfl⟩, fun h => h, rfl, rfl,
    fun _ => rfl, fun _ => rfl⟩

/-- The report of a failed attempt (R70, R73, R74, R76). -/
theorem Ctx.reportOutcome_failed {c : Ctx} (hk : r.kind = .read ∨ r.kind = .check ∨ r.kind = .write)
    (hx : c.sectorAt ⟨r.drive, r.cylinder, r.head⟩ r.slot = some (f, x)) (ho : o.failed = true) (hn : c.NoneFill) :
    c.SlotTurns f r.slot (x.afterFailed r) (c.frame f).area (c.reportOutcome p r o) := by
  have found := State.sectorAt_some hx
  unfold Sector.afterFailed
  obtain hk | hk | hk := hk
  · rw [Ctx.reportOutcome_read hk, hk]
    by_cases hs : x.state = .reading
    · rw [if_pos hs]
      exact Ctx.readOutcome_failed hx hs ho hn _
    · have discarded (b : List Byte) : c.readOutcome ⟨r.drive, r.cylinder, r.head⟩ r.slot r.attempt o b = c := by
        rw [Ctx.readOutcome, hx]
        exact if_pos hs
      rw [if_neg hs, discarded]
      exact .refl found
  · rw [Ctx.reportOutcome_check hk, hk]
    by_cases hs : x.state = .checking
    · rw [if_pos hs]
      exact Ctx.checkOutcome_failed hx hs ho
    · have discarded : c.checkOutcome ⟨r.drive, r.cylinder, r.head⟩ r.slot r.attempt o = c := by
        rw [Ctx.checkOutcome, hx]
        exact if_pos hs
      rw [if_neg hs, discarded]
      exact .refl found
  · rw [Ctx.reportOutcome_write hk, hk]
    by_cases hs : x.state = .writing
    · rw [if_pos hs]
      exact Ctx.writeOutcome_fails hx hs ho _
    · rw [if_neg hs, c.writeOutcome_discarded _ _ _ _ _ fun f' x' h => by rw [hx] at h; cases h; exact hs]
      exact .refl found

/-- The failure makes a recalibration owed (R52). -/
def Request.owes (r : Request) (seek : Bool) : Prop :=
  seek = true ∨ (r.kind = .read ∧ r.attempt = 6) ∨ (r.kind ≠ .read ∧ r.attempt = 2)

theorem owesRecal_iff (hk : r.kind = .read ∨ r.kind = .check ∨ r.kind = .write) (ho : o.early) :
    owesRecal r o = true ↔ r.owes (o == .seekError) := by
  unfold owesRecal Request.owes
  rw [ho.failed.1]
  obtain hk | hk | hk := hk <;> simp [hk]

theorem DriveState.takesRecal_iff {d : DriveState} : d.takesRecal = true ↔ d = .ready ∨ d = .blank ∨ d = .formatting := by
  cases d <;> simp [DriveState.takesRecal]

/-- The RECAL job that RECAL REQUEST posts (R52, R94). -/
def State.recalJob (s : State) (v : DriveNo) : Job :=
  { kind := .recal, cylinder := (s.drive v).cylinder, head := 0, stamp := s.g, rush := false, requester := .channel
    running := false, density := .mfm, fill := 0 }

/-- RECAL REQUEST at a drive that takes it and has no job (R94). -/
theorem Ctx.recalRequest_taken {c : Ctx} {v : DriveNo} (hs : (c.drive v).state.takesRecal = true)
    (hj : (c.drive v).sched.job = none) :
    ∃ j, ((c.recalRequest v).drive v).sched.job = some j ∧ j.kind = .recal ∧ j.cylinder = (c.drive v).cylinder := by
  have taken : c.recalRequest v = c.slotTaken v (c.recalJob v) := by
    simp [Ctx.recalRequest, Ctx.postJob, Ctx.slotTaken, State.recalJob, hs, hj]
  exact ⟨c.recalJob v, by rw [taken, Ctx.slotTaken_job], rfl, rfl⟩

theorem Channel.closeGate_owed (h : Channel) (g : Word) (v : DriveNo) : (h.closeGate g).owed v = h.owed v := by
  unfold Channel.closeGate
  split <;> rfl

/-- The drive and the owed mark as an attempt ends with no job on its drive: RECAL REQUEST is raised where the outcome owes a
recalibration (R52). -/
theorem Ctx.attemptCounted_owes {c : Ctx} (hj : (c.drive r.drive).sched.job = none) (away : (c.drive r.drive).Away r.drive) :
    ((c.attemptCounted (portOf r.drive) r o).drive r.drive).RecalWaits r.drive (c.drive r.drive).cylinder
    ∧ (((c.attemptCounted (portOf r.drive) r o).chan (portOf r.drive)).owed r.drive = true
        ↔ (c.chan (portOf r.drive)).owed r.drive = true ∨ owesRecal r o = true)
    ∧ (owesRecal r o = true → (c.drive r.drive).state.takesRecal = true →
        ((c.attemptCounted (portOf r.drive) r o).drive r.drive).sched.job.isSome = true) := by
  obtain ⟨rest, drive⟩ := (c.modChan (portOf r.drive) fun h => h.closeGate c.g).countOutcome_parts r o
  have counted : ((c.modChan (portOf r.drive) fun h => h.closeGate c.g).countOutcome r o).drive r.drive = { c.drive r.drive with
      health := ((c.outcomeCounters r o).foldl Health.count (c.drive r.drive).health) } := drive
  have chan : ((c.modChan (portOf r.drive) fun h => h.closeGate c.g).countOutcome r o).chan (portOf r.drive)
      = (c.chan (portOf r.drive)).closeGate c.g := by
    rw [rest]
    exact c.setChan_chan_self _ _
  unfold Ctx.attemptCounted Ctx.oweRecal
  generalize (c.modChan (portOf r.drive) fun h => h.closeGate c.g).countOutcome r o = c1 at counted chan
  by_cases owes : owesRecal r o = true
  · rw [if_pos owes]
    have drive2 : (c1.modChan (portOf r.drive) fun h => h.setOwed r.drive true).drive r.drive = c1.drive r.drive := rfl
    have job2 : ((c1.modChan (portOf r.drive) fun h => h.setOwed r.drive true).drive r.drive).sched.job = none := by
      rw [drive2, counted]
      exact hj
    have owed2 : ((c1.modChan (portOf r.drive) fun h => h.setOwed r.drive true).chan (portOf r.drive)).owed r.drive = true := by
      rw [Ctx.modChan, Ctx.setChan_chan_self, Channel.setOwed_owed]
    generalize (c1.modChan (portOf r.drive) fun h => h.setOwed r.drive true) = c2 at drive2 job2 owed2
    have jobs := c2.recalRequest_jobs r.drive
    have owed : ((c2.recalRequest r.drive).chan (portOf r.drive)).owed r.drive = true := by
      rw [State.chan_of_channels jobs.channels]
      exact owed2
    refine ⟨?_, ⟨fun _ => .inr owes, fun _ => owed⟩, fun _ takes => ?_⟩
    · by_cases takes : (c2.drive r.drive).state.takesRecal = true
      · obtain ⟨j, hj, kind, cylinder⟩ := Ctx.recalRequest_taken takes job2
        refine .inr ⟨⟨j, hj, kind, cylinder.trans ?_⟩, fun _ => ?_⟩
        · rw [drive2, counted]
        · unfold Drive.Away Drive.zeroLevel at away ⊢
          rw [jobs.drive, drive2, counted]
          exact away
      · rw [c2.recalRequest_untaken r.drive (by simpa using takes)]
        exact .inl job2
    · obtain ⟨j, hj, _⟩ := Ctx.recalRequest_taken (c := c2) (v := r.drive) (by rw [drive2, counted]; exact takes) job2
      rw [hj]
      rfl
  · rw [if_neg owes]
    refine ⟨.inl (by rw [counted]; exact hj), ?_, fun h => absurd h owes⟩
    rw [chan, Channel.closeGate_owed]
    exact ⟨.inl, fun h => h.resolve_right owes⟩

/-- A channel that becomes IDLE keeps its owed marks, and of its drives all but the restart holds. -/
theorem Ctx.toIdle_owed (c : Ctx) (p : PortNo) (v : DriveNo) : ((c.toIdle p).chan p).owed v = (c.chan p).owed v := by
  unfold Ctx.toIdle
  dsimp only
  split
  · exact (congrArg (Channel.owed · v) (c.setChan_chan_self p _)).trans (Channel.idled_owed _ _ v)
  · exact (congrArg (Channel.owed · v) (c.setChan_chan_self p _)).trans (Channel.idled_owed _ _ v)

theorem Ctx.toIdle_drive (c : Ctx) (p : PortNo) (v : DriveNo) :
    (c.toIdle p).drive v = { c.drive v with sched := ((c.toIdle p).drive v).sched } := by
  have cleared (c : Ctx) (w : DriveNo) : (c.modSched w fun x => { x with hold := false }).drive v
      = { c.drive v with sched := ((c.modSched w fun x => { x with hold := false }).drive v).sched } := by
    rw [Ctx.modSched, Ctx.modDrive, Ctx.setDrive_drive]
    split
    · next h =>
      subst h
      rfl
    · rfl
  unfold Ctx.toIdle
  dsimp only
  split
  · rw [Ctx.clearHolds, cleared _ (highDrive p), cleared _ (lowDrive p)]
    rfl
  · rfl

/-- Of the flux losses and the seek errors an attempt counts its own outcome (R53). -/
theorem State.outcomeCounters_early (hk : r.kind = .read ∨ r.kind = .check ∨ r.kind = .write) (ho : o.early) :
    ((s.outcomeCounters r o).countP fun k => k.index = 2) = (if o == .fluxLoss then 1 else 0)
    ∧ ((s.outcomeCounters r o).countP fun k => k.index = 3) = (if o == .seekError then 1 else 0) := by
  have good : ¬ o = .good := by
    rintro rfl
    exact absurd ho.failed.1 (by decide)
  obtain ⟨l, eq, ladder⟩ : ∃ l, s.outcomeCounters r o = (if o = .fluxLoss then [Counter.fluxLoss] else [])
      ++ (if o = .seekError then [Counter.seekError] else []) ++ l ∧ ∀ k ∈ l, k.index ≠ 2 ∧ k.index ≠ 3 := by
    refine ⟨_, rfl, fun k hm => ?_⟩
    obtain hk | hk | hk := hk
    all_goals
      simp [hk, good] at hm
      rw [hm.2]
      decide
  have none2 : l.countP (fun k => k.index = 2) = 0 := List.countP_eq_zero.mpr fun k hm => by simpa using (ladder k hm).1
  have none3 : l.countP (fun k => k.index = 3) = 0 := List.countP_eq_zero.mpr fun k hm => by simpa using (ladder k hm).2
  simp only [eq, List.countP_append, none2, none3]
  obtain rfl | rfl | rfl := ho <;> exact ⟨rfl, rfl⟩

/-- What a command leaves whose attempt failed before its data field. -/
structure State.AttemptFails (s : State) (p : PortNo) (r : Request) (f : FrameNo) (x : Sector)
    (o : Outcome) (t : State) : Prop where
  ends : s.SlotEnds f r.slot (x.afterFailed r) (s.frame f).area t
  owed : portOf r.drive = p → (s.drive r.drive).sched.job = none → (s.drive r.drive).Away r.drive →
    ((t.chan p).owed r.drive = true ↔ (s.chan p).owed r.drive = true ∨ r.owes (o == .seekError))
    ∧ (r.owes (o == .seekError) → (s.drive r.drive).state.takesRecal = true →
        ∃ j, (t.drive r.drive).sched.job = some j ∧ j.kind = .recal ∧ j.cylinder = (s.drive r.drive).cylinder)
  losses : (t.drive r.drive).health.counters[2]
    = if o == .fluxLoss then nextCount (s.drive r.drive).health.counters[2] else (s.drive r.drive).health.counters[2]
  seeks : (t.drive r.drive).health.counters[3]
    = if o == .seekError then nextCount (s.drive r.drive).health.counters[3] else (s.drive r.drive).health.counters[3]

section Ends
variable (nw : s.noneWaiting) (hk : r.kind = .read ∨ r.kind = .check ∨ r.kind = .write)
  (hx : s.sectorAt ⟨r.drive, r.cylinder, r.head⟩ r.slot = some (f, x)) (ho : o.early)
include hk hx ho nw

theorem Ctx.attempt_turns : ((Ctx.of s).attemptCounted p r o).SlotTurns f r.slot (x.afterFailed r) (s.frame f).area
    (((Ctx.of s).attemptCounted p r o).reportOutcome p r o) := by
  have frames : ((Ctx.of s).attemptCounted p r o).frames = s.frames := (Ctx.of s).attemptCounted_frames p r o
  rw [← State.frame_of_frames frames]
  exact Ctx.reportOutcome_failed hk ((State.sectorAt_of_frames frames _ _).trans hx) ho.failed.1
    (Ctx.attemptCounted_noneFill nw.2)

variable (hw : (s.chan p).work = some r)
include hw

/-- The owed mark and the RECAL job over the end of the command (R52). -/
theorem Ctx.endAttempt_owed (hp : portOf r.drive = p) (hj : (s.drive r.drive).sched.job = none)
    (away : (s.drive r.drive).Away r.drive) : let t := ((Ctx.of s).endAttempt p o).finish
    ((t.chan p).owed r.drive = true ↔ (s.chan p).owed r.drive = true ∨ owesRecal r o = true)
    ∧ (owesRecal r o = true → (s.drive r.drive).state.takesRecal = true →
        ∃ j, (t.drive r.drive).sched.job = some j ∧ j.kind = .recal ∧ j.cylinder = (s.drive r.drive).cylinder) := by
  have turns := Ctx.attempt_turns (p := p) nw hk hx ho
  subst hp
  obtain ⟨waits, owed, posted⟩ := Ctx.attemptCounted_owes (c := Ctx.of s) (o := o) hj away
  have ended : (Ctx.of s).endAttempt (portOf r.drive) o
      = (((Ctx.of s).attemptCounted (portOf r.drive) r o).reportOutcome (portOf r.drive) r o).toIdle (portOf r.drive) := by
    rw [Ctx.endAttempt_eq (c := Ctx.of s) hw, ho.failed.2]
    rfl
  dsimp only
  rw [ended]
  generalize (Ctx.of s).attemptCounted (portOf r.drive) r o = c2 at turns waits owed posted ⊢
  generalize c2.reportOutcome (portOf r.drive) r o = c3 at turns ⊢
  have idle := (c3.toIdle_drive (portOf r.drive) r.drive)
  have job := c3.toIdle_job (portOf r.drive) r.drive
  have told := turns.drives r.drive
  have tested := ((c3.toIdle (portOf r.drive)).tested_drive r.drive).1
  have job3 : ((c3.toIdle (portOf r.drive)).cascade.testDone.drive r.drive).sched.job = (c2.drive r.drive).sched.job := by
    rw [tested, job, told]
  have waits3 : ((c3.toIdle (portOf r.drive)).cascade.testDone.drive r.drive).RecalWaits r.drive (s.drive r.drive).cylinder :=
    waits.of_same job3 (by rw [tested, idle, told]) (by rw [tested, idle, told]) (by rw [tested, idle, told])
  have owed3 : ((c3.toIdle (portOf r.drive)).cascade.testDone.chan (portOf r.drive)).owed r.drive
      = (c2.chan (portOf r.drive)).owed r.drive := by
    rw [Ctx.tested_chan, Ctx.toIdle_owed, State.chan_of_channels turns.channels]
  obtain ⟨waits4, owed4, some4⟩ := (c3.toIdle (portOf r.drive)).finish_picked.owedStands waits3
  refine ⟨?_, fun owes takes => ?_⟩
  · exact (iff_of_eq (congrArg (· = true) (owed4.trans owed3))).trans owed
  · have held := posted owes takes
    rw [← job3, ← some4] at held
    obtain none | ⟨job, _⟩ := waits4
    · rw [none] at held
      cases held
    · exact job

theorem Ctx.endAttempt_fails : s.AttemptFails p r f x o ((Ctx.of s).endAttempt p o).finish := by
  obtain ⟨ends, _, counters⟩ := Ctx.endAttempt_turns (c := Ctx.of s) hw nw.1 nw.2 (Ctx.attempt_turns nw hk hx ho)
  obtain ⟨losses, seeks⟩ := State.outcomeCounters_early (s := s) hk ho
  refine ⟨ends, fun hp hj away => ?_, ?_, ?_⟩
  · rw [← owesRecal_iff hk ho]
    exact Ctx.endAttempt_owed nw hk hx ho hw hp hj away
  · have counted := counters 2 (by decide)
    rw [show (Ctx.of s).outcomeCounters r o = s.outcomeCounters r o from rfl, losses] at counted
    refine counted.trans ?_
    split <;> rfl
  · have counted := counters 3 (by decide)
    rw [show (Ctx.of s).outcomeCounters r o = s.outcomeCounters r o from rfl, seeks] at counted
    refine counted.trans ?_
    split <;> rfl

end Ends
end Failed

/-! #### The commands that end an attempt early -/

section Commands
variable {s : State} {p : PortNo} {r : Request} {f : FrameNo} {x : Sector}

theorem exec_dataMarkTimeout (hs : (s.chan p).state = .armed) (hw : (s.chan p).work = some r) (hk : r.kind.isSector = true)
    (hr : r.kind ≠ .write) {m : Word} (hf : (s.chan p).found = some m) : exec (.dataMarkTimeout p) s
      = if reached s.g ((s.chan p).dataMarkDue m) then .next ((Ctx.of s).endAttempt p .notFound).finish else .next s := by
  change execDataMarkTimeout p s = _
  have late : s.dataMarkLate p = reached s.g ((s.chan p).dataMarkDue m) := by
    simp [State.dataMarkLate, State.foundWork, hs, hw, hf, hk, hr]
  rw [execDataMarkTimeout, late]
  rfl

/-- A mark other than the data mark, where the data mark is awaited (R49). -/
theorem Ctx.markSeen_other (hs : (s.chan p).state = .armed) (hw : (s.chan p).work = some r) (hk : r.kind.isSector = true)
    (hr : r.kind ≠ .write) {m : Word} (hf : (s.chan p).found = some m) {mark : Byte} (hm : mark ≠ dataMark) (peak : Nat) :
    (Ctx.of s).markSeen p mark peak = .next ((Ctx.of s).endAttempt p .notFound).finish := by
  have other : ¬ (mark = dataMark ∧ reached (((Ctx.of s).chan p).dataMarkDue m) (Ctx.of s).g = true) := fun h => hm h.1
  rw [Ctx.markSeen_found hs hw hk hf, if_neg hr, Ctx.awaitedMark]
  rw [if_neg other]
  rfl

theorem exec_huntLimit (hs : (s.chan p).state = .armed) (hw : (s.chan p).work = some r) (hk : r.kind.isSector = true)
    (hf : (s.chan p).found = none) : exec (.huntLimit p) s
      = if s.huntOver p r then .next ((Ctx.of s).endAttempt p .notFound).finish else .next s := by
  change execHuntLimit p s = _
  have due : s.huntDue p = s.huntOver p r := by simp [State.huntDue, State.huntWork, hs, hw, hf, hk]
  rw [execHuntLimit, due]
  rfl

theorem exec_fluxLoss (hs : (s.chan p).state = .id ∨ (s.chan p).state = .data) (flux : List Flux) : exec (.fluxLoss p flux) s
    = if (s.chan p).settings.fluxLost (s.chan p).reference flux then .next ((Ctx.of s).endAttempt p .fluxLoss).finish
      else .next s := by
  change execFluxLoss p flux s = _
  rw [execFluxLoss]
  obtain hs | hs := hs
  · rw [hs]
    rfl
  · rw [hs]
    rfl

/-- No transition counts in the 64 cells (R47, log 26). -/
theorem Settings.fluxLost_iff (x : Settings) (reference : Nat) (flux : List Flux) :
    let eighth := (if x.density = .fm then 4000 else 2000) / 8
    let counted (y : Flux) : Prop := (match x.window with | .late => eighth | _ => 0) ≤ y.time
      ∧ y.time < (match x.window with | .early => 511 | .centre => 512 | .late => 513) * eighth
      ∧ x.threshold * reference ≤ 100 * y.amplitude
    x.fluxLost reference flux = true ↔ ∀ y ∈ flux, ¬ counted y := by
  have seen := x.seen_iff reference flux (x.window.shift - 1) (8 * syncCells + x.window.shift - 1)
  rw [Settings.eighth, Density.cellTime_eq] at seen
  dsimp only
  rw [Settings.fluxLost, Bool.not_eq_true', ← Bool.not_eq_true, seen]
  push Not
  cases x.window <;> simp [Window.shift, syncCells]

theorem State.huntOver_iff : s.huntOver p r = true ↔ ∃ period, workingPeriod (s.drive r.drive).timer.p16 = some period
    ∧ reached s.g ((s.chan p).arming + BitVec.ofNat 32 period) = true := by
  rw [State.huntOver]
  split
  · next period eq =>
    constructor
    · exact fun h => ⟨period, eq, h⟩
    · rintro ⟨q, hq, due⟩
      rw [eq] at hq
      cases hq
      exact due
  · next eq =>
    constructor
    · exact fun h => nomatch h
    · rintro ⟨q, hq, _⟩
      rw [eq] at hq
      cases hq

/-- An ID field of another sector, or on a drive without a layout, is not the granted one (R48). -/
theorem State.idMatches_false {id : IdRecord} (hx : s.sectorAt ⟨r.drive, r.cylinder, r.head⟩ r.slot = some (f, x))
    (h : id.cylinder.toNat ≠ r.cylinder ∨ id.head.toNat ≠ r.head ∨ id.sector.toNat ≠ x.number
      ∨ ∀ l, (s.drive r.drive).timer.active = some l → id.size.toNat ≠ l.sizeCode) : ¬ s.idMatches r id = true := by
  intro hm
  cases hl : (s.drive r.drive).timer.active with
  | none => simp [State.idMatches, hl] at hm
  | some l =>
    obtain ⟨cylinder, head, number, size⟩ := (State.idMatches_of hx hl).mp hm
    obtain h | h | h | h := h
    · exact h cylinder
    · exact h head
    · exact h number
    · exact h l hl size

/-- A field that is not the granted one, past the hunt's limit (R48). -/
theorem Ctx.judgeId_late {field : List Byte} (hm : ¬ (idGood field = true ∧ s.idMatches r (idOf field) = true))
    (hl : s.huntOver p r = true) : (Ctx.of s).judgeId p r field = (Ctx.of s).endAttempt p .notFound := by
  have other : ¬ (idGood field = true ∧ (Ctx.of s).idMatches r (idOf field) = true) := hm
  have past : (Ctx.of s).huntOver p r = true := hl
  rw [Ctx.judgeId]
  rw [if_neg other, if_pos past]

/-- A good field of another cylinder within the hunt's limit (R48). -/
theorem Ctx.judgeId_seekError {field : List Byte} (hg : idGood field = true) (hc : (idOf field).cylinder.toNat ≠ r.cylinder)
    (hl : ¬ s.huntOver p r = true) : (Ctx.of s).judgeId p r field = (Ctx.of s).endAttempt p .seekError := by
  have other : ¬ (idGood field = true ∧ (Ctx.of s).idMatches r (idOf field) = true) := fun h =>
    hc (State.idMatches_cylinder_head h.2).1
  have within : ¬ (Ctx.of s).huntOver p r = true := hl
  rw [Ctx.judgeId]
  rw [if_neg other, if_neg within, if_pos ⟨hg, hc⟩]

end Commands

/-- Settles O49: each command ends the attempt with its outcome or leaves the state, and an attempt that ended so leaves the
ladder's record, its counters, the owed mark and RECAL REQUEST. -/
theorem failedAttempts : Obligations.FailedAttempts := by
  intro p r f x s nw hw hk hx h old more d zero fails limit
  have sector : r.kind.isSector = true := WorkKind.isSector_of (hk.imp_right Or.symm)
  have failed (i : Instr) (o : Outcome) (ho : o.early) (runs : exec i s = .next ((Ctx.of s).endAttempt p o).finish) :
      fails i (o == .fluxLoss) (o == .seekError) := by
    obtain ⟨ends, owed, losses, seeks⟩ := Ctx.endAttempt_fails nw hk hx ho hw
    have turned := ends.sectors
    refine ⟨_, runs, fun kind reading => ?_, fun kind checking => ?_, fun kind writing => ?_, fun other => ?_,
      fun f' hf => (ends.others f' hf).1,
      fun hp hj away => ?_, losses, seeks⟩
    · rw [turned, Sector.afterFailed, kind]
      exact congrArg _ (if_pos reading)
    · rw [turned, Sector.afterFailed, kind]
      exact congrArg _ (if_pos checking)
    · rw [turned, Sector.afterFailed, kind]
      exact congrArg _ (if_pos writing)
    · have kept : x.afterFailed r = x := by
        unfold Sector.afterFailed
        obtain ⟨kind, other⟩ | ⟨kind, other⟩ | ⟨kind, other⟩ := other
        all_goals
          rw [kind]
          exact if_neg other
      obtain ⟨bound, at_slot⟩ := List.getElem?_eq_some_iff.mp (State.sectorAt_some hx)
      rw [turned, kept, ← at_slot, List.set_getElem_self]
    · have level : zero = (s.drive r.drive).zeroLevel r.drive := by
        dsimp only [zero, d, Drive.zeroLevel]
        cases (s.drive r.drive).lines.trackZero <;> rfl
      rw [level] at away
      obtain ⟨mark, posted⟩ := owed hp hj away
      exact ⟨mark, fun owes takes => posted owes (DriveState.takesRecal_iff.mpr takes)⟩
  have late : Outcome.notFound.early := .inl rfl
  refine ⟨fun m hs hf hr => ?_, fun period hs hf hp => ?_, fun flux hs => ?_, fun record high low id hi lo hs field => ?_⟩
  · have timeout := exec_dataMarkTimeout hs hw sector hr hf
    have due : (s.chan p).dataMarkDue m = limit m := by
      rw [Channel.dataMarkDue, Density.byteTime_eq]
      rfl
    rw [due] at timeout
    refine ⟨fun past => failed _ _ late (timeout.trans (if_pos past)), fun within => timeout.trans (if_neg (by simp [within])),
      fun flux peak mark => failed _ _ late ?_, fun sync signal mark peak seen other => failed _ _ late ?_⟩
    · refine (exec_idMarkSeen (sync := []) mark).trans ?_
      exact (if_pos rfl).trans (Ctx.markSeen_other hs hw sector hr hf (by decide) peak)
    · rw [exec_dataMarkSeen seen]
      exact Ctx.markSeen_other hs hw sector hr hf other peak
  · have hunt := exec_huntLimit hs hw sector hf
    refine ⟨fun past => failed _ _ late (hunt.trans (if_pos (State.huntOver_iff.mpr ⟨period, hp, past⟩))), fun within =>
      hunt.trans (if_neg fun past => ?_)⟩
    obtain ⟨q, hq, due⟩ := State.huntOver_iff.mp past
    rw [hp] at hq
    cases hq
    rw [within] at due
    cases due
  · have lost := (s.chan p).settings.fluxLost_iff (s.chan p).reference flux
    have runs := exec_fluxLoss hs flux
    refine ⟨fun none => failed _ .fluxLoss (.inr (.inr rfl)) (runs.trans (if_pos (lost.mpr none))), fun ⟨y, hy, counted⟩ =>
      runs.trans (if_neg fun none => lost.mp none y hy counted)⟩
  · have runs := exec_idFieldEnd_id (record := record) (high := high) (low := low) hs hw
    rw [show (s.chan p).read (record ++ high ++ low) 6 = _ from field] at runs
    have good := idGood_iff (id := id) (hi := hi) (lo := lo)
    refine ⟨fun hg hc within => ?_, fun other past => ?_⟩
    · rw [Ctx.judgeId_seekError (good.mpr hg) hc (mt State.huntOver_iff.mp within)] at runs
      exact failed _ .seekError (.inr (.inl rfl)) runs
    · rw [Ctx.judgeId_late ?_ (State.huntOver_iff.mpr past)] at runs
      · exact failed _ _ late runs
      · rintro ⟨hg, hm⟩
        exact other.elim (fun bad => bad (good.mp hg)) fun other => State.idMatches_false hx other hm

end Sys2Proof.Machine

-- ==== Sys2Proof/Proofs/PicksAtRest.lean ====
namespace Sys2Proof.Machine

open Sys2Proof

/-! ### Pick points with no release round: which drives and channels they leave (R99, R106) -/

section Kinds
variable {s : State} {v : DriveNo} {x : Cand}

/-- A candidate of a track kind is the drive's job, pending (R93). -/
theorem State.cands_job (h : x ∈ s.cands v) (hk : x.kind = .recal ∨ x.kind = .discover) :
    ∃ j, (s.drive v).sched.job = some j ∧ x.kind = j.kind := by
  unfold State.cands at h
  obtain hf | hj := List.mem_append.mp h
  · obtain ⟨l, hl, hxl⟩ := List.mem_flatten.mp hf
    obtain ⟨fr, _, rfl⟩ := List.mem_map.mp hl
    unfold Frame.cands at hxl
    obtain ⟨i, _, hi⟩ := List.mem_filterMap.mp hxl
    split at hi
    · cases hi
    · obtain ⟨k, sector, rfl⟩ := Option.map_eq_some_iff.mp hi
      unfold candKind at sector
      dsimp only at hk
      split at sector
      all_goals
        cases sector
      all_goals
        obtain hk | hk := hk <;> cases hk
  · split at hj
    · next j hj' =>
      split at hj
      · cases hj
      · exact ⟨j, hj', by rw [List.mem_singleton.mp hj]⟩
    · cases hj

theorem CtlState.serves_stopped {k : WorkKind} (h : CtlState.stopped.serves k = true) : k = .recal ∨ k = .discover := by
  cases k <;> simp [CtlState.serves] at h ⊢

/-- In STOPPED a drive is served its RECAL and DISCOVER jobs alone (R95). -/
theorem State.served_stopped (hc : s.ctl = .stopped) (h : x ∈ s.served v) : x.kind = .recal ∨ x.kind = .discover := by
  have serves := (List.mem_filter.mp h).2
  rw [hc, Bool.and_eq_true] at serves
  exact CtlState.serves_stopped serves.2

/-- In STOPPED a drive without a job is served nothing. -/
theorem State.served_stopped_none (hc : s.ctl = .stopped) (hj : (s.drive v).sched.job = none) : s.served v = [] := by
  refine List.eq_nil_iff_forall_not_mem.mpr fun x hx => ?_
  obtain ⟨j, job, _⟩ := State.cands_job (List.mem_of_mem_filter hx) (State.served_stopped hc hx)
  rw [hj] at job
  cases job

/-- A RECAL candidate is never filed: it is picked first (R98). -/
theorem State.pick_file_kind {t : Option Place} {cost : Nat} {overdue armPick : Bool}
    (h : s.pick v t = .file x cost overdue armPick) : x.kind ≠ .recal := by
  have served := State.pick_served.2 cost overdue armPick h
  unfold State.pick at h
  dsimp only at h
  split at h
  · cases h
  · split at h
    · cases h
    · next others =>
      rw [List.any_eq_true] at others
      exact fun recal => others ⟨x, served, by rw [recal]; rfl⟩

end Kinds

/-! #### What acting on a pick leaves -/

section Walk
variable {c : Ctx} {p : PortNo} {v : DriveNo}

/-- What each action on a pick keeps, the pick keeps. -/
theorem Ctx.pickN_keeps {P : Ctx → Prop} (quiet : ∀ c, P c → P (c.modSched v fun x => { x with state := .quiet }))
    (recal : ∀ c, P c → P (c.recalPick v)) (move : ∀ c x, P c → P (c.movePick v x))
    (file : ∀ c x armPick r, P c → x ∈ c.served v → x.kind ≠ .recal → r.drive = v → r.kind = x.kind →
      P ((c.filePick v x armPick).fileRequest r)) :
    ∀ (n : Nat) (c : Ctx) (t : Option Place), P c → P (c.pickN n v t)
  | 0, _, _, h => h
  | n + 1, c, t, h => by
    unfold Ctx.pickN
    dsimp only
    split
    · exact quiet c h
    · split
      · have act : P (c.recalPick v) := recal c h
        split
        · exact Ctx.pickN_keeps quiet recal move file n _ none act
        · exact act
      · exact quiet c h
    · split
      · exact move c _ h
      · exact quiet c h
    · next x cost overdue armPick hp =>
      exact file c x armPick _ h (State.pick_served.2 cost overdue armPick hp) (State.pick_file_kind hp) rfl rfl

theorem Ctx.recalJobDone_chan_ne (c : Ctx) (h : p ≠ portOf v) : (c.recalJobDone v).chan p = c.chan p := by
  have ended : ((c.modChan (portOf v) fun h => h.setOwed v false).jobEnded v).chan p = c.chan p := by
    rw [State.chan_of_channels (Ctx.jobEnded_jobs _ v).channels, Ctx.modChan, Ctx.setChan_chan, if_neg h]
  unfold Ctx.recalJobDone
  split
  · split
    · dsimp only
      split
      · split
        · exact ended
        · rw [State.chan_of_channels (Ctx.flagPick_jobs _ v).channels]
          exact ended
      · exact ended
    · rfl
  · rfl

theorem Ctx.recalPick_chan_ne (c : Ctx) (h : p ≠ portOf v) : (c.recalPick v).chan p = c.chan p := by
  have withdrawn : ((c.withdraw v).modSched v fun x => { x with
      state := .recalibrating, idle := 0, job := x.job.map fun j => { j with running := true } }).chan p = c.chan p :=
    (Ctx.setChan_chan _ _ _ _).trans (if_neg h)
  unfold Ctx.recalPick Ctx.startRecal Ctx.recalSucceeded
  dsimp only
  split
  · split
    · rw [Ctx.recalJobDone_chan_ne _ h]
      exact withdrawn
    · rw [Ctx.startSeek_chan]
      exact withdrawn
  · exact withdrawn

theorem Ctx.fileRequest_chan_ne (c : Ctx) {r : Request} (h : p ≠ portOf r.drive) : (c.fileRequest r).chan p = c.chan p := by
  unfold Ctx.fileRequest
  dsimp only
  split
  · rw [Ctx.grant_chan_ne _ _ h]
    rfl
  · rw [Ctx.modChan, Ctx.setChan_chan, if_neg h]
    rfl

theorem Ctx.fileRequest_drive_ne (c : Ctx) {r : Request} (h : v ≠ r.drive) : (c.fileRequest r).drive v = c.drive v := by
  have filed : (c.modSched r.drive fun x => { x with state := .filed }).drive v = c.drive v :=
    (c.modSched_jobs r.drive _).others v h
  unfold Ctx.fileRequest
  dsimp only
  split
  · rw [Ctx.grant_drive, if_neg h]
    exact filed
  · exact filed

/-- A pick point leaves the other drives and the other port's channel. -/
theorem Ctx.pickPoint_others (c : Ctx) (v : DriveNo) :
    (∀ w, w ≠ v → (c.pickPoint v).drive w = c.drive w) ∧ ∀ p, p ≠ portOf v → (c.pickPoint v).chan p = c.chan p := by
  unfold Ctx.pickPoint
  dsimp only
  split
  · refine Ctx.pickN_keeps (P := fun c' => (∀ w, w ≠ v → c'.drive w = c.drive w) ∧ ∀ p, p ≠ portOf v → c'.chan p = c.chan p)
      (fun c' ⟨drives, chans⟩ => ⟨fun w hw => ((c'.modSched_jobs v _).others w hw).trans (drives w hw), chans⟩)
      (fun c' ⟨drives, chans⟩ => ⟨fun w hw => ((c'.recalPick_atPick v).others w hw).trans (drives w hw),
        fun p hp => (c'.recalPick_chan_ne hp).trans (chans p hp)⟩)
      (fun c' x ⟨drives, chans⟩ => ⟨fun w hw => ((c'.movePick_atPick v x).others w hw).trans (drives w hw),
        fun p hp => (c'.movePick_chan v x p).trans (chans p hp)⟩)
      (fun c' x armPick r ⟨drives, chans⟩ _ _ hr _ => ⟨fun w hw => ?_, fun p hp => ?_⟩) 3 c none ⟨fun _ _ => rfl, fun _ _ => rfl⟩
    · rw [Ctx.fileRequest_drive_ne _ (hr ▸ hw)]
      exact ((c'.filePick_atPick v x armPick).others w hw).trans (drives w hw)
    · rw [Ctx.fileRequest_chan_ne _ (hr ▸ hp), Ctx.filePick_chan]
      exact chans p hp
  · exact ⟨fun _ _ => rfl, fun _ _ => rfl⟩

/-! #### A drive at rest: under a restart hold, or served nothing -/

/-- The drive's pick point finds nothing to do. -/
def Ctx.AtRest (c : Ctx) (v : DriveNo) : Prop := (c.drive v).sched.hold = true ∨ c.served v = []

theorem Ctx.setDrive_self (c : Ctx) (v : DriveNo) : c.setDrive v (c.drive v) = c := by
  simp [Ctx.setDrive, State.drive]

theorem Ctx.AtRest.pickPoint (h : c.AtRest v) : c.pickPoint v = c := by
  unfold Ctx.pickPoint
  dsimp only
  split
  · next picks =>
    obtain ⟨quiet, free⟩ := picks
    have served := h.resolve_left fun hold => by simp [hold] at free
    have same : ({ c.drive v with sched := { (c.drive v).sched with state := .quiet } } : Drive) = c.drive v := by rw [← quiet]
    unfold Ctx.pickNow Ctx.pickN
    rw [State.pick_nothing served]
    dsimp only
    rw [Ctx.modSched, Ctx.modDrive, same, Ctx.setDrive_self]
  · rfl

/-- A drive at rest is so after the pick points of others. -/
theorem Ctx.AtRest.others (h : c.AtRest v) {w : DriveNo} (hw : v ≠ w) : (c.pickPoint w).AtRest v := by
  have same := (c.pickPoint_others w).1 v hw
  refine h.imp (fun hold => by rw [same]; exact hold) fun served => ?_
  rw [State.served_eq (congrArg StoreView.frames (c.pickPoint_store w)) (State.view_ctl (c.pickPoint_view w)) (by rw [same])
    (by rw [same])]
  exact served

theorem Ctx.AtRest.next (h : c.AtRest v) (w : DriveNo) : (c.pickPoint w).AtRest v := by
  by_cases hw : v = w
  · subst hw
    rw [h.pickPoint]
    exact h
  · exact h.others hw

/-- Pick points leave a drive at rest. -/
theorem Ctx.pickPoints_drive (l : List DriveNo) : ∀ c : Ctx, c.AtRest v →
    (l.foldl (fun c w => c.pickPoint w) c).drive v = c.drive v := by
  induction l with
  | nil => exact fun _ _ => rfl
  | cons w l ih =>
    intro c h
    rw [List.foldl_cons, ih _ (h.next w)]
    by_cases hw : v = w
    · subst hw
      rw [h.pickPoint]
    · exact (c.pickPoint_others w).1 v hw

/-- Pick points leave the channel of a port whose drives are at rest. -/
theorem Ctx.pickPoints_chan (l : List DriveNo) : ∀ c : Ctx, (∀ v, portOf v = p → c.AtRest v) →
    (l.foldl (fun c w => c.pickPoint w) c).chan p = c.chan p := by
  induction l with
  | nil => exact fun _ _ => rfl
  | cons w l ih =>
    intro c h
    rw [List.foldl_cons, ih _ fun v hv => (h v hv).next w]
    by_cases hw : portOf w = p
    · rw [(h w hw).pickPoint]
    · exact (c.pickPoint_others w).2 p (Ne.symm hw)

/-! #### A channel in STOPPED -/

/-- A channel that was cleared, and since may have been granted a DISCOVER job. -/
structure Channel.Cleared (h : Channel) : Prop where
  staging : h.staging = []
  listen : h.listen = []
  round : h.roundOpen = false
  across : h.acrossRestart = false
  work : h.state = .idle ∨ (h.state = .selecting ∧ ∃ r, h.work = some r ∧ r.kind = .discover)

theorem Channel.Cleared.quieter {h h' : Channel} (a : h.Quieter h') (hc : h.Cleared) : h'.Cleared := by
  rw [a.rest]
  exact ⟨hc.staging, hc.listen, hc.round, hc.across, hc.work⟩

theorem Channel.Cleared.setPend {h : Channel} (hc : h.Cleared) (w : DriveNo) (r : Option Request) : (h.setPend w r).Cleared := by
  unfold Channel.setPend
  split
  · exact ⟨hc.staging, hc.listen, hc.round, hc.across, hc.work⟩
  · exact ⟨hc.staging, hc.listen, hc.round, hc.across, hc.work⟩

theorem Ctx.fileRequest_cleared {r : Request} (h : (c.chan p).Cleared) (hr : r.kind = .discover) :
    ((c.fileRequest r).chan p).Cleared := by
  by_cases hp : p = portOf r.drive
  · subst hp
    unfold Ctx.fileRequest
    dsimp only
    split
    · rw [Ctx.grant, Ctx.modSched, Ctx.modDrive, Ctx.setDrive_chan, Ctx.setChan_chan_self]
      exact ⟨rfl, h.listen, h.round, h.across, .inr ⟨rfl, r, rfl, hr⟩⟩
    · rw [Ctx.modChan, Ctx.setChan_chan_self]
      exact h.setPend _ _
  · rw [c.fileRequest_chan_ne hp]
    exact h

theorem Ctx.pickPoint_cleared (hc : c.ctl = .stopped) (h : (c.chan p).Cleared) (v : DriveNo) :
    ((c.pickPoint v).chan p).Cleared := by
  unfold Ctx.pickPoint
  dsimp only
  split
  · refine (Ctx.pickN_keeps (P := fun c' => c'.ctl = .stopped ∧ (c'.chan p).Cleared) (fun _ h => h)
      (fun c' ⟨ctl, h⟩ => ?_) (fun c' x ⟨ctl, h⟩ => ?_) (fun c' x armPick r ⟨ctl, h⟩ hx nr _ hr => ?_) 3 c none ⟨hc, h⟩).2
    · exact ⟨by rw [(c'.recalPick_atPick v).rest]; exact ctl, .quieter ((c'.recalPick_atPick v).channels p) h⟩
    · exact ⟨by rw [(c'.movePick_atPick v x).rest]; exact ctl, .quieter ((c'.movePick_atPick v x).channels p) h⟩
    · have discover : r.kind = .discover := hr.trans ((State.served_stopped ctl hx).resolve_left nr)
      refine ⟨?_, Ctx.fileRequest_cleared (.quieter ((c'.filePick_atPick v x armPick).channels p) h) discover⟩
      rw [State.view_ctl (Ctx.fileRequest_view _ r), (c'.filePick_atPick v x armPick).rest]
      exact ctl
  · exact h

theorem Ctx.pickPoints_cleared (l : List DriveNo) : ∀ c : Ctx, c.ctl = .stopped → (c.chan p).Cleared →
    ((l.foldl (fun c w => c.pickPoint w) c).chan p).Cleared := by
  induction l with
  | nil => exact fun _ _ h => h
  | cons w l ih =>
    exact fun c hc h => ih _ ((State.view_ctl (c.pickPoint_view w)).trans hc) (Ctx.pickPoint_cleared hc h w)

/-- A command that leaves no report and no release round ends with its pick points. -/
theorem Ctx.finish_pickPoints (hc : c.calm) (ready : c.readyOrder? = none) (serve : c.serve = false) (rounds : c.rounds = []) :
    c.finish = (c.picks.foldl (fun (c : Ctx) v => c.pickPoint v) { c with picks := [] }).toState := by
  unfold Ctx.finish
  rw [c.cascade_none ready serve, Ctx.testDone_id c hc.1 hc.2, Ctx.picksAndRounds, rounds]
  simp only [List.foldl_nil]

end Walk
end Sys2Proof.Machine

-- ==== Sys2Proof/Proofs/Restarts.lean ====
namespace Sys2Proof.Machine

open Sys2Proof

/-! ### RESTART (R39, R62, R90, R106, R128, R174, R187) -/

/-! #### A job slot that is freed and posted into again (R62, R94) -/

section Relisten
variable {c : Ctx} {v w : DriveNo} {d d' d'' : Drive}

/-- Of a drive the job slot changes, with who waits for it, and the marks. -/
def Drive.Listed (d d' : Drive) : Prop :=
  d' = { d with health := d'.health, sched := { d.sched with job := d'.sched.job, busy := d'.sched.busy } }

theorem Drive.Listed.trans (h : d.Listed d') (h' : d'.Listed d'') : d.Listed d'' := by
  rw [Drive.Listed, h', h]

theorem Ctx.postJob_listed (c : Ctx) (v : DriveNo) (j : Job) : (c.drive v).Listed ((c.postJob v j).2.drive v) := by
  unfold Ctx.postJob
  dsimp only
  split
  · rfl
  · split
    · rfl
    · split
      · split
        · rfl
        · rw [Ctx.modSched, Ctx.modDrive, Ctx.setDrive_drive_self]
          rfl
      · rw [Ctx.flagPick_drive, Ctx.raiseMarks, Ctx.modDrive, Ctx.setDrive_drive_self, Ctx.modSched, Ctx.modDrive,
          Ctx.setDrive_drive_self]
        rfl

theorem Ctx.slotFreeTo_listed (c : Ctx) (v : DriveNo) (r : Requester) : (c.drive v).Listed ((c.slotFreeTo v r).drive v) := by
  by_cases h : r = .driveControl ∧ (c.drive v).state = .discovery
  · obtain ⟨rfl, discovery⟩ := h
    rw [Ctx.slotFreeTo, if_pos discovery]
    exact c.postJob_listed v _
  · rw [c.slotFreeTo_drive v r fun h1 h2 => h ⟨h1, h2⟩]
    rfl

theorem Ctx.jobEnded_listed (c : Ctx) (v : DriveNo) : (c.drive v).Listed ((c.jobEnded v).drive v) := by
  have told : ∀ (rs : List Requester) (c : Ctx), (c.drive v).Listed ((rs.foldl (fun c r => c.slotFreeTo v r) c).drive v) := by
    intro rs
    induction rs with
    | nil => exact fun _ => rfl
    | cons r rs ih => exact fun c => (c.slotFreeTo_listed v r).trans (ih _)
  have freed : (c.drive v).Listed ((c.modSched v fun x => { x with job := none, busy := [] }).drive v) := by
    rw [Ctx.modSched, Ctx.modDrive, Ctx.setDrive_drive_self]
    rfl
  exact freed.trans (told _ _)

/-- Drive Control's DISCOVER job of the present revolution is posted (R20). -/
def Drive.Discovers (d : Drive) : Prop :=
  ∃ j, d.sched.job = some j ∧ j.kind = .discover ∧ j.requester = .driveControl ∧ j.density = revolutionDensity d.revolution

theorem Ctx.postDiscover_discovers (h : (c.drive v).sched.job = none ∨ (c.drive v).Discovers) :
    ((c.postDiscover v).drive v).Discovers := by
  unfold Ctx.postDiscover Ctx.postJob
  obtain free | ⟨j, held, discovers⟩ := h
  · simp only [free]
    rw [if_neg (by simp), if_neg (by simp), Ctx.flagPick_drive, Ctx.raiseMarks, Ctx.modDrive, Ctx.setDrive_drive_self,
      Ctx.modSched, Ctx.modDrive, Ctx.setDrive_drive_self]
    exact ⟨_, rfl, rfl, rfl, rfl⟩
  · simp only [held]
    rw [if_neg (by simp), if_neg (by simp), if_neg (by simp), Ctx.modSched, Ctx.modDrive, Ctx.setDrive_drive_self]
    exact ⟨j, held, discovers⟩

/-- A listening revolution is posted again at a restart (R62). -/
def Ctx.relisten (c : Ctx) (v : DriveNo) (x : Density) : Ctx := (c.jobEnded v).discoveryReport v x none

theorem Ctx.relisten_eq (c : Ctx) (v : DriveNo) (x : Density) :
    c.relisten v x = if (c.drive v).state = .discovery then (c.jobEnded v).postDiscover v else c.jobEnded v := by
  unfold Ctx.relisten Ctx.discoveryReport
  dsimp only
  rw [(c.jobEnded_jobs v).state]
  by_cases here : (c.drive v).state = .discovery
  · rw [if_pos here, if_neg (not_not.mpr here)]
  · rw [if_neg here, if_pos here]

theorem Ctx.relisten_jobs (c : Ctx) (v : DriveNo) (x : Density) : c.Jobs v (c.relisten v x) := by
  rw [Ctx.relisten_eq]
  split
  · exact (c.jobEnded_jobs v).trans (Ctx.postDiscover_jobs _ v)
  · exact c.jobEnded_jobs v

theorem Ctx.relisten_listed (c : Ctx) (v : DriveNo) (x : Density) : (c.drive v).Listed ((c.relisten v x).drive v) := by
  rw [Ctx.relisten_eq]
  split
  · exact (c.jobEnded_listed v).trans (Ctx.postJob_listed _ v _)
  · exact c.jobEnded_listed v

theorem Ctx.relisten_view (c : Ctx) (v : DriveNo) (x : Density) : (c.relisten v x).view = c.view := by
  rw [Ctx.relisten_eq]
  split
  · simp
  · simp

theorem Ctx.relisten_store (c : Ctx) (v : DriveNo) (x : Density) : (c.relisten v x).store = c.store := by
  rw [Ctx.relisten_eq]
  split
  · exact (Ctx.postJob_store _ v _).trans (c.jobEnded_store v)
  · exact c.jobEnded_store v

/-- In DISCOVERY the job is posted again, elsewhere the slot is free. -/
theorem Ctx.relisten_job (c : Ctx) (v : DriveNo) (x : Density) :
    ((c.drive v).state = .discovery → ((c.relisten v x).drive v).Discovers)
    ∧ ((c.drive v).state ≠ .discovery → ((c.relisten v x).drive v).sched.job = none) := by
  have told : ∀ (rs : List Requester) (c : Ctx), (c.drive v).sched.job = none ∨ (c.drive v).Discovers →
      ((rs.foldl (fun c r => c.slotFreeTo v r) c).drive v).sched.job = none
        ∨ ((rs.foldl (fun c r => c.slotFreeTo v r) c).drive v).Discovers := by
    intro rs
    induction rs with
    | nil => exact fun _ h => h
    | cons r rs ih =>
      intro c h
      refine ih _ ?_
      by_cases hr : r = .driveControl ∧ (c.drive v).state = .discovery
      · obtain ⟨rfl, discovery⟩ := hr
        have posts : c.slotFreeTo v .driveControl = c.postDiscover v := if_pos discovery
        simp only [posts]
        exact .inr (Ctx.postDiscover_discovers h)
      · rw [c.slotFreeTo_drive v r fun h1 h2 => hr ⟨h1, h2⟩]
        exact h
  rw [Ctx.relisten_eq]
  refine ⟨fun here => ?_, fun away => ?_⟩
  · rw [if_pos here]
    refine Ctx.postDiscover_discovers (told _ _ (.inl ?_))
    rw [Ctx.modSched, Ctx.modDrive, Ctx.setDrive_drive_self]
  · rw [if_neg away, c.jobEnded_drive v fun _ => away]

end Relisten

/-! #### A restart at a port (R62, R106) -/

section Ports
variable {c c' : Ctx} {p : PortNo}

/-- The port's work runs on across a restart: an open gate, or a track that is being formatted (R62). -/
def Channel.RunsOn (h : Channel) : Prop := ∃ r, h.work = some r ∧ (h.state = .gate ∨ r.kind = .formatTrack)

/-- The port's work is a listening revolution on this drive, which a restart posts again. -/
def Channel.Relistens (h : Channel) (v : DriveNo) : Prop :=
  ∃ r, h.work = some r ∧ h.state ≠ .gate ∧ r.kind = .discover ∧ r.drive = v

/-- The channel of work that runs on across a restart. -/
def Channel.across (h : Channel) : Channel :=
  { h with acrossRestart := true, listen := [], pendLow := none, pendHigh := none, roundOpen := false }

/-- What a restart at a port leaves. -/
structure Ctx.PortRestarts (c : Ctx) (p : PortNo) (c' : Ctx) : Prop where
  rest : c' = { c with channels := c'.channels, drives := c'.drives, table := c'.table, picks := c'.picks }
  view : c'.view = c.view
  store : c'.store = c.store
  others : ∀ q, q ≠ p → c'.chan q = c.chan q
  runsOn : (c.chan p).RunsOn → c'.chan p = (c.chan p).across
  idled : ¬ (c.chan p).RunsOn → c'.chan p = (c.chan p).idled false
  drive : ∀ v, c'.drive v = { c.drive v with
    health := (c'.drive v).health
    sched := { (c.drive v).sched with
      job := (c'.drive v).sched.job, busy := (c'.drive v).sched.busy, hold := (c'.drive v).sched.hold } }
  hold : ∀ v, portOf v ≠ p ∨ (c.chan p).RunsOn → (c'.drive v).sched.hold = (c.drive v).sched.hold
  job : ∀ v, ¬ (c.chan p).Relistens v → (c'.drive v).sched.job = (c.drive v).sched.job
  discovers : ∀ v, (c.chan p).Relistens v → (c.drive v).state = .discovery → (c'.drive v).Discovers
  free : ∀ v, (c.chan p).Relistens v → (c.drive v).state ≠ .discovery → (c'.drive v).sched.job = none

theorem Ctx.clearHolds_drive (c : Ctx) (p : PortNo) (v : DriveNo) : (c.clearHolds p).drive v = { c.drive v with
    sched := { (c.drive v).sched with hold := if portOf v = p then false else (c.drive v).sched.hold } } := by
  have low : portOf v = p ↔ v = lowDrive p ∨ v = highDrive p := by
    revert v p
    decide
  simp only [Ctx.clearHolds, Ctx.modSched, Ctx.modDrive, Ctx.setDrive_drive, low]
  by_cases h : v = highDrive p
  · subst h
    have ne : highDrive p ≠ lowDrive p := by
      revert p
      decide
    simp [ne]
  · by_cases h' : v = lowDrive p
    · subst h'
      simp [h]
    · simp [h, h']

/-- A channel without work that runs on, cleared, with the holds of its drives. -/
def Ctx.portCleared (c : Ctx) (p : PortNo) : Ctx := (c.setChan p ((c.chan p).idled false)).clearHolds p

theorem Ctx.portCleared_drive (c : Ctx) (p : PortNo) (v : DriveNo) : (c.portCleared p).drive v = { c.drive v with
    sched := { (c.drive v).sched with hold := if portOf v = p then false else (c.drive v).sched.hold } } :=
  Ctx.clearHolds_drive _ p v

theorem Ctx.portCleared_restarts (h : ¬ (c.chan p).RunsOn) (none : ∀ v, ¬ (c.chan p).Relistens v) :
    c.PortRestarts p (c.portCleared p) := by
  refine ⟨rfl, Ctx.clearHolds_view _ p, rfl, fun q hq => Ctx.setChan_chan_ne _ _ _ _ hq, fun on => absurd on h,
    fun _ => Ctx.setChan_chan_self _ _ _, fun v => ?_, fun v away => ?_, fun v _ => ?_, fun v hv => absurd hv (none v),
    fun v hv => absurd hv (none v)⟩
  all_goals rw [Ctx.portCleared_drive]
  exact if_neg (away.resolve_right h)

theorem Ctx.across_restarts (h : (c.chan p).RunsOn) : c.PortRestarts p (c.setChan p (c.chan p).across) := by
  obtain ⟨r, work, on⟩ := id h
  have none (v : DriveNo) : ¬ (c.chan p).Relistens v := by
    rintro ⟨r', work', gate, kind, _⟩
    rw [work] at work'
    cases work'
    obtain open' | track := on
    · exact gate open'
    · rw [kind] at track
      cases track
  exact ⟨rfl, rfl, rfl, fun q hq => Ctx.setChan_chan_ne _ _ _ _ hq, fun _ => Ctx.setChan_chan_self _ _ _, fun off => absurd h off,
    fun _ => rfl, fun _ _ => rfl, fun _ _ => rfl, fun v hv => absurd hv (none v), fun v hv => absurd hv (none v)⟩

theorem Ctx.relisten_restarts {r : Request} (hw : (c.chan p).work = some r) (hg : (c.chan p).state ≠ .gate)
    (hk : r.kind = .discover) : c.PortRestarts p ((c.portCleared p).relisten r.drive r.density) := by
  have off : ¬ (c.chan p).RunsOn := by
    rintro ⟨r', work', on⟩
    rw [hw] at work'
    cases work'
    obtain open' | track := on
    · exact hg open'
    · rw [hk] at track
      cases track
  have here {v : DriveNo} (h : (c.chan p).Relistens v) : v = r.drive := by
    obtain ⟨r', work', _, _, rfl⟩ := h
    rw [hw] at work'
    cases work'
    rfl
  have cleared := c.portCleared_drive p
  have jobs := (c.portCleared p).relisten_jobs r.drive r.density
  have job := (c.portCleared p).relisten_job r.drive r.density
  have drive (v : DriveNo) : (((c.portCleared p).drive v)).Listed (((c.portCleared p).relisten r.drive r.density).drive v) := by
    by_cases hv : v = r.drive
    · subst hv
      exact (c.portCleared p).relisten_listed r.drive r.density
    · rw [jobs.others v hv]
      rfl
  refine ⟨by rw [jobs.rest]; rfl, ((c.portCleared p).relisten_view _ _).trans (Ctx.clearHolds_view _ p),
    (c.portCleared p).relisten_store _ _, fun q hq => ?_, fun on => absurd on off, fun _ => ?_, fun v => ?_, fun v away => ?_,
    fun v hv => ?_, fun v hv hs => ?_, fun v hv hs => ?_⟩
  · rw [State.chan_of_channels jobs.channels]
    exact Ctx.setChan_chan_ne _ _ _ _ hq
  · rw [State.chan_of_channels jobs.channels]
    exact Ctx.setChan_chan_self _ _ _
  · rw [drive v, cleared]
  · rw [drive v, cleared]
    exact if_neg (away.resolve_right off)
  · have ne : v ≠ r.drive := fun h => hv ⟨r, hw, hg, hk, h.symm⟩
    rw [jobs.others v ne, cleared]
  · rw [here hv]
    exact job.1 (by rw [cleared, ← here hv]; exact hs)
  · rw [here hv]
    exact job.2 (by rw [cleared, ← here hv]; exact hs)

theorem Ctx.channelRestart_restarts (c : Ctx) (p : PortNo) : c.PortRestarts p (c.channelRestart p) := by
  unfold Ctx.channelRestart
  dsimp only
  split
  · next free =>
    refine Ctx.portCleared_restarts ?_ fun v => ?_
    · rintro ⟨r, work, _⟩
      rw [free] at work
      cases work
    · rintro ⟨r, work, _⟩
      rw [free] at work
      cases work
  · next r work =>
    split
    · next on => exact Ctx.across_restarts ⟨r, work, on⟩
    · next off =>
      split
      · next discover => exact Ctx.relisten_restarts work (fun gate => off (.inl gate)) discover
      · next other =>
        refine Ctx.portCleared_restarts ?_ fun v => ?_
        · rintro ⟨r', work', on⟩
          rw [work] at work'
          cases work'
          exact off on
        · rintro ⟨r', work', _, discover, _⟩
          rw [work] at work'
          cases work'
          exact other discover

/-- What a restart at both ports leaves. -/
structure Ctx.PortsRestart (c c' : Ctx) : Prop where
  rest : c' = { c with channels := c'.channels, drives := c'.drives, table := c'.table, picks := c'.picks }
  view : c'.view = c.view
  store : c'.store = c.store
  runsOn : ∀ p, (c.chan p).RunsOn → c'.chan p = (c.chan p).across
  idled : ∀ p, ¬ (c.chan p).RunsOn → c'.chan p = (c.chan p).idled false
  drive : ∀ v, c'.drive v = { c.drive v with
    health := (c'.drive v).health
    sched := { (c.drive v).sched with
      job := (c'.drive v).sched.job, busy := (c'.drive v).sched.busy, hold := (c'.drive v).sched.hold } }
  hold : ∀ v, (c.chan (portOf v)).RunsOn → (c'.drive v).sched.hold = (c.drive v).sched.hold
  job : ∀ v, (∀ p, ¬ (c.chan p).Relistens v) → (c'.drive v).sched.job = (c.drive v).sched.job
  discovers : ∀ v p, (c.chan p).Relistens v → (c.drive v).state = .discovery → (c'.drive v).Discovers
  free : ∀ v p, (c.chan p).Relistens v → (c.drive v).state ≠ .discovery → (c'.drive v).sched.job = none

theorem port_cases (p : PortNo) : p = 0 ∨ p = 1 := by
  revert p
  decide

theorem Ctx.PortRestarts.both {c c1 c2 : Ctx} (a : c.PortRestarts 0 c1) (b : c1.PortRestarts 1 c2) : c.PortsRestart c2 := by
  have chan1 : c1.chan 1 = c.chan 1 := a.others 1 (by decide)
  have chan0 : c2.chan 0 = c1.chan 0 := b.others 0 (by decide)
  have state (v : DriveNo) : (c1.drive v).state = (c.drive v).state := by rw [a.drive]
  have kept {v : DriveNo} (h : (c1.drive v).Discovers) (off : ¬ (c1.chan 1).Relistens v) : (c2.drive v).Discovers := by
    obtain ⟨j, held, kind, requester, density⟩ := h
    exact ⟨j, (b.job v off).trans held, kind, requester, by rw [density, b.drive]⟩
  refine ⟨by rw [b.rest, a.rest], b.view.trans a.view, b.store.trans a.store, fun p on => ?_, fun p off => ?_, fun v => ?_,
    fun v on => ?_, fun v none => ?_, fun v p listens discovery => ?_, fun v p listens away => ?_⟩
  · obtain rfl | rfl := port_cases p
    · exact chan0.trans (a.runsOn on)
    · rw [← chan1] at on ⊢
      exact b.runsOn on
  · obtain rfl | rfl := port_cases p
    · exact chan0.trans (a.idled off)
    · rw [← chan1] at off ⊢
      exact b.idled off
  · rw [b.drive, a.drive]
  · obtain hp | hp := port_cases (portOf v)
    · rw [hp] at on
      exact (b.hold v (.inl (by rw [hp]; decide))).trans (a.hold v (.inr on))
    · rw [hp, ← chan1] at on
      exact (b.hold v (.inr on)).trans (a.hold v (.inl (by rw [hp]; decide)))
  · exact (b.job v (chan1 ▸ none 1)).trans (a.job v (none 0))
  · by_cases second : (c1.chan 1).Relistens v
    · exact b.discovers v second ((state v).trans discovery)
    · obtain rfl | rfl := port_cases p
      · exact kept (a.discovers v listens discovery) second
      · exact absurd (chan1 ▸ listens) second
  · by_cases second : (c1.chan 1).Relistens v
    · exact b.free v second fun h => away ((state v).symm.trans h)
    · obtain rfl | rfl := port_cases p
      · exact (b.job v second).trans (a.free v listens away)
      · exact absurd (chan1 ▸ listens) second

end Ports

/-! #### The orders and the desks (R128) -/

section Orders
variable {s : State}

/-- A desk as a restart leaves it. -/
def Desk.abandoned (k : Desk) : Desk := { k with state := .halted, inFlight := 0, latch := false, look := .none }

def Ctx.abandonDesk (c : Ctx) (d : DeskNo) : Ctx := (c.modDesk d Desk.abandoned).beginEntryWrite d true

theorem Ctx.abandonDesk_rest (c : Ctx) (d : DeskNo) : c.abandonDesk d = { c with desks := (c.abandonDesk d).desks } := by
  unfold Ctx.abandonDesk Ctx.beginEntryWrite
  split
  · rfl
  · rfl

theorem Ctx.abandonDesk_desk (c : Ctx) (d d' : DeskNo) : (c.abandonDesk d).desk d' = if d' = d then
      { (c.desk d).abandoned with entryWrites := (c.desk d).entryWrites ++
          (if c.deskInRun d = true then [⟨deskEntryAddr c.runBase d, (c.desk d).abandoned.entryBytes, true⟩] else []) }
    else c.desk d' := by
  unfold Ctx.abandonDesk Ctx.beginEntryWrite
  have inRun : (c.modDesk d Desk.abandoned).deskInRun d = c.deskInRun d := rfl
  rw [inRun]
  split
  · rw [Ctx.modDesk_desk, Ctx.modDesk_desk, if_pos rfl, Ctx.modDesk_desk]
    by_cases h : d' = d
    · rw [if_pos h, if_pos h]
      rfl
    · rw [if_neg h, if_neg h, if_neg h]
  · rw [Ctx.modDesk_desk]
    by_cases h : d' = d
    · rw [if_pos h, if_pos h, List.append_nil]
      rfl
    · rw [if_neg h, if_neg h]

theorem Ctx.forDesks_abandon (c : Ctx) :
    (c.forDesks fun d c => c.abandonDesk d) = { c with desks := (c.forDesks fun d c => c.abandonDesk d).desks }
    ∧ ∀ d, (c.forDesks fun d c => c.abandonDesk d).desk d = { (c.desk d).abandoned with entryWrites := (c.desk d).entryWrites ++
        (if c.deskInRun d = true then [⟨deskEntryAddr c.runBase d, (c.desk d).abandoned.entryBytes, true⟩] else []) } := by
  have walk : ∀ (l : List DeskNo) (c : Ctx), l.foldl (fun c d => c.abandonDesk d) c =
      { c with desks := (l.foldl (fun c d => c.abandonDesk d) c).desks } := by
    intro l
    induction l with
    | nil => exact fun _ => rfl
    | cons d l ih =>
      intro c
      rw [List.foldl_cons, ih, c.abandonDesk_rest d]
  have step (c' : Ctx) (d : DeskNo) (h : c.Alongside c') : c.Alongside (c'.abandonDesk d) := by
    rw [c'.abandonDesk_rest d]
    exact h
  refine ⟨walk _ c, fun d => ?_⟩
  refine (Ctx.forDesks_meet (d := d) (k := fun d c => c.abandonDesk d) (P := fun c' => c.Alongside c' ∧ c'.desk d = c.desk d)
    (Q := fun c' => c.Alongside c' ∧ c'.desk d = { (c.desk d).abandoned with entryWrites := (c.desk d).entryWrites ++
        (if c.deskInRun d = true then [⟨deskEntryAddr c.runBase d, (c.desk d).abandoned.entryBytes, true⟩] else []) })
    c ⟨⟨rfl, rfl, rfl⟩, rfl⟩ (fun d' c' hd ⟨a, h⟩ => ?_) (fun c' ⟨a, h⟩ => ?_) fun d' c' hd ⟨a, h⟩ => ?_).2
  · exact ⟨step c' d' a, by rw [Ctx.abandonDesk_desk, if_neg (Ne.symm hd), h]⟩
  · have inRun : c'.deskInRun d = c.deskInRun d := by
      rw [State.deskInRun, a.1]
      rfl
    exact ⟨step c' d a, by rw [Ctx.abandonDesk_desk, if_pos rfl, h, inRun, a.2.1]⟩
  · exact ⟨step c' d' a, by rw [Ctx.abandonDesk_desk, if_neg (Ne.symm hd), h]⟩

/-- The frames after a restart (R90). -/
def Frame.restarted (fr : Frame) : Frame := if fr.held then { fr.mapSectors Sector.restart with uses := 0 } else fr

/-- The orders, the desks, the store and the schedulers at a restart, before its part at the channels. -/
def State.restartBegun (s : State) : Ctx :=
  { Ctx.of s with
    orphans := s.orphans ++ s.orders.map fun x => x.2.orphan s.g
    table := Vector.replicate 32 .free, tableWait := [], waiters := []
    desks := ((Ctx.of s).abandonOrders).desks
    frames := s.frames.map Frame.restarted
    fwq := [], quiet := []
    drives := s.drives.map Drive.restart }

theorem State.restartBegun_eq (s : State) :
    ((Ctx.of s).abandonOrders.storeRestart.forDrives fun v c => c.modDrive v Drive.restart) = s.restartBegun := by
  have desks : (Ctx.of s).abandonOrders = { Ctx.of s with
      orphans := s.orphans ++ s.orders.map fun x => x.2.orphan s.g
      table := Vector.replicate 32 .free, tableWait := [], waiters := [], desks := ((Ctx.of s).abandonOrders).desks } :=
    (Ctx.forDesks_abandon { Ctx.of s with
      orphans := s.orphans ++ s.orders.map fun x => x.2.orphan s.g
      table := Vector.replicate 32 .free, tableWait := [], waiters := [] }).1
  rw [Ctx.forDrives_modDrive, Ctx.storeRestart, State.restartBegun]
  generalize (Ctx.of s).abandonOrders = c at desks
  rw [desks]
  rfl

theorem State.restartBegun_desk (s : State) (d : DeskNo) : s.restartBegun.desk d = { (s.desk d).abandoned with
    entryWrites := (s.desk d).entryWrites ++
      (if s.deskInRun d = true then [⟨deskEntryAddr s.runBase d, (s.desk d).abandoned.entryBytes, true⟩] else []) } :=
  (Ctx.forDesks_abandon { Ctx.of s with
    orphans := s.orphans ++ s.orders.map fun x => x.2.orphan s.g
    table := Vector.replicate 32 .free, tableWait := [], waiters := [] }).2 d

theorem State.restartBegun_drive (s : State) (v : DriveNo) : s.restartBegun.drive v = (s.drive v).restart :=
  Vector.getElem_map ..

end Orders

/-! #### The drives in FORMATTING (R174) -/

section Formatting
variable {c : Ctx} {v : DriveNo} {d d' : Drive}

/-- A diskette format's granted job keeps its drive in FORMATTING. -/
def Drive.formatRuns (d : Drive) : Prop := ∃ j, d.sched.job = some j ∧ j.requester = .gone true

/-- The drive as the restart's last part at it leaves it. -/
structure Drive.FormatLeft (d d' : Drive) (h : Health) : Prop where
  rest : d' = { d with
    state := d'.state, cause := d'.cause, layoutKnown := d'.layoutKnown, incomplete := d'.incomplete
    recordWrites := d'.recordWrites, health := h }
  same : d.state ≠ .formatting ∨ d.formatRuns → d'.view = d.view
  blank : d.state = .formatting → ¬ d.formatRuns → d'.state = .blank ∧ d'.cause = .incomplete ∧ d'.layoutKnown = false

theorem Ctx.restartFormatting_eq (c : Ctx) (v : DriveNo) :
    ((c.drive v).formatRuns → c.restartFormatting v = c)
    ∧ (¬ (c.drive v).formatRuns → c.restartFormatting v = c.blankIncomplete v) := by
  unfold Ctx.restartFormatting Drive.formatRuns
  split
  · next j held =>
    refine ⟨fun ⟨j', held', gone⟩ => ?_, fun none => if_neg fun gone => none ⟨j, held, gone⟩⟩
    rw [held] at held'
    cases held'
    exact if_pos gone
  · next free =>
    refine ⟨fun ⟨j', held', _⟩ => ?_, fun _ => rfl⟩
    rw [free] at held'
    cases held'

theorem Ctx.blankIncomplete_rest (c : Ctx) (v : DriveNo) : c.blankIncomplete v = { c with
    drives := (c.blankIncomplete v).drives, picks := (c.blankIncomplete v).picks } := by
  unfold Ctx.blankIncomplete
  split
  · rw [Ctx.setDriveState_rest]
    rfl
  · rfl

theorem Ctx.blankIncomplete_other (c : Ctx) {v w : DriveNo} (h : w ≠ v) : (c.blankIncomplete v).drive w = c.drive w := by
  unfold Ctx.blankIncomplete
  split
  · rw [Ctx.setDriveState_other _ _ _ h]
    exact c.setDrive_drive_ne v w _ h
  · rfl

theorem Ctx.blankIncomplete_kept (c : Ctx) (v : DriveNo) : (c.blankIncomplete v).drive v = { c.drive v with
    state := ((c.blankIncomplete v).drive v).state, cause := ((c.blankIncomplete v).drive v).cause
    layoutKnown := ((c.blankIncomplete v).drive v).layoutKnown, incomplete := ((c.blankIncomplete v).drive v).incomplete
    recordWrites := ((c.blankIncomplete v).drive v).recordWrites } := by
  by_cases h : (c.drive v).state = .formatting
  · have changed : ¬ (((c.modDrive v fun d => { d with layoutKnown := false, incomplete := false }).drive v).state = .blank
        ∧ ((c.modDrive v fun d => { d with layoutKnown := false, incomplete := false }).drive v).cause = .incomplete) := by
      rw [Ctx.modDrive, Ctx.setDrive_drive_self, h]
      simp
    rw [Ctx.blankIncomplete, if_pos h, Ctx.setDriveState_drive _ _ _ _ changed, Ctx.modDrive, Ctx.setDrive_drive_self]
    rfl
  · rw [Ctx.blankIncomplete, if_neg h]

/-- The restart's last part at a drive: out of FORMATTING where no granted job of its format runs on, and its Health Counters as
they were (R174, R175). -/
def Ctx.formatLeft (c : Ctx) (v : DriveNo) (h : Health) : Ctx := (c.restartFormatting v).modDrive v fun d => { d with health := h }

theorem Ctx.restartFormatting_rest (c : Ctx) (v : DriveNo) : c.restartFormatting v = { c with
    drives := (c.restartFormatting v).drives, picks := (c.restartFormatting v).picks } := by
  by_cases runs : (c.drive v).formatRuns
  · rw [(c.restartFormatting_eq v).1 runs]
  · rw [(c.restartFormatting_eq v).2 runs]
    exact c.blankIncomplete_rest v

theorem Ctx.formatLeft_rest (c : Ctx) (v : DriveNo) (h : Health) : c.formatLeft v h = { c with
    drives := (c.formatLeft v h).drives, picks := (c.formatLeft v h).picks } := by
  unfold Ctx.formatLeft Ctx.modDrive Ctx.setDrive
  rw [c.restartFormatting_rest v]

theorem Ctx.formatLeft_other (c : Ctx) {v w : DriveNo} (h : Health) (hw : w ≠ v) : (c.formatLeft v h).drive w = c.drive w := by
  rw [Ctx.formatLeft, Ctx.modDrive, Ctx.setDrive_drive_ne _ _ _ _ hw]
  by_cases runs : (c.drive v).formatRuns
  · rw [(c.restartFormatting_eq v).1 runs]
  · rw [(c.restartFormatting_eq v).2 runs, Ctx.blankIncomplete_other _ hw]

theorem Ctx.formatLeft_drive (c : Ctx) (v : DriveNo) (h : Health) : (c.drive v).FormatLeft ((c.formatLeft v h).drive v) h := by
  rw [Ctx.formatLeft, Ctx.modDrive, Ctx.setDrive_drive_self]
  by_cases runs : (c.drive v).formatRuns
  · rw [(c.restartFormatting_eq v).1 runs]
    exact ⟨rfl, fun _ => rfl, fun _ none => absurd runs none⟩
  · rw [(c.restartFormatting_eq v).2 runs]
    refine ⟨by rw [Ctx.blankIncomplete_kept], fun same => ?_, fun formatting _ => ?_⟩
    · rw [Ctx.blankIncomplete, if_neg (same.resolve_right runs)]
      rfl
    · obtain ⟨state, cause, known, _⟩ := c.blankIncomplete_drive formatting
      exact ⟨state, cause, known⟩

/-- The restart's last part at the drives. -/
theorem Ctx.forDrives_formatLeft (c : Ctx) (k : DriveNo → Health) :
    (c.forDrives fun v c => c.formatLeft v (k v)) = { c with
      drives := (c.forDrives fun v c => c.formatLeft v (k v)).drives
      picks := (c.forDrives fun v c => c.formatLeft v (k v)).picks }
    ∧ ∀ v, (c.drive v).FormatLeft ((c.forDrives fun v c => c.formatLeft v (k v)).drive v) (k v) := by
  have walk : ∀ (l : List DriveNo) (c : Ctx), l.foldl (fun c v => c.formatLeft v (k v)) c = { c with
      drives := (l.foldl (fun c v => c.formatLeft v (k v)) c).drives
      picks := (l.foldl (fun c v => c.formatLeft v (k v)) c).picks } := by
    intro l
    induction l with
    | nil => exact fun _ => rfl
    | cons v l ih =>
      intro c
      rw [List.foldl_cons, ih, c.formatLeft_rest v (k v)]
  refine ⟨walk _ c, fun v => ?_⟩
  refine Ctx.forDrives_meet (v := v) (k := fun v c => c.formatLeft v (k v)) (P := fun c' => c'.drive v = c.drive v)
    (Q := fun c' => (c.drive v).FormatLeft (c'.drive v) (k v)) c rfl (fun w c' hw h => ?_) (fun c' h => ?_) fun w c' hw h => ?_
  · rw [Ctx.formatLeft_other _ _ (Ne.symm hw), h]
  · have left := c'.formatLeft_drive v (k v)
    rwa [h] at left
  · rwa [Ctx.formatLeft_other _ _ (Ne.symm hw)]

end Formatting

/-! #### The state that a restart's own part makes -/

section Begun
variable {s : State} {c : Ctx} {v : DriveNo} {p : PortNo}

/-- What the parts of a restart have made of a state before the pick points that it raises. -/
structure State.Restarts (s : State) (c : Ctx) : Prop where
  view : c.view = { s.view with
    ctl := .stopped, run := false, startCode := .none, notice := 0, snapTimer := none, start := .idle, tableWait := []
    orphans := s.orphans ++ s.orders.map fun x => x.2.orphan s.g
    desks := c.desks, drives := c.drives.map Drive.view }
  store : c.store = ⟨s.frames.map Frame.restarted, [], [], s.locks, [], Vector.replicate 32 .free⟩
  serve : c.serve = false
  rounds : c.rounds = []
  desk : ∀ d, c.desk d = { (s.desk d).abandoned with entryWrites := (s.desk d).entryWrites ++
    (if s.deskInRun d = true then [⟨deskEntryAddr s.runBase d, (s.desk d).abandoned.entryBytes, true⟩] else []) }
  runsOn : ∀ p, (s.chan p).RunsOn → c.chan p = (s.chan p).across
  idled : ∀ p, ¬ (s.chan p).RunsOn → c.chan p = (s.chan p).idled false
  drive : ∀ v, c.drive v = { s.drive v with
    state := (c.drive v).state, cause := (c.drive v).cause, layoutKnown := (c.drive v).layoutKnown
    incomplete := (c.drive v).incomplete, recordWrites := (c.drive v).recordWrites
    profileReads := (s.drive v).profileReads.map ReadPurpose.restart
    sched := { ((s.drive v).sched.restart ((s.drive v).state == .formatting)) with
      job := (c.drive v).sched.job, busy := (c.drive v).sched.busy, hold := (c.drive v).sched.hold } }
  same : ∀ v, (s.drive v).state ≠ .formatting ∨ (c.drive v).formatRuns →
    (c.drive v).view = { (s.drive v).view with profileReads := (s.drive v).profileReads.map ReadPurpose.restart }
  blank : ∀ v, (s.drive v).state = .formatting → ¬ (c.drive v).formatRuns →
    (c.drive v).state = .blank ∧ (c.drive v).cause = .incomplete ∧ (c.drive v).layoutKnown = false
  hold : ∀ v, (s.chan (portOf v)).RunsOn → (c.drive v).sched.hold = true
  job : ∀ v, (∀ p, ¬ (s.chan p).Relistens v) →
    (c.drive v).sched.job = (s.drive v).sched.job.bind fun j => j.restart ((s.drive v).state == .formatting)
  discovers : ∀ v p, (s.chan p).Relistens v → (s.drive v).state = .discovery → (c.drive v).Discovers
  free : ∀ v p, (s.chan p).Relistens v → (s.drive v).state ≠ .discovery → (c.drive v).sched.job = none

/-- Controller Control's part of a restart. -/
def Ctx.restartClosed (c : Ctx) : Ctx := ({ c with run := false, startCode := .none, notice := 0 } : Ctx).enterStopped

/-- The restart as the parts that make it. -/
theorem Ctx.restart_eq (s : State) : ∃ c3 c4 : Ctx, s.restartBegun.PortsRestart c3
    ∧ (c4 = { c3 with drives := c4.drives, picks := c4.picks })
    ∧ (∀ v, (c3.drive v).FormatLeft (c4.drive v) (s.drive v).health)
    ∧ (Ctx.of s).restart = c4.restartClosed := by
  have ports := (s.restartBegun.channelRestart_restarts 0).both (Ctx.channelRestart_restarts _ 1)
  obtain ⟨rest, left⟩ := ((s.restartBegun.channelRestart 0).channelRestart 1).forDrives_formatLeft fun v => (s.drive v).health
  have parts : (Ctx.of s).restart = Ctx.restartClosed
      ((((Ctx.of s).abandonOrders.storeRestart.forDrives fun v c => c.modDrive v Drive.restart).channelRestart 0).channelRestart
        1 |>.forDrives fun v c => c.formatLeft v (s.drive v).health) := by
    unfold Ctx.restart
    extract_lets c1 c2 c3 c4
    change c4.restartClosed = _
    refine congrArg Ctx.restartClosed ?_
    rfl
  rw [s.restartBegun_eq] at parts
  exact ⟨_, _, ports, rest, left, parts⟩

theorem Ctx.restartClosed_rest (c : Ctx) : c.restartClosed = { c with
    run := false, startCode := .none, notice := 0, ctl := .stopped, snapTimer := none, start := .idle
    picks := c.restartClosed.picks } := by
  unfold Ctx.restartClosed Ctx.enterStopped
  rw [Ctx.setCtl_rest _ .stopped]

theorem Ctx.restart_restarts (s : State) : s.Restarts (Ctx.of s).restart := by
  obtain ⟨c3, c4, ports, rest4, left, eq⟩ := Ctx.restart_eq s
  have rest : (Ctx.of s).restart = { s.restartBegun with
      channels := c3.channels, drives := c4.drives, table := c3.table, picks := ((Ctx.of s).restart).picks, run := false
      startCode := .none, notice := 0, ctl := .stopped, snapTimer := none, start := .idle } := by
    rw [eq, Ctx.restartClosed_rest, rest4, ports.rest]
  have drive (v : DriveNo) : (Ctx.of s).restart.drive v = c4.drive v := by
    rw [rest]
    rfl
  have chan (p : PortNo) : (Ctx.of s).restart.chan p = c3.chan p := by
    rw [rest]
    rfl
  have state (v : DriveNo) : (c3.drive v).state = (s.drive v).state := by
    rw [ports.drive, s.restartBegun_drive]
    rfl
  have job (v : DriveNo) : (c4.drive v).sched = (c3.drive v).sched := by rw [(left v).rest]
  have runs (v : DriveNo) : (c4.drive v).formatRuns ↔ (c3.drive v).formatRuns := by
    unfold Drive.formatRuns
    rw [job]
  refine ⟨?_, ?_, ?_, ?_, fun d => ?_, fun p on => ?_, fun p off => ?_, fun v => ?_, fun v h => ?_, fun v h none => ?_,
    fun v on => ?_, fun v none => ?_, fun v p listens discovery => ?_, fun v p listens away => ?_⟩
  · rw [rest]
    rfl
  · have table : c3.table.map Slot.view = (Vector.replicate 32 Slot.free).map Slot.view := congrArg StoreView.table ports.store
    rw [rest]
    refine (congrArg (StoreView.mk _ _ _ _ _) (table.trans ?_) :)
    simp [Slot.view]
  · rw [rest]
    rfl
  · rw [rest]
    rfl
  · rw [rest]
    exact s.restartBegun_desk d
  · exact (chan p).trans (ports.runsOn p on)
  · exact (chan p).trans (ports.idled p off)
  · rw [drive, (left v).rest, ports.drive, s.restartBegun_drive]
    rfl
  · rw [drive] at h ⊢
    rw [(left v).same (h.imp (fun h => by rw [state]; exact h) (runs v).mp), ports.drive, s.restartBegun_drive]
    rfl
  · rw [drive] at none ⊢
    exact (left v).blank ((state v).trans h) fun h => none ((runs v).mpr h)
  · rw [drive, job, ports.hold v on, s.restartBegun_drive]
    rfl
  · rw [drive, job, ports.job v none, s.restartBegun_drive]
    rfl
  · rw [drive]
    obtain ⟨j, held, kind, requester, density⟩ := ports.discovers v p listens (by rw [s.restartBegun_drive]; exact discovery)
    exact ⟨j, by rw [job]; exact held, kind, requester, by rw [density, (left v).rest]⟩
  · rw [drive, job]
    exact ports.free v p listens (by rw [s.restartBegun_drive]; exact away)

end Begun

/-! #### The end of the command -/

section Ended
variable {s : State} {c : Ctx} {v : DriveNo} {p : PortNo} {j : Job}

theorem State.Restarts.slot (h : s.Restarts c) {t : State} (store : t.store = c.store) (e : EntryNo) : t.slot e = .free := by
  have table : t.table.map Slot.view = Vector.replicate 32 Slot.free := congrArg StoreView.table (store.trans h.store)
  have seen : (t.slot e).view = .free := by
    have at_e := congrArg (fun x : Vector Slot 32 => x[e.val]) table
    simpa [State.slot] using at_e
  cases held : t.slot e with
  | order o =>
    rw [held] at seen
    cases seen
  | free => rfl
  | reserved _ =>
    rw [held] at seen
    cases seen

theorem State.Restarts.ready (h : s.Restarts c) : c.readyOrder? = none := by
  refine (State.readyOrder_none_iff _).mpr fun e o ho => ?_
  unfold State.order? at ho
  rw [h.slot rfl e] at ho
  cases ho

theorem State.Restarts.ctl (h : s.Restarts c) : c.ctl = .stopped := congrArg View.ctl h.view

theorem State.Restarts.still (h : s.Restarts c) : c.still :=
  ⟨⟨by rw [h.ctl]; decide, by rw [h.ctl]; decide⟩, h.ready⟩

theorem State.Restarts.finish (h : s.Restarts c) :
    c.finish.view = c.view ∧ c.finish.store = c.store
    ∧ c.finish = (c.picks.foldl (fun (c : Ctx) v => c.pickPoint v) { c with picks := [] }).toState := by
  obtain ⟨_, store, view⟩ := Ctx.finish_kept_store h.still rfl rfl h.serve
  exact ⟨view, store, Ctx.finish_pickPoints h.still.1 h.ready h.serve h.rounds⟩

/-- A drive that the restart leaves without a job, or under its hold, is as the restart left it. -/
theorem State.Restarts.drive_rest (h : s.Restarts c) (rest : c.AtRest v) : c.finish.drive v = c.drive v := by
  rw [h.finish.2.2]
  exact Ctx.pickPoints_drive _ _ rest

theorem State.Restarts.chan_rest (h : s.Restarts c) (rest : ∀ v, portOf v = p → c.AtRest v) : c.finish.chan p = c.chan p := by
  rw [h.finish.2.2]
  exact Ctx.pickPoints_chan _ _ rest

/-- A drive without a job, and not in DISCOVERY, has none after the restart, and its pick point finds nothing. -/
theorem State.Restarts.jobless (h : s.Restarts c) (job : (s.drive v).sched.job = none)
    (state : (s.drive v).state ≠ .discovery) : c.AtRest v := by
  refine .inr (State.served_stopped_none h.ctl ?_)
  by_cases listens : ∃ p, (s.chan p).Relistens v
  · obtain ⟨p, listens⟩ := listens
    exact h.free v p listens state
  · rw [h.job v fun p on => listens ⟨p, on⟩, job]
    rfl

theorem Job.restart_track (formatting : Bool) (kind : j.kind = .formatTrack) : j.restart formatting
    = if j.running then some { j with requester := j.requester.restart formatting } else none := if_pos kind

/-- No job of a diskette format runs on, where none did. -/
theorem State.Restarts.format_gone (h : s.Restarts c) (formatting : (s.drive v).state = .formatting)
    (none : ∀ j, (s.drive v).sched.job = some j → j.requester ≠ .gone true
      ∧ (j.kind = .formatTrack → j.running = false ∨ j.requester = .gone false)) : ¬ (c.drive v).formatRuns := by
  rintro ⟨j', held', gone⟩
  by_cases listens : ∃ p, (s.chan p).Relistens v
  · obtain ⟨p, listens⟩ := listens
    rw [h.free v p listens (by rw [formatting]; decide)] at held'
    cases held'
  · rw [h.job v fun p on => listens ⟨p, on⟩] at held'
    obtain ⟨j, held, restarted⟩ := Option.bind_eq_some_iff.mp held'
    obtain ⟨requester, track⟩ := none j held
    by_cases kind : j.kind = .formatTrack
    · rw [Job.restart_track _ kind] at restarted
      split at restarted
      · next running =>
        cases restarted
        obtain off | earlier := track kind
        · rw [off] at running
          cases running
        · rw [earlier] at gone
          cases gone
      · cases restarted
    · rw [Job.restart, if_neg kind] at restarted
      cases restarted
      exact requester gone

/-- A drive whose work at the channels is a track being formatted listens nowhere. -/
theorem Channel.not_relistens (h : ∀ p r, (s.chan p).work = some r → r.drive = v → r.kind = .formatTrack) (p : PortNo) :
    ¬ (s.chan p).Relistens v := by
  rintro ⟨r, work, _, discover, drive⟩
  rw [h p r work drive] at discover
  cases discover

/-- A granted FORMAT_TRACK job runs on, for nobody (R106, R174). -/
theorem State.Restarts.track (h : s.Restarts c) (held : (s.drive v).sched.job = some j) (kind : j.kind = .formatTrack)
    (running : j.running = true) (only : ∀ p r, (s.chan p).work = some r → r.drive = v → r.kind = .formatTrack) :
    let j' := { j with requester := j.requester.restart ((s.drive v).state == .formatting) }
    (c.drive v).sched.job = some j' ∧ (c.finish.drive v).sched.job = some j' := by
  intro j'
  have begun : (c.drive v).sched.job = some j' := by
    rw [h.job v (Channel.not_relistens only), held]
    exact (Job.restart_track _ kind).trans (if_pos running)
  refine ⟨begun, ?_⟩
  obtain ⟨same | same, _⟩ := c.finish_sameJob (v := v) fun k hk => by
    rw [begun] at hk
    cases hk
    intro recal
    rw [show j'.kind = j.kind from rfl, kind] at recal
    cases recal
  · exact same.trans begun
  · rw [same, begun]
    exact congrArg some (by rw [← running])

theorem Sector.restart_eq (x : Sector) : x.restart = match x.state with
    | .wanted | .reading => { x with state := .absent, rush := false }
    | .writing | .checkDue | .checking =>
      { x with state := .dirty, rush := false, verify := x.verify || x.check, check := false, redirty := false }
    | .absent | .valid | .dirty | .bad | .stranded => { x with rush := false } := by
  unfold Sector.restart
  cases x.state <;> rfl

theorem ReadPurpose.restart_eq (x : ReadPurpose) : x.restart = if x = .start then .load else x := by
  cases x <;> rfl

theorem Channel.runsOn_of {h : Channel} {r : Request} (work : h.work = some r) (on : h.state = .gate ∨ r.kind = .formatTrack) :
    h.RunsOn := ⟨r, work, on⟩

theorem Channel.not_runsOn {h : Channel} (off : ∀ r, h.work = some r → h.state ≠ .gate ∧ r.kind ≠ .formatTrack) : ¬ h.RunsOn := by
  rintro ⟨r, work, gate | track⟩
  · exact (off r work).1 gate
  · exact (off r work).2 track

/-- The frames after the restart (R90). -/
theorem State.Restarts.frame (h : s.Restarts c) (f : FrameNo) : c.finish.frame f = (s.frame f).restarted := by
  have frames : c.finish.frames = s.frames.map Frame.restarted := congrArg StoreView.frames (h.finish.2.1.trans h.store)
  rw [State.frame, frames]
  exact Vector.getElem_map ..

theorem State.Restarts.desk_end (h : s.Restarts c) (d : DeskNo) : c.finish.desk d = { (s.desk d).abandoned with
    entryWrites := (s.desk d).entryWrites ++
      (if s.deskInRun d = true then [⟨deskEntryAddr s.runBase d, (s.desk d).abandoned.entryBytes, true⟩] else []) } := by
  rw [← h.desk d, State.desk, State.view_desks h.finish.1]
  rfl

theorem State.Restarts.view_end (h : s.Restarts c) (v : DriveNo) : (c.finish.drive v).view = (c.drive v).view :=
  State.view_drive h.finish.1 v

/-- The DISCOVER job that was listened to is posted again (R62). -/
theorem State.Restarts.relisten (h : s.Restarts c) (listens : (s.chan p).Relistens v) (state : (s.drive v).state = .discovery) :
    ∃ j, (c.finish.drive v).sched.job = some j ∧ j.kind = .discover ∧ j.requester = .driveControl
      ∧ j.density = revolutionDensity (s.drive v).revolution := by
  obtain ⟨j, held, kind, requester, density⟩ := h.discovers v p listens state
  have same := c.finish_sameJob (v := v) fun k hk => by
    rw [held] at hk
    cases hk
    rw [kind]
    decide
  obtain ⟨b, held'⟩ := same.some held
  exact ⟨_, held', kind, requester, by rw [h.drive] at density; exact density⟩

end Ended

/-- Settles O9: the parts of a restart are followed up to the pick points that it raises; these leave a drive that is under the
restart's hold or has no job, and in STOPPED they grant DISCOVER jobs alone. -/
theorem restart : Obligations.Restart := by
  intro s
  have begun := Ctx.restart_restarts s
  generalize eq : (Ctx.of s).restart = c at begun
  obtain ⟨view, store, _⟩ := begun.finish
  have shown := view.trans begun.view
  have stored := store.trans begun.store
  have told {α : Type} (k : View → α) := congrArg k shown
  refine ⟨c.finish, ?_, told View.ctl, told View.run, told View.startCode, told View.notice, told View.snapTimer, told View.start,
    told View.g, told View.driveNotice, told View.tableBase, told View.noticeEnable, told View.header, told View.warning,
    told View.mem, told View.pending, congrArg StoreView.locks stored, congrArg StoreView.waiters stored,
    congrArg StoreView.fwq stored, congrArg StoreView.quiet stored, told View.tableWait, begun.slot store, told View.orphans,
    begun.desk_end, fun f free => ?_, fun f held => ?_, fun v away => ?_, fun v formatting none => ?_,
    fun v j formatting held kind running requester only => ?_, fun v j away held kind running requester only => ?_,
    fun v free away => ?_, fun p r work on => ?_, fun p off => ?_, fun p r work gate discover port state => ?_⟩
  · rw [← eq]
    rfl
  · rw [begun.frame, Frame.restarted, if_neg (by simp [free])]
  · rw [begun.frame, Frame.restarted, if_pos held, Frame.mapSectors]
    refine congrArg (fun xs => ({ s.frame f with uses := 0, sectors := xs } : Frame)) ?_
    exact List.map_congr_left fun x _ => x.restart_eq
  · rw [begun.view_end, begun.same v (.inl away)]
    simp only [← ReadPurpose.restart_eq]
  · have blank := begun.blank v formatting (begun.format_gone formatting none)
    obtain ⟨state, cause, known⟩ := Drive.view_shown (begun.view_end v)
    exact ⟨state.trans blank.1, cause.trans blank.2.1, known.trans blank.2.2⟩
  · obtain ⟨job, ended⟩ := begun.track held kind running only
    have gone : j.requester.restart ((s.drive v).state == .formatting) = .gone true := by
      rw [formatting]
      cases named : j.requester with
      | gone b =>
        cases b
        · exact absurd named requester
        · rfl
      | _ => rfl
    rw [gone] at job ended
    have same := (begun.view_end v).trans (begun.same v (.inr ⟨_, job, rfl⟩))
    exact ⟨(congrArg DriveView.state same).trans formatting, congrArg DriveView.cause same, congrArg DriveView.layoutKnown same,
      congrArg DriveView.timer same, ended⟩
  · obtain ⟨_, ended⟩ := begun.track held kind running only
    have gone : j.requester.restart ((s.drive v).state == .formatting) = .gone false := by
      rw [beq_false_of_ne away]
      cases named : j.requester with
      | gone b => exact absurd named (requester b)
      | _ => rfl
    rwa [gone] at ended
  · rw [begun.drive_rest (begun.jobless free away), begun.drive]
    exact ⟨rfl, rfl, rfl, rfl, rfl, rfl⟩
  · have on := Channel.runsOn_of work on
    rw [begun.chan_rest fun v port => .inl (begun.hold v (port ▸ on)), begun.runsOn p on]
    rfl
  · have idled := begun.idled p (Channel.not_runsOn off)
    have cleared : (c.finish.chan p).Cleared := by
      rw [begun.finish.2.2]
      exact Ctx.pickPoints_cleared _ _ begun.ctl (show (c.chan p).Cleared by rw [idled]; exact ⟨rfl, rfl, rfl, rfl, .inl rfl⟩)
    refine ⟨cleared.staging, cleared.listen, cleared.round, cleared.across, cleared.work, fun jobless => ?_⟩
    rw [begun.chan_rest fun v port => begun.jobless (jobless v port).1 (jobless v port).2, idled]
    rfl
  · obtain ⟨j, held, kind, requester, density⟩ := begun.relisten ⟨r, work, gate, discover, rfl⟩ state
    exact ⟨j, held, kind, requester, density⟩

end Sys2Proof.Machine

-- ==== Sys2Proof/Proofs/ShedCascades.lean ====
namespace Sys2Proof.Machine

open Sys2Proof

/-! ### The reports of a command in SHEDDING: no sector comes to be read or checked, and what is parked stays (R91, R152) -/

/-- No sector of the frame is to be read or checked. -/
def Frame.Calm (fr : Frame) : Prop := fr.held = true → ∀ x ∈ fr.sectors, x.state ≠ .wanted ∧ x.state ≠ .checkDue

/-- No sector of a HELD frame is to be read or checked. -/
def Ctx.Calmed (c : Ctx) : Prop := ∀ f, (c.frame f).Calm

theorem Frame.Calm.usesOnly {a b : Frame} (h : a.Calm) (eq : a.UsesOnly b) : b.Calm := by
  rw [eq]
  exact h

/-- What a want in SHEDDING, or a merge, makes of a record is no sector to be read or checked, where it was none. -/
theorem Frame.Calm.map {fr new : Frame} (h : fr.Calm) (held : new.held = true → fr.held = true)
    (sectors : ∀ y ∈ new.sectors, ∃ x ∈ fr.sectors, y.state = x.state ∨ y.state = .dirty) : new.Calm := by
  intro hh y hy
  obtain ⟨x, hx, same | dirty⟩ := sectors y hy
  · rw [same]
    exact h (held hh) x hx
  · rw [dirty]
    decide

/-- From `c` to `c'` by steps that leave every order they do not name exactly as it is, and in SHEDDING make no sector one to be
read or checked. -/
structure Ctx.Quiets (N : EntryNo → Prop) (c c' : Ctx) : Prop where
  steps : Steps N (fun _ _ => True) c c'
  orders : ∀ e, ¬ N e → c'.order? e = c.order? e
  calmed : c.ctl = .shedding → c.Calmed → c'.Calmed

/-- So it is where the orders that are not named wait nowhere and go on by no report. -/
def Quietly (N : EntryNo → Prop) (c c' : Ctx) : Prop := c.Covers N Order.Parked True → c.Quiets N c'

section Quietly
variable {N : EntryNo → Prop} {c c' c'' : Ctx} {e : EntryNo}

theorem Ctx.Quiets.trans (h : c.Quiets N c') (h' : c'.Quiets N c'') : c.Quiets N c'' :=
  ⟨h.steps.trans h'.steps, fun e he => (h'.orders e he).trans (h.orders e he),
    fun hc calm => h'.calmed ((State.view_ctl h.steps.view).trans hc) (h.calmed hc calm)⟩

theorem Quietly.refl (c : Ctx) : Quietly N c c := fun _ => ⟨.refl, fun _ _ => rfl, fun _ h => h⟩

theorem Quietly.trans (h : Quietly N c c') (h' : Quietly N c' c'') : Quietly N c c'' := fun hc =>
  (h hc).trans (h' ((h hc).steps.covers (fun _ _ a h => a.parked h) hc))

theorem Quietly.setOrder (c : Ctx) (o : Order) (he : N e) : Quietly N c (c.setOrder e o) := fun _ =>
  ⟨.order e o .refl he fun _ _ _ => trivial, fun e' he' => by
    rw [Ctx.setOrder_order?, if_neg]
    rintro rfl
    exact he' he, fun _ h => h⟩

theorem Quietly.modOrder (c : Ctx) (k : Order → Order) (he : N e) : Quietly N c (c.modOrder e k) := by
  unfold Ctx.modOrder
  split
  · exact .setOrder c _ he
  · exact .refl c

theorem Quietly.queues (h : c.QueuesMoved N (fun _ _ => True) c c') : Quietly N c c' := fun _ =>
  ⟨.queues .refl h, fun e _ => State.order?_of_table (by rw [h.rest]) e, fun _ calm f => by
    rw [State.frame, h.rest]
    exact calm f⟩

theorem Quietly.putFrame (c : Ctx) {f : FrameNo} {new : Frame} (hk : c.KeyOk f new)
    (hc : c.ctl = .shedding → (c.frame f).Calm → new.Calm) : Quietly N c (c.putFrame f new) := fun _ =>
  ⟨.frame f new .refl trivial hk, fun e _ => State.order?_of_table (c.putFrame_table f new) e, fun ctl calm f' => by
    rw [Ctx.putFrame_frame]
    split
    · exact hc ctl (calm f)
    · exact calm f'⟩

/-- A change of the use count or of the time of the last use. -/
theorem Quietly.touchFrame (c : Ctx) (f : FrameNo) (uses : Nat) (lru : Word) :
    Quietly N c (c.putFrame f { c.frame f with uses := uses, lru := lru }) :=
  .putFrame c (fun h => .inl ⟨h, rfl⟩) fun _ h => h

theorem Quietly.foldl {α : Type} (k : Ctx → α → Ctx) (l : List α) (h : ∀ c a, a ∈ l → Quietly N c (k c a)) :
    ∀ c, Quietly N c (l.foldl k c) := by
  induction l with
  | nil => exact fun c => .refl c
  | cons a l ih =>
    exact fun c => (h c a (List.mem_cons_self ..)).trans (ih (fun c b hb => h c b (List.mem_cons_of_mem _ hb)) _)

/-! #### The end of an order -/

theorem Quietly.dropUse (c : Ctx) (f : FrameNo) : Quietly N c (c.dropUse f) := .touchFrame c f _ _

theorem Quietly.endOrder (c : Ctx) (code : Code) (n : Nat) (he : N e) : Quietly N c (c.endOrder e code n) := fun hc => by
  have alike := fun (o o' : Order) (a : o.Alike o') (h : o.Parked) => a.parked h
  refine ⟨Works.endOrder (fun _ _ => trivial) c code n he alike hc, fun e' he' => ?_, fun _ calm f => ?_⟩
  · exact c.endOrder_other code n (fun h => he' (h ▸ he)) (hc e' he').1
  · have ends := c.endOrder_ends e code n
    exact (calm f).usesOnly (ends.frame_rel (R := Frame.UsesOnly) (fun _ => rfl)
      (fun a b d h h' => by rw [Frame.UsesOnly, h', h]) (fun _ _ h => h) f)

theorem Quietly.settleCheck (c : Ctx) (he : N e) : Quietly N c (c.settleCheck e) := by
  unfold Ctx.settleCheck
  repeat' split
  all_goals
    first
    | exact .refl c
    | exact .endOrder c _ _ he

theorem Quietly.unreadable (c : Ctx) (b : Nat) (x : Bool) (he : N e) : Quietly N c (c.unreadable e b x) := by
  unfold Ctx.unreadable
  split
  · exact .refl c
  · split
    · exact .setOrder c _ he
    · split
      · exact .endOrder c _ _ he
      · exact .endOrder c _ _ he

/-! #### Wants and steps at a frame -/

theorem Quietly.sectorFilled (c : Ctx) (f : FrameNo) (n a : Nat) : Quietly N c (c.sectorFilled f n a) := by
  refine .foldl _ _ (fun c e _ => ?_) c
  dsimp only
  split
  · exact .refl c
  · next o ho =>
    split
    · next waits =>
      intro hc
      have named : N e := by_contra fun he => ((hc e he).2.2 o ho).not_fill (Order.waitsOn_fill waits)
      exact Quietly.setOrder c _ named hc
    · exact .refl c

/-- In SHEDDING a want leaves its sector in its state (R68, R91). -/
theorem Sector.want_shedding (x : Sector) (g : Word) (fresh : Bool) : (x.want g fresh true).2 = x := by
  unfold Sector.want
  cases x.state <;> cases fresh <;> rfl

theorem Sector.markRush_state (x : Sector) (rush : Bool) : (x.markRush rush).state = x.state := by
  unfold Sector.markRush
  split <;> rfl

theorem Sector.merge_state (x : Sector) (g : Word) (verify rush : Bool) :
    (x.merge g verify rush).state = x.state ∨ (x.merge g verify rush).state = .dirty := by
  unfold Sector.merge
  cases x.state <;> cases rush <;> simp

theorem Frame.mem_modSlot {fr : Frame} {n : Nat} {k : Sector → Sector} {y : Sector} (h : y ∈ (fr.modSlot n k).sectors) :
    y ∈ fr.sectors ∨ ∃ x ∈ fr.sectors, y = k x := by
  rw [Frame.modSlot, List.modify_eq_set_getElem?] at h
  cases hx : fr.sectors[n]? with
  | none => rw [hx] at h; exact .inl h
  | some x =>
    rw [hx] at h
    obtain h | h := List.mem_or_eq_of_mem_set h
    · exact .inl h
    · exact .inr ⟨x, List.mem_of_getElem? hx, h⟩

theorem Quietly.want (c : Ctx) (f : FrameNo) (n : Nat) (fresh rush : Bool) : Quietly N c (c.want f n fresh rush).2 := by
  unfold Ctx.want
  dsimp only
  split
  · next slot x _ found =>
    refine .putFrame c (fun h => .inl ⟨h, rfl⟩) fun ctl calm => calm.map (fun h => h) fun y hy => ?_
    obtain h | ⟨_, _, rfl⟩ := Frame.mem_modSlot hy
    · exact ⟨y, h, .inl rfl⟩
    · refine ⟨x, List.mem_of_find?_eq_some found, .inl ?_⟩
      rw [ctl, Sector.markRush_state]
      exact congrArg Sector.state (x.want_shedding _ _)
  · exact .refl c

theorem Quietly.wantBlock (c : Ctx) (b : Nat) (he : N e) : Quietly N c (c.wantBlock e b) := by
  unfold Ctx.wantBlock
  split
  · exact .refl c
  · next o _ =>
    split
    · next f _ _ =>
      have wanted : Quietly N c (c.want f (o.geometry.sector b) o.fields.fresh o.fields.rush).2 := .want c _ _ _ _
      dsimp only
      split
      · exact wanted
      · exact wanted.trans (.modOrder _ _ he)
      · exact wanted.trans (.unreadable _ _ _ he)
    · exact .refl c

theorem Quietly.wantBlocks (c : Ctx) (bs : List Nat) (he : N e) : Quietly N c (c.wantBlocks e bs) :=
  .foldl _ _ (fun c b _ => .wantBlock c b he) c

theorem Quietly.copyOut {f : FrameNo} {a n : Nat} {x : Option Byte} {bytes : List Byte} {given : List Nat}
    (h : c.copyOut f a n x = .ok (bytes, given, c')) : Quietly N c c' := by
  unfold Ctx.copyOut at h
  dsimp only at h
  split at h
  · cases h
    exact .touchFrame c f _ _
  · cases h

theorem Quietly.mergeBytes (c : Ctx) (f : FrameNo) (a : Nat) (bytes : List Byte) (x y : Bool) :
    Quietly N c (c.mergeBytes f a bytes x y).2 := by
  unfold Ctx.mergeBytes
  dsimp only
  refine Quietly.trans (Quietly.putFrame c ?_ ?_) (.foldl _ _ (fun c n _ => .sectorFilled c f n 0) _)
  · exact fun h => .inl ⟨h, rfl⟩
  · refine fun _ calm => calm.map (fun h => h) fun z hz => ?_
    obtain ⟨x, hx, rfl⟩ := List.mem_map.mp hz
    refine ⟨x, hx, ?_⟩
    split
    · exact x.merge_state _ _ _
    · exact .inl rfl

theorem Quietly.merge {f : FrameNo} {a : Nat} {bytes : List Byte} {x y : Bool} {touched : List Touched}
    (h : c.merge f a bytes x y = .ok (touched, c')) : Quietly N c c' := by
  have merged := Quietly.mergeBytes (N := N) c f a bytes x y
  unfold Ctx.merge at h
  dsimp only at h
  split at h
  · injection h with h
    rw [h] at merged
    exact merged
  · cases h

theorem Quietly.exchange {f : FrameNo} {a : Nat} {bytes old : List Byte} {z : Option Byte} {x y : Bool}
    {given : List Nat} {touched : List Touched}
    (h : c.exchange f a bytes z x y = .ok (old, given, touched, c')) : Quietly N c c' := by
  have merged := Quietly.mergeBytes (N := N) c f a bytes x y
  unfold Ctx.exchange at h
  dsimp only at h
  split at h
  · cases h
    exact merged
  · cases h

/-! #### Frames for orders -/

theorem Quietly.grantHeld (c : Ctx) (f : FrameNo) (he : N e) : Quietly N c (c.grantHeld e f) :=
  (Quietly.touchFrame c f _ _).trans (.modOrder _ _ he)

theorem Quietly.grantNew (c : Ctx) {f : FrameNo} {k : Key} {g : Half} (he : N e)
    (ok : c.frameRefusal k.drive g = none) : Quietly N c (c.grantNew e f k) := by
  have served : (c.drive k.drive).layoutKnown = true ∧ (c.drive k.drive).state = .ready := by
    simp only [State.frameRefusal] at ok
    split at ok
    · cases ok
    · next h => simpa using h
  unfold Ctx.grantNew
  dsimp only
  split
  · exact .refl c
  · refine (Quietly.putFrame c (fun _ => .inr served) fun _ _ _ x hx => ?_).trans (.modOrder _ _ he)
    obtain ⟨n, _, rfl⟩ := List.mem_map.mp hx
    exact ⟨nofun, nofun⟩

theorem Quietly.requestFrame (c : Ctx) (he : N e) : Quietly N c (c.requestFrame e) := by
  have join (w : Waiting) (hw : w.order = e) : Quietly N c { c with fwq := c.fwq ++ [w] } :=
    .queues ⟨rfl, fun x hx => by
      obtain hx | hx := List.mem_append.mp hx
      · exact .inr ⟨x, hx, rfl⟩
      · rw [List.mem_singleton.mp hx, hw]; exact .inl ⟨he, fun _ _ => trivial⟩, fun _ h => h, fun _ => rfl⟩
  unfold Ctx.requestFrame
  split
  · exact .refl c
  · split
    · exact .refl c
    · split
      · exact .endOrder c _ _ he
      · split
        · exact .endOrder c _ _ he
        · next ok =>
          split
          · exact .grantHeld c _ he
          · dsimp only
            split
            · split
              · exact .grantNew c he ok
              · exact join _ rfl
            · exact join _ rfl

theorem Quietly.startTrack (c : Ctx) (t : Nat) (he : N e) : Quietly N c (c.startTrack e t) :=
  (Quietly.modOrder c _ he).trans (.requestFrame _ he)

theorem Quietly.serveOne {acc : Ctx × Bool} {w : Waiting} (he : N w.order) : Quietly N acc.1 (serveOne acc w).1 := by
  obtain ⟨c, blocked⟩ := acc
  have gone : Quietly N c { c with fwq := c.fwq.filter fun x => x.order ≠ w.order } :=
    .queues ⟨rfl, fun x hx => .inr ⟨x, List.mem_of_mem_filter hx, rfl⟩, fun _ h => h, fun _ => rfl⟩
  unfold Machine.serveOne
  dsimp only
  split
  · exact gone.trans (.endOrder _ _ _ he)
  · next ok =>
    split
    · exact gone.trans (.grantHeld _ _ he)
    · split
      · exact .refl c
      · split
        · exact gone.trans (.grantNew _ he ok)
        · exact .refl c

theorem Quietly.serveQueue (c : Ctx) : Quietly N c c.serveQueue := fun hc => by
  have named : ∀ w ∈ c.fwq, N w.order := fun w hw => by_contra fun hn => (hc _ hn).2.1 trivial w hw rfl
  have walk : ∀ (l : List Waiting) (acc : Ctx × Bool), (∀ w ∈ l, N w.order) →
      Quietly N acc.1 (l.foldl Machine.serveOne acc).1 := by
    intro l
    induction l with
    | nil => exact fun acc _ => .refl acc.1
    | cons w l ih =>
      exact fun acc hl => (Quietly.serveOne (hl w (List.mem_cons_self ..))).trans
        (ih _ fun x hx => hl x (List.mem_cons_of_mem _ hx))
  have start : Quietly N c { c with serve := false } :=
    .queues ⟨rfl, fun w hw => .inr ⟨w, hw, rfl⟩, fun _ h => h, fun _ => rfl⟩
  exact start.trans (walk c.fwq ({ c with serve := false }, false) named) hc

/-! #### The cascade -/

theorem Quietly.concludeWrite (c : Ctx) (he : N e) : Quietly N c (c.concludeWrite e) := by
  unfold Ctx.concludeWrite
  split
  · exact .refl c
  · split
    · exact .endOrder c _ _ he
    · split
      · exact .endOrder c _ _ he
      · exact (Quietly.setOrder c _ he).trans (.settleCheck _ he)

theorem Quietly.orderStep (c : Ctx) (he : N e) : Quietly N c (c.orderStep e) := by
  have drop (c : Ctx) (f : FrameNo) (o : Order) : Quietly N c ((c.setOrder e o).dropUse f) :=
    (Quietly.setOrder c o he).trans (.dropUse _ f)
  unfold Ctx.orderStep
  split
  · exact .refl c
  · split
    · dsimp only
      split
      · exact .endOrder c _ _ he
      · split
        · split
          · exact .wantBlocks c _ he
          · next h => exact (Quietly.copyOut h).trans (drop _ _ _)
        · split
          · exact .wantBlocks c _ he
          · next h =>
            split
            · exact ((Quietly.merge h).trans (drop _ _ _)).trans (.startTrack _ _ he)
            · exact ((Quietly.merge h).trans (drop _ _ _)).trans (.concludeWrite _ he)
        · split
          · exact .wantBlocks c _ he
          · next h => exact (Quietly.exchange h).trans (drop _ _ _)
        · exact .refl c
    · exact .refl c

theorem Quietly.advance (c : Ctx) (he : N e) : Quietly N c (c.advance e) := by
  unfold Ctx.advance
  split
  · exact .refl c
  · split
    · exact (Quietly.setOrder c _ he).trans (.wantBlocks _ _ he)
    · exact .orderStep c he

theorem Quietly.cascadeN : ∀ (n : Nat) (c : Ctx), Quietly N c (c.cascadeN n)
  | 0, c => .refl c
  | n + 1, c => by
    unfold Ctx.cascadeN
    split
    · next e h =>
      obtain ⟨o, ho, hf⟩ := State.readyOrder_fill h
      intro hc
      have named : N e := by_contra fun he => ((hc e he).2.2 o ho).not_fill hf
      exact ((Quietly.advance c named).trans (cascadeN n _)) hc
    · split
      · exact (Quietly.serveQueue c).trans (cascadeN n _)
      · exact .refl c

/-- The orders that wait nowhere and go on by no report stand exactly over the cascade of a command, and in SHEDDING it asks for
no read and no check. -/
theorem Ctx.cascade_quiets (c : Ctx) (h : c.Covers N Order.Parked True) : c.Quiets N c.cascade := Quietly.cascadeN _ c h

end Quietly
end Sys2Proof.Machine

-- ==== Sys2Proof/Proofs/Sheddings.lean ====
namespace Sys2Proof.Machine

open Sys2Proof

/-! ### The desks at the leaving of RUNNING (R117, R122) -/

section Parks
variable {c c' c'' : Ctx} {d : DeskNo}

/-- The table wait list is empty, and but for desks and reservations all is as it was. -/
structure Ctx.Parks (c c' : Ctx) : Prop where
  rest : c' = { c with tableWait := c'.tableWait, desks := c'.desks, table := c'.table }
  tableWait : c'.tableWait = []
  orders : ∀ e, c'.order? e = c.order? e

theorem Ctx.Parks.trans (h : c.Parks c') (h' : c'.Parks c'') : c.Parks c'' :=
  ⟨by rw [h'.rest, h.rest], h'.tableWait, fun e => (h'.orders e).trans (h.orders e)⟩

theorem Ctx.Parks.refl (h : c.tableWait = []) : c.Parks c := ⟨rfl, h, fun _ => rfl⟩

/-- A FETCHING desk at its parking (R117). -/
def Ctx.parkDesk (c : Ctx) (d : DeskNo) : Ctx :=
  if (c.desk d).state = .fetching then
    ((c.stopLook d).modDesk d fun k => { k with state := .idle, latch := false }).entryWrite d
  else c

theorem State.reservedFor_slot {s : State} {e : EntryNo} (h : s.reservedFor? d = some e) : s.slot e = .reserved d :=
  beq_iff_eq.mp (List.find?_some (p := fun e => s.slot e == .reserved d) h)

/-- With no desk waiting for an entry, a reservation is freed. -/
theorem Ctx.releaseReservation_parks (c : Ctx) (d : DeskNo) (h : c.tableWait = []) :
    c.Parks (c.releaseReservation d) ∧ (c.releaseReservation d).desks = c.desks := by
  unfold Ctx.releaseReservation
  split
  · next e reserved =>
    have given : c.giveEntry e = c.setSlot e .free := by rw [Ctx.giveEntry, h]
    rw [given]
    refine ⟨⟨rfl, h, fun e' => ?_⟩, rfl⟩
    unfold State.order?
    by_cases he : e' = e
    · subst he
      rw [Ctx.setSlot_slot, State.reservedFor_slot reserved, if_pos rfl]
    · rw [Ctx.setSlot_slot_ne _ _ _ _ he]
  · exact ⟨.refl h, rfl⟩

theorem Ctx.stopLook_parks (c : Ctx) (d : DeskNo) (h : c.tableWait = []) : c.Parks (c.stopLook d)
    ∧ ∀ d', (c.stopLook d).desk d' = if d' = d then { c.desk d with look := .none } else c.desk d' := by
  have ended : c.Parks (({ c with tableWait := c.tableWait.filter (· ≠ d) } : Ctx).modDesk d fun k => { k with look := .none }) :=
    ⟨rfl, by show c.tableWait.filter _ = []; rw [h]; rfl, fun _ => rfl⟩
  obtain ⟨parks, desks⟩ := Ctx.releaseReservation_parks _ d ended.tableWait
  refine ⟨ended.trans parks, fun d' => ?_⟩
  rw [Ctx.stopLook, State.desk, desks]
  exact Ctx.modDesk_desk _ d d' _

theorem Ctx.entryWrite_parks (c : Ctx) (d : DeskNo) (h : c.tableWait = []) : c.Parks (c.entryWrite d)
    ∧ ∀ d', ∃ l, (c.entryWrite d).desk d' = if d' = d then { c.desk d with entryWrites := l } else c.desk d' := by
  unfold Ctx.entryWrite Ctx.beginEntryWrite
  split
  · split
    · exact ⟨⟨rfl, h, fun _ => rfl⟩, fun d' => ⟨_, Ctx.modDesk_desk _ d d' _⟩⟩
    · refine ⟨.refl h, fun d' => ⟨(c.desk d).entryWrites, ?_⟩⟩
      split
      · next eq => rw [eq]
      · rfl
  · refine ⟨.refl h, fun d' => ⟨(c.desk d).entryWrites, ?_⟩⟩
    split
    · next eq => rw [eq]
    · rfl

/-- A desk after its parking, its entry writes left out. -/
def Desk.parked (k : Desk) : Desk :=
  if k.state = .fetching then { k with state := .idle, latch := false, look := .none } else k

theorem Ctx.parkDesk_parks (c : Ctx) (d : DeskNo) (h : c.tableWait = []) : c.Parks (c.parkDesk d)
    ∧ (∀ d', d' ≠ d → (c.parkDesk d).desk d' = c.desk d')
    ∧ ((c.desk d).state ≠ .fetching → (c.parkDesk d).desk d = c.desk d)
    ∧ ((c.desk d).state = .fetching → ∃ l, (c.parkDesk d).desk d = { (c.desk d).parked with entryWrites := l }) := by
  unfold Ctx.parkDesk
  split
  · next fetching =>
    obtain ⟨stops, stopped⟩ := c.stopLook_parks d h
    have idles : (c.stopLook d).Parks ((c.stopLook d).modDesk d fun k => { k with state := .idle, latch := false }) :=
      ⟨rfl, stops.tableWait, fun _ => rfl⟩
    obtain ⟨writes, written⟩ := Ctx.entryWrite_parks _ d idles.tableWait
    refine ⟨(stops.trans idles).trans writes, fun d' hd => ?_, fun away => absurd fetching away, fun _ => ?_⟩
    · obtain ⟨_, eq⟩ := written d'
      rw [eq, if_neg hd, Ctx.modDesk_desk, if_neg hd, stopped, if_neg hd]
    · obtain ⟨l, eq⟩ := written d
      refine ⟨l, ?_⟩
      rw [eq, if_pos rfl, Ctx.modDesk_desk, if_pos rfl, stopped, if_pos rfl, Desk.parked, if_pos fetching]
  · next away =>
    exact ⟨.refl h, fun _ _ => rfl, fun _ => rfl, fun fetching => absurd fetching away⟩

/-- The parking of the desks leaves one that looked at nothing as it was, and of the others the write of the entry is to come. -/
theorem Ctx.parkDesks_parks (c : Ctx) : c.Parks c.parkDesks
    ∧ ∀ d, ((c.desk d).state ≠ .fetching → c.parkDesks.desk d = c.desk d)
      ∧ ((c.desk d).state = .fetching → ∃ l, c.parkDesks.desk d = { (c.desk d).parked with entryWrites := l }) := by
  have start : c.Parks { c with tableWait := [] } := ⟨rfl, rfl, fun _ => rfl⟩
  refine ⟨?_, fun d => ?_⟩
  · have walk : ∀ (l : List DeskNo) (c' : Ctx), c.Parks c' → c.Parks (l.foldl (fun c d => c.parkDesk d) c') := by
      intro l
      induction l with
      | nil => exact fun _ h => h
      | cons d l ih => exact fun c' h => ih _ (h.trans (c'.parkDesk_parks d h.tableWait).1)
    exact walk _ _ start
  · refine Ctx.forDesks_meet (d := d) (k := fun d c => c.parkDesk d)
      (P := fun c' => c.Parks c' ∧ c'.desk d = c.desk d)
      (Q := fun c' => c.Parks c' ∧ ((c.desk d).state ≠ .fetching → c'.desk d = c.desk d)
        ∧ ((c.desk d).state = .fetching → ∃ l, c'.desk d = { (c.desk d).parked with entryWrites := l }))
      { c with tableWait := [] } ⟨start, rfl⟩ (fun d' c' hd h => ?_) (fun c' h => ?_) (fun d' c' hd h => ?_) |>.2
    · obtain ⟨parks, same⟩ := h
      obtain ⟨here, others, _⟩ := c'.parkDesk_parks d' parks.tableWait
      exact ⟨parks.trans here, (others d (Ne.symm hd)).trans same⟩
    · obtain ⟨parks, same⟩ := h
      obtain ⟨here, _, away, fetching⟩ := c'.parkDesk_parks d parks.tableWait
      rw [same] at away fetching
      exact ⟨parks.trans here, away, fetching⟩
    · obtain ⟨parks, away, fetching⟩ := h
      obtain ⟨here, others, _⟩ := c'.parkDesk_parks d' parks.tableWait
      rw [others d (Ne.symm hd)]
      exact ⟨parks.trans here, away, fetching⟩

end Parks

/-! ### The end of a command in SHEDDING (R185) -/

/-- An order stays in its entry, whatever it comes to. -/
theorem Steps.present {N : EntryNo → Prop} {F : Frame → Frame → Prop} {c c' : Ctx} (h : Steps N F c c') {e : EntryNo}
    (here : (c.order? e).isSome = true) : (c'.order? e).isSome = true := by
  induction h with
  | refl => exact here
  | frame f new _ _ _ ih => rwa [State.order?_of_table (Ctx.putFrame_table _ f new) e]
  | order e' o _ _ _ ih =>
    rw [Ctx.setOrder_order?]
    split
    · rfl
    · exact ih
  | report e' o o' _ _ _ ih =>
    rw [Ctx.setOrder_order?]
    split
    · rfl
    · exact ih
  | @queues c1 c2 _ hq ih =>
    have table : c2.order? e = c1.order? e := by rw [hq.rest]; rfl
    rwa [table]

theorem State.tableEmpty_iff (s : State) : s.tableEmpty = true ↔ ∀ e, s.order? e = none := by
  unfold State.tableEmpty State.orders
  rw [List.isEmpty_iff, List.filterMap_eq_nil_iff]
  simp

section Shedding
variable {c : Ctx} {v : DriveNo}

/-- The shed has nothing left to wait for. -/
def State.shedOver (s : State) : Prop := s.tableEmpty = true ∧ s.anySector SectorState.holdsShed = false

/-- The entry to SAFE (R185). -/
def Ctx.enterSafe (c : Ctx) : Ctx := (c.unloadAll.setNotice safeBit).setCtl .safe

theorem Ctx.testDone_shedding (hc : c.ctl = .shedding) (hw : c.warning = true) :
    (c.shedOver → c.testDone = c.enterSafe) ∧ (¬ c.shedOver → c.testDone = c) := by
  have warned : c.enterSafe.warning = true := by
    unfold Ctx.enterSafe
    rw [Ctx.setCtl_rest]
    exact (congrArg View.warning (Ctx.forDrives_view c _ fun v c => c.unloadRequest_view v)).trans hw
  unfold Ctx.testDone State.shedOver
  rw [if_neg (by rw [hc]; exact fun h => nomatch h.1)]
  refine ⟨fun h => ?_, fun h => if_neg fun ⟨_, empty, clean⟩ => h ⟨empty, by simpa using clean⟩⟩
  rw [if_pos ⟨hc, h.1, by simp [h.2]⟩]
  exact if_pos warned

theorem Ctx.enterSafe_view (c : Ctx) :
    c.enterSafe.view = { c.view with ctl := .safe, notice := c.notice ||| bitMask safeBit } := by
  have unloaded : c.unloadAll.view = c.view := Ctx.forDrives_view c _ fun v c => c.unloadRequest_view v
  have told : (c.unloadAll.setNotice safeBit).view = { c.unloadAll.view with notice := c.unloadAll.notice ||| bitMask safeBit } :=
    rfl
  rw [Ctx.enterSafe, Ctx.setCtl_view, told, unloaded, State.view_notice unloaded]

theorem Ctx.enterSafe_heads (c : Ctx) (v : DriveNo) : (c.enterSafe.drive v).heads = .unloaded := by
  have unloaded : c.unloadAll = { c with drives := c.drives.map fun d => { d with heads := .unloaded } } :=
    Ctx.forDrives_modDrive c fun d => { d with heads := .unloaded }
  unfold Ctx.enterSafe
  rw [Ctx.setCtl_rest, unloaded]
  simp [State.drive, Ctx.setNotice]

/-- In SAFE nothing is served (R95). -/
theorem State.served_safe {s : State} (h : s.ctl = .safe) : s.served v = [] := by
  unfold State.served
  rw [List.filter_eq_nil_iff]
  intro x _
  simp [h, CtlState.serves]

/-- At the end of a command in SHEDDING the shed goes on, or SAFE is entered: its NOTICE bit is set and the heads are unloaded. -/
theorem Ctx.finish_shedding (hc : c.ctl = .shedding) (hw : c.warning = true) (cleared : c.Cleared) :
    (¬ c.cascade.shedOver ∧ c.finish.view = c.view)
    ∨ (c.cascade.shedOver ∧ c.finish.view = { c.view with ctl := .safe, notice := c.notice ||| bitMask safeBit }
      ∧ ∀ v, (c.finish.drive v).heads = .unloaded) := by
  have cascaded := c.cascade_view
  obtain ⟨ends, goes⟩ := Ctx.testDone_shedding ((State.view_ctl cascaded).trans hc) ((congrArg View.warning cascaded).trans hw)
  have picked := c.cascade.testDone.picksAndRounds_view
  by_cases done : c.cascade.shedOver
  · have safe : c.cascade.testDone.view = { c.view with ctl := .safe, notice := c.notice ||| bitMask safeBit } := by
      rw [ends done, Ctx.enterSafe_view, cascaded, State.view_notice cascaded]
    refine .inr ⟨done, picked.trans safe, fun v => ?_⟩
    have idle := c.finish_picked.idle (v := v) (State.served_safe (congrArg View.ctl safe)) fun p hp => by
      rw [c.tested_chan]
      exact cleared p hp
    obtain ⟨x, _, same⟩ := idle.drive
    have heads : (c.cascade.testDone.drive v).heads = .unloaded := by
      rw [ends done]
      exact Ctx.enterSafe_heads _ v
    exact (congrArg Drive.heads same).trans heads
  · exact .inl ⟨done, picked.trans (by rw [goes done, cascaded])⟩

/-- While an order stands in the table the shed goes on. -/
theorem Ctx.finish_orderStands (hc : c.ctl = .shedding) (hw : c.warning = true) (h : c.tableEmpty = false) :
    c.finish.view = c.view := by
  have cascaded := c.cascade_view
  obtain ⟨_, goes⟩ := Ctx.testDone_shedding ((State.view_ctl cascaded).trans hc) ((congrArg View.warning cascaded).trans hw)
  have stands : ¬ c.cascade.shedOver := fun ⟨empty, _⟩ => by
    rw [State.tableEmpty_iff] at empty
    have none : c.tableEmpty = true := c.tableEmpty_iff.mpr fun e => by
      cases here : c.order? e with
      | none => rfl
      | some o =>
        have stays := c.cascade_steps.present (e := e) (by rw [here]; rfl)
        rw [empty e] at stays
        cases stays
    rw [h] at none
    cases none
  exact (c.cascade.testDone.picksAndRounds_view).trans (by rw [goes stands, cascaded])

end Shedding
end Sys2Proof.Machine

-- ==== Sys2Proof/Proofs/ShedEntries.lean ====
namespace Sys2Proof.Machine

open Sys2Proof

/-! ### What the entry to SHEDDING leaves of an order, a sector and a frame (R62, R76, R91) -/

section Records
variable {o o' o'' : Order} {x y z : Sector} {a b d : Frame}

/-- The order stands, but that a FORMAT which waits for the job slot hears that it is free (R94). -/
def Order.Freed (o o' : Order) : Prop := o' = o ∨ (o.phase = .busy ∧ o' = { o with phase := .slotFree })

theorem Order.Freed.trans (h : o.Freed o') (h' : o'.Freed o'') : o.Freed o'' := by
  obtain rfl | ⟨busy, rfl⟩ := h
  · exact h'
  · obtain rfl | ⟨busy', _⟩ := h'
    · exact .inr ⟨busy, rfl⟩
    · cases busy'

theorem Order.Freed.alike (h : o.Freed o') : o.Alike o' := by
  obtain rfl | ⟨busy, rfl⟩ := h
  · exact .refl o'
  · exact ⟨rfl, .inr ⟨busy, rfl⟩⟩

theorem Order.Freed.eq (h : o.Freed o') (hp : o.phase ≠ .busy) : o' = o := h.resolve_right fun h => hp h.1

theorem Order.Alike.freed (h : o.Alike o') (same : o' = { o with phase := o'.phase }) : o.Freed o' := by
  obtain phase | ⟨busy, free⟩ := h.phase
  · rw [phase] at same
    exact .inl same
  · rw [free] at same
    exact .inr ⟨busy, same⟩

/-- A sector that is read no more, and one that is checked no more, in SHEDDING (R76, R91). -/
def Sector.unread (x : Sector) : Sector := { x with state := .absent, rush := false }
def Sector.uncheck (x : Sector) : Sector := { x with state := .dirty, check := false, verify := false }

/-- A sector of the store at the entry to SHEDDING (R91). -/
def Sector.shed (x : Sector) : Sector :=
  match x.state with
  | .wanted => x.unread
  | .checkDue => x.uncheck
  | _ => x

/-- A frame of the store at the entry to SHEDDING (R91). -/
def Frame.shed (fr : Frame) : Frame := if fr.held then fr.mapSectors Sector.shed else fr

/-- The sector stands, or its read or check was cut short. -/
inductive Sector.Cut (x : Sector) : Sector → Prop
  | kept : Sector.Cut x x
  | read : x.state = .reading → Sector.Cut x x.unread
  | check : x.state = .checking → Sector.Cut x x.uncheck

theorem Sector.Cut.trans (h : x.Cut y) (h' : y.Cut z) : x.Cut z := by
  cases h with
  | kept => exact h'
  | read hx =>
    cases h' with
    | kept => exact .read hx
    | read hy => cases hy
    | check hy => cases hy
  | check hx =>
    cases h' with
    | kept => exact .check hx
    | read hy => cases hy
    | check hy => cases hy

/-- A sector that is neither read nor checked stands. -/
theorem Sector.Cut.eq (h : x.Cut y) (hr : x.state ≠ .reading) (hc : x.state ≠ .checking) : y = x := by
  cases h with
  | kept => rfl
  | read hx => exact absurd hx hr
  | check hx => exact absurd hx hc

/-- Reads and checks of the frame's sectors were cut short, and uses of it given up; all else of it stands. -/
structure Frame.Cut (a b : Frame) : Prop where
  rest : b = { a with uses := b.uses, sectors := b.sectors }
  length : b.sectors.length = a.sectors.length
  sectors : ∀ (k : Nat) x, a.sectors[k]? = some x → ∃ y, b.sectors[k]? = some y ∧ x.Cut y

theorem Frame.UsesOnly.cut (h : a.UsesOnly b) : a.Cut b :=
  ⟨by rw [h], by rw [h], fun k x hx => ⟨x, by rw [h]; exact hx, .kept⟩⟩

theorem Frame.Cut.refl (a : Frame) : a.Cut a := Frame.UsesOnly.cut rfl

theorem Frame.Cut.trans (h : a.Cut b) (h' : b.Cut d) : a.Cut d := by
  refine ⟨by rw [h'.rest, h.rest], h'.length.trans h.length, fun k x hx => ?_⟩
  obtain ⟨y, hy, cut⟩ := h.sectors k x hx
  obtain ⟨z, hz, cut'⟩ := h'.sectors k y hy
  exact ⟨z, hz, cut.trans cut'⟩

theorem Frame.cut_not_all : ¬ ∀ a b : Frame, a.Cut b := fun h =>
  absurd (congrArg Frame.held (h {} { held := true }).rest) (by simp)

theorem Frame.Cut.held (h : a.Cut b) : b.held = a.held := by rw [h.rest]

/-- A change of one sector record that cuts its read or check. -/
theorem Frame.modSlot_cut {n : Nat} {k : Sector → Sector} (hx : a.sectors[n]? = some x) (cut : x.Cut (k x)) :
    a.Cut (a.modSlot n k) := by
  refine ⟨rfl, List.length_modify .., fun i y hy => ?_⟩
  rw [Frame.modSlot, List.getElem?_modify, hy]
  by_cases hi : n = i
  · subst hi
    rw [hx] at hy
    cases hy
    exact ⟨k x, by simp, cut⟩
  · exact ⟨y, by simp [hi], .kept⟩

theorem Frame.Cut.calm (h : a.Cut b) (calm : a.Calm) : b.Calm := by
  intro held y hy
  obtain ⟨i, hi, at_i⟩ := List.mem_iff_getElem.mp hy
  have hi' : i < a.sectors.length := h.length ▸ hi
  obtain ⟨y', hy', cut⟩ := h.sectors i a.sectors[i] (List.getElem?_eq_getElem hi')
  rw [List.getElem?_eq_getElem hi, at_i] at hy'
  cases hy'
  have stood := calm (h.held ▸ held) _ (List.getElem_mem hi')
  clear at_i
  generalize a.sectors[i] = x at cut stood
  cases cut with
  | kept => exact stood
  | read _ => exact ⟨nofun, nofun⟩
  | check _ => exact ⟨nofun, nofun⟩

theorem Frame.shed_calm (a : Frame) : a.shed.Calm := by
  unfold Frame.shed
  split
  · intro _ y hy
    obtain ⟨x, _, rfl⟩ := List.mem_map.mp hy
    unfold Sector.shed
    split
    · exact ⟨nofun, nofun⟩
    · exact ⟨nofun, nofun⟩
    · next wanted due => exact ⟨wanted, due⟩
  · next free => exact fun held => absurd held free

end Records

/-! ### The entry to SHEDDING, step by step -/

/-- No request of the port's drives is pending. -/
def Channel.NoneAsk (h : Channel) : Prop := h.pendLow = none ∧ h.pendHigh = none

/-- A diskette format left the drive BLANK with cause INCOMPLETE (R174). -/
def Drive.LeftIncomplete (d : Drive) : Prop := d.state = .blank ∧ d.cause = .incomplete ∧ d.layoutKnown = false

/-- The job slot of the drive is free, or Drive Control has posted again. -/
def Drive.JobGone (d : Drive) : Prop := ∀ j, d.sched.job = some j → j.requester = .driveControl

/-- Of a drive its view stands, but that a diskette format may leave it. -/
def Drive.FormatGone (d d' : Drive) : Prop := d'.view = d.view ∨ (d.state = .formatting ∧ d'.LeftIncomplete)

/-- What parts of the entry to SHEDDING leave, where orders that `N` names may end, the jobs of drives that `V` names may go, and
frames change as `F` says. -/
structure Ctx.Sheds (N : EntryNo → Prop) (V : DriveNo → Prop) (F : Frame → Frame → Prop) (c c' : Ctx) : Prop where
  view : c'.view = { c.view with drives := c'.view.drives }
  drives : ∀ v, (c.drive v).FormatGone (c'.drive v)
  orders : ∀ e, ¬ N e → ∀ o, c.order? e = some o → ∃ o', c'.order? e = some o' ∧ o.Freed o'
  absent : ∀ e, ¬ N e → c.order? e = none → c'.order? e = none
  present : ∀ e, (c.order? e).isSome = true → (c'.order? e).isSome = true
  fwq : ∀ w ∈ c'.fwq, ∃ x ∈ c.fwq, x.order = w.order
  waiters : ∀ w ∈ c'.waiters, w ∈ c.waiters
  frames : ∀ f, F (c.frame f) (c'.frame f)
  ready : c.readyOrder? = none → c'.readyOrder? = none
  jobs : ∀ v, (c'.drive v).sched.job = (c.drive v).sched.job ∨ (V v ∧ (c'.drive v).JobGone)
  asks : ∀ p, (c.chan p).NoneAsk → (c'.chan p).NoneAsk

section Sheds
variable {N : EntryNo → Prop} {V : DriveNo → Prop} {F G : Frame → Frame → Prop} {c c' c'' : Ctx} {v : DriveNo} {e : EntryNo}

theorem Drive.LeftIncomplete.of_view {d d' : Drive} (h : d.LeftIncomplete) (view : d'.view = d.view) : d'.LeftIncomplete := by
  obtain ⟨state, cause, known⟩ := Drive.view_shown view
  exact ⟨state.trans h.1, cause.trans h.2.1, known.trans h.2.2⟩

theorem Drive.FormatGone.trans {d d' d'' : Drive} (h : d.FormatGone d') (h' : d'.FormatGone d'') : d.FormatGone d'' := by
  obtain same | ⟨formatting, left⟩ := h
  · obtain same' | ⟨formatting, left⟩ := h'
    · exact .inl (same'.trans same)
    · exact .inr ⟨(congrArg DriveView.state same).symm.trans formatting, left⟩
  · refine .inr ⟨formatting, ?_⟩
    obtain same' | ⟨formatting', _⟩ := h'
    · exact left.of_view same'
    · rw [left.1] at formatting'
      cases formatting'

theorem Drive.FormatGone.left {d d' : Drive} (h : d.FormatGone d') (left : d.LeftIncomplete) : d'.LeftIncomplete := by
  obtain same | ⟨formatting, left⟩ := h
  · exact left.of_view same
  · exact left

theorem Ctx.Sheds.comp (h : c.Sheds N V F c') (h' : c'.Sheds N V G c'') : c.Sheds N V (Relation.Comp F G) c'' where
  view := by rw [h'.view, h.view]
  drives v := (h.drives v).trans (h'.drives v)
  orders e he o ho := by
    obtain ⟨o1, ho1, freed⟩ := h.orders e he o ho
    obtain ⟨o2, ho2, freed'⟩ := h'.orders e he o1 ho1
    exact ⟨o2, ho2, freed.trans freed'⟩
  absent e he ho := h'.absent e he (h.absent e he ho)
  present e ho := h'.present e (h.present e ho)
  fwq w hw := by
    obtain ⟨x, hx, same⟩ := h'.fwq w hw
    obtain ⟨y, hy, same'⟩ := h.fwq x hx
    exact ⟨y, hy, same'.trans same⟩
  waiters w hw := h.waiters w (h'.waiters w hw)
  frames f := ⟨_, h.frames f, h'.frames f⟩
  ready hr := h'.ready (h.ready hr)
  jobs v := by
    obtain same' | gone := h'.jobs v
    · obtain same | ⟨named, gone⟩ := h.jobs v
      · exact .inl (same'.trans same)
      · exact .inr ⟨named, fun j hj => gone j (same' ▸ hj)⟩
    · exact .inr gone
  asks p hp := h'.asks p (h.asks p hp)

theorem Ctx.Sheds.mono (h : c.Sheds N V F c') (hF : ∀ a b, F a b → G a b) : c.Sheds N V G c' :=
  { h with frames := fun f => hF _ _ (h.frames f) }

theorem Ctx.Sheds.trans (h : c.Sheds N V Frame.Cut c') (h' : c'.Sheds N V Frame.Cut c'') : c.Sheds N V Frame.Cut c'' :=
  (h.comp h').mono fun _ _ ⟨_, cut, cut'⟩ => cut.trans cut'

/-- Steps that end orders and cut reads and checks. -/
theorem Ctx.Sheds.of_steps (h : Steps N Frame.Cut c c') (orders : ∀ e, ¬ N e → c'.order? e = c.order? e) :
    c.Sheds N V Frame.Cut c' where
  view := by rw [h.view]
  drives v := .inl (State.view_drive h.view v)
  orders e he o ho := ⟨o, (orders e he).trans ho, .inl rfl⟩
  absent e he ho := (orders e he).trans ho
  present e ho := h.present ho
  fwq w hw := (h.queued w hw).resolve_left fun hN => Frame.cut_not_all hN.2
  waiters := h.waiters.1
  frames := h.frame_rel Frame.Cut.refl (fun _ _ _ => Frame.Cut.trans) fun _ _ h => h
  ready := h.readyOrder_none Frame.cut_not_all
  jobs v := .inl (by rw [(h.drive v).rest])
  asks p hp := by
    rw [State.chan_of_channels h.channels.1]
    exact hp

theorem Ctx.Sheds.refl (c : Ctx) : c.Sheds N V Frame.Cut c := .of_steps .refl fun _ _ => rfl

/-- A change of jobs, channels and marks, which leaves the store and the orders. -/
theorem Ctx.Sheds.of_store (view : c'.view = c.view) (store : c'.store = c.store)
    (orders : ∀ e, (∀ o, c.order? e = some o → ∃ o', c'.order? e = some o' ∧ o.Alike o') ∧ (c.order? e = none → c'.order? e = none))
    (jobs : ∀ v, (c'.drive v).sched.job = (c.drive v).sched.job ∨ (V v ∧ (c'.drive v).JobGone))
    (asks : ∀ p, (c.chan p).NoneAsk → (c'.chan p).NoneAsk) : c.Sheds N V Frame.Cut c' := by
  have freed (e : EntryNo) (o : Order) (ho : c.order? e = some o) : ∃ o', c'.order? e = some o' ∧ o.Freed o' := by
    obtain ⟨o1, ho1, alike⟩ := (orders e).1 o ho
    obtain ⟨o2, ho2, same⟩ := State.order_of_store (s := c.toState) (t := c'.toState) store ho
    rw [ho1] at ho2
    cases ho2
    exact ⟨o1, ho1, alike.freed same⟩
  have frames (f : FrameNo) : c'.frame f = c.frame f := by
    rw [State.frame, show c'.frames = c.frames from congrArg StoreView.frames store]
    rfl
  refine ⟨by rw [view], fun v => .inl (State.view_drive view v), fun e _ => freed e, fun e _ => (orders e).2, fun e ho => ?_,
    fun w hw => ⟨w, ?_, rfl⟩, fun w hw => ?_, fun f => by rw [frames]; exact .refl _, fun hr => ?_, jobs, asks⟩
  · obtain ⟨o, ho⟩ := Option.isSome_iff_exists.mp ho
    obtain ⟨o', ho', _⟩ := freed e o ho
    rw [ho']
    rfl
  · rw [← show c'.fwq = c.fwq from congrArg StoreView.fwq store]
    exact hw
  · rw [← show c'.waiters = c.waiters from congrArg StoreView.waiters store]
    exact hw
  · rw [State.readyOrder_none_iff] at hr ⊢
    intro e o' ho' fills
    cases h0 : c.order? e with
    | none => rw [(orders e).2 h0] at ho'; cases ho'
    | some o =>
      obtain ⟨o1, ho1, alike⟩ := (orders e).1 o h0
      rw [ho1] at ho'
      cases ho'
      have waits := hr e o h0 (alike.stage ▸ fills)
      rw [alike.rest]
      exact waits

theorem Ctx.Jobs.sheds (h : c.Jobs v c') (view : c'.view = c.view) (store : c'.store = c.store)
    (job : (c'.drive v).sched.job = (c.drive v).sched.job ∨ (V v ∧ (c'.drive v).JobGone)) : c.Sheds N V Frame.Cut c' := by
  refine .of_store view store h.orders (fun w => ?_) fun p hp => by rw [State.chan_of_channels h.channels]; exact hp
  by_cases hw : w = v
  · rw [hw]
    exact job
  · exact .inl (by rw [h.others w hw])

theorem Ctx.setChan_sheds (c : Ctx) (p : PortNo) (h : Channel) (hp : (c.chan p).NoneAsk → h.NoneAsk) :
    c.Sheds N V Frame.Cut (c.setChan p h) := by
  refine .of_store rfl rfl (fun _ => ⟨fun o ho => ⟨o, ho, .refl o⟩, fun h => h⟩) (fun _ => .inl rfl) fun q hq => ?_
  rw [Ctx.setChan_chan]
  split
  · next eq =>
    subst eq
    exact hp hq
  · exact hq

theorem Ctx.flagPick_sheds (c : Ctx) (v : DriveNo) : c.Sheds N V Frame.Cut (c.flagPick v) :=
  (c.flagPick_jobs v).sheds (c.flagPick_view v) (c.flagPick_store v) (.inl (by rw [Ctx.flagPick_drive]))

theorem Ctx.refile_sheds (c : Ctx) (v : DriveNo) : c.Sheds N V Frame.Cut (c.refile v) := by
  unfold Ctx.refile
  split
  · have quiet : c.Sheds N V Frame.Cut (c.modSched v fun x => { x with state := .quiet }) :=
      (c.modSched_jobs v _).sheds (c.modSched_view v _) (c.modSched_store v _) (.inl (c.modSched_job v v _ fun _ => rfl))
    exact quiet.trans (Ctx.flagPick_sheds _ v)
  · exact .refl c

theorem Ctx.toIdle_sheds (c : Ctx) (p : PortNo) : c.Sheds N V Frame.Cut (c.toIdle p) := by
  obtain ⟨channels, drives, rounds, eq⟩ := c.toIdle_parts p
  refine .of_store (c.toIdle_view p) (by rw [eq]; rfl)
    (fun e => ⟨fun o ho => ⟨o, by rw [eq]; exact ho, .refl o⟩, fun h => by rw [eq]; exact h⟩) (fun v => .inl (c.toIdle_job p v)) fun q hq => ?_
  unfold Ctx.toIdle
  dsimp only
  have idled (b : Bool) : ((c.setChan p ((c.chan p).idled b)).chan q).NoneAsk := by
    rw [Ctx.setChan_chan]
    split
    · exact ⟨rfl, rfl⟩
    · exact hq
  split
  · exact idled false
  · exact idled true

theorem Ctx.blankIncomplete_sheds (c : Ctx) (v : DriveNo) : c.Sheds N V Frame.Cut (c.blankIncomplete v) := by
  have rest := c.blankIncomplete_rest v
  have sched (w : DriveNo) : ((c.blankIncomplete v).drive w).sched = (c.drive w).sched := by
    by_cases hw : w = v
    · rw [hw, c.blankIncomplete_kept v]
    · rw [c.blankIncomplete_other hw]
  have drive (w : DriveNo) : (c.drive w).FormatGone ((c.blankIncomplete v).drive w) := by
    by_cases hw : w = v
    · subst hw
      by_cases formatting : (c.drive w).state = .formatting
      · obtain ⟨state, cause, known, _⟩ := c.blankIncomplete_drive formatting
        exact .inr ⟨formatting, state, cause, known⟩
      · rw [Ctx.blankIncomplete, if_neg formatting]
        exact .inl rfl
    · rw [c.blankIncomplete_other hw]
      exact .inl rfl
  refine ⟨by rw [rest]; rfl, drive, fun e _ o ho => ⟨o, by rw [rest]; exact ho, .inl rfl⟩, fun e _ ho => by rw [rest]; exact ho,
    fun e ho => by rw [rest]; exact ho, fun w hw => ⟨w, by rw [rest] at hw; exact hw, rfl⟩, fun w hw => by rw [rest] at hw; exact hw,
    fun f => by rw [rest]; exact .refl _, fun hr => by rw [rest]; exact hr, fun w => .inl (by rw [sched]),
    fun p hp => by rw [rest]; exact hp⟩

/-! #### Orders end -/

/-- No CHECKOUT waits for an order that is not named. -/
def Ctx.Apart (N : EntryNo → Prop) (c : Ctx) : Prop := ∀ e, ¬ N e → ∀ w ∈ c.waiters, w.order ≠ e

theorem Ctx.Sheds.apart (h : c.Sheds N V F c') (apart : c.Apart N) : c'.Apart N := fun e he w hw => apart e he w (h.waiters w hw)

theorem Ctx.endOrder_sheds (c : Ctx) (code : Code) (n : Nat) (he : N e) (apart : c.Apart N) :
    c.Sheds N V Frame.Cut (c.endOrder e code n) := by
  refine .of_steps (Works.endOrder (P := fun _ => True) (Q := False) (fun _ _ => Frame.UsesOnly.cut rfl) c code n he
    (fun _ _ _ _ => trivial) fun e' he' => ⟨apart e' he', False.elim, fun _ _ => trivial⟩) fun e' he' => ?_
  refine c.endOrder_other code n ?_ (apart e' he')
  rintro rfl
  exact he' he

theorem Ctx.abandonAllWaiters_sheds (c : Ctx) (apart : c.Apart N) : c.Sheds N V Frame.Cut c.abandonAllWaiters :=
  .of_steps (Works.endWaiters (P := fun _ => True) (Q := False) (fun _ _ => Frame.UsesOnly.cut rfl) c _ _
    (fun _ _ _ _ => trivial) fun e' he' => ⟨apart e' he', False.elim, fun _ _ => trivial⟩) fun e' he' =>
      c.endWaiters_other _ _ (apart e' he')

/-! #### The job slot -/

theorem Ctx.postDiscover_gone (h : (c.drive v).JobGone) : ((c.postDiscover v).drive v).JobGone := by
  unfold Ctx.postDiscover Ctx.postJob
  dsimp only
  split
  · exact h
  · split
    · exact h
    · split
      · split
        · exact h
        · rw [Ctx.modSched, Ctx.modDrive, Ctx.setDrive_drive_self]
          exact h
      · rw [Ctx.flagPick_drive, Ctx.raiseMarks, Ctx.modDrive, Ctx.setDrive_drive_self, Ctx.modSched, Ctx.modDrive,
          Ctx.setDrive_drive_self]
        intro j hj
        cases hj
        rfl

/-- After the end of a track job the slot is free, or Drive Control has posted. -/
theorem Ctx.jobEnded_gone (c : Ctx) (v : DriveNo) : ((c.jobEnded v).drive v).JobGone := by
  have told : ∀ (rs : List Requester) (c : Ctx), (c.drive v).JobGone →
      ((rs.foldl (fun c r => c.slotFreeTo v r) c).drive v).JobGone := by
    intro rs
    induction rs with
    | nil => exact fun _ h => h
    | cons r rs ih =>
      intro c h
      refine ih _ ?_
      by_cases hr : r = .driveControl ∧ (c.drive v).state = .discovery
      · obtain ⟨rfl, discovery⟩ := hr
        have posts : c.slotFreeTo v .driveControl = c.postDiscover v := if_pos discovery
        simp only [posts]
        exact Ctx.postDiscover_gone h
      · rw [c.slotFreeTo_drive v r fun h1 h2 => hr ⟨h1, h2⟩]
        exact h
  refine told _ _ ?_
  rw [Ctx.modSched, Ctx.modDrive, Ctx.setDrive_drive_self]
  exact nofun

theorem Ctx.jobEnded_sheds (c : Ctx) (hv : V v) : c.Sheds N V Frame.Cut (c.jobEnded v) :=
  (c.jobEnded_jobs v).sheds (c.jobEnded_view v) (c.jobEnded_store v) (.inr ⟨hv, c.jobEnded_gone v⟩)

theorem Ctx.withdrawJob_sheds (c : Ctx) (hv : V v) : c.Sheds N V Frame.Cut (c.withdrawJob v) := by
  have withdrawn : c.Sheds N V Frame.Cut (c.withdraw v) := by
    refine c.setChan_sheds _ _ fun ⟨low, high⟩ => ?_
    unfold Channel.setPend
    split
    · exact ⟨rfl, high⟩
    · exact ⟨low, rfl⟩
  unfold Ctx.withdrawJob
  dsimp only
  split
  · split
    · exact withdrawn.trans (Ctx.jobEnded_sheds _ hv)
    · exact c.jobEnded_sheds hv
  · exact c.jobEnded_sheds hv

theorem Ctx.listenEnd_sheds (c : Ctx) (p : PortNo) (r : Request) (hv : V r.drive) :
    c.Sheds N V Frame.Cut (c.listenEnd p r none) := by
  have ended := (c.jobEnded_sheds (N := N) hv).trans (Ctx.toIdle_sheds _ p)
  have gone : (((c.jobEnded r.drive).toIdle p).drive r.drive).JobGone := fun j hj => by
    rw [Ctx.toIdle_job] at hj
    exact c.jobEnded_gone r.drive j hj
  unfold Ctx.listenEnd Ctx.discoveryReport
  dsimp only
  split
  · exact ended
  · exact ended.trans ((Ctx.postDiscover_jobs _ r.drive).sheds (Ctx.postDiscover_view _ _) (Ctx.postJob_store _ _ _)
      (.inr ⟨hv, Ctx.postDiscover_gone gone⟩))

end Sheds
end Sys2Proof.Machine

-- ==== Sys2Proof/Proofs/ShedParts.lean ====
namespace Sys2Proof.Machine

open Sys2Proof

/-! ### The parts of the entry to SHEDDING: the store, the ports, the orders and the FORMATs (R62, R91, R152, R174) -/

section Ports
variable {N : EntryNo → Prop} {V : DriveNo → Prop} {c c' : Ctx} {p : PortNo} {r : Request} {k : Key} {n a : Nat} {b : List Byte}

/-! #### The store (R91) -/

/-- The store at one frame. -/
def Ctx.shedFrame (c : Ctx) (f : FrameNo) : Ctx :=
  if (c.frame f).held then c.putFrame f ((c.frame f).mapSectors Sector.shed) else c

theorem Ctx.storeShed_eq (c : Ctx) : c.storeShed = c.forFrames fun f c => c.shedFrame f := rfl

theorem Ctx.shedFrame_steps (c : Ctx) (f : FrameNo) : Steps N (fun _ _ => True) c (c.shedFrame f) := by
  unfold Ctx.shedFrame
  split
  · exact .frame f _ .refl trivial fun h => .inl ⟨h, rfl⟩
  · exact .refl

theorem Ctx.shedFrame_table (c : Ctx) (f : FrameNo) : (c.shedFrame f).table = c.table := by
  unfold Ctx.shedFrame
  split
  · exact c.putFrame_table f _
  · rfl

theorem Ctx.shedFrame_frame (c : Ctx) (g f : FrameNo) :
    (c.shedFrame g).frame f = if f = g then (c.frame g).shed else c.frame f := by
  unfold Ctx.shedFrame Frame.shed
  split
  · rw [Ctx.putFrame_frame]
  · split
    · next eq => rw [eq]
    · rfl

theorem Ctx.storeShed_steps (c : Ctx) : Steps N (fun _ _ => True) c c.storeShed := by
  have walk : ∀ (l : List FrameNo) (c : Ctx), Steps N (fun _ _ => True) c (l.foldl (fun c f => c.shedFrame f) c) := by
    intro l
    induction l with
    | nil => exact fun _ => .refl
    | cons f l ih => exact fun c => (c.shedFrame_steps f).trans (ih _)
  exact walk _ c

theorem Ctx.storeShed_table (c : Ctx) : c.storeShed.table = c.table := by
  rw [Ctx.storeShed_eq, Ctx.forFrames]
  exact foldl_keeps (fun c : Ctx => c.table) (fun c f => c.shedFrame f) (fun c f => c.shedFrame_table f) _ c

theorem Ctx.storeShed_frame (c : Ctx) (f : FrameNo) : c.storeShed.frame f = (c.frame f).shed := by
  rw [Ctx.storeShed_eq]
  refine Ctx.forFrames_meet (f := f) (P := fun c' => c'.frame f = c.frame f) (Q := fun c' => c'.frame f = (c.frame f).shed) c rfl
    (fun g c' hg h => ?_) (fun c' h => ?_) (fun g c' hg h => ?_)
  · rw [Ctx.shedFrame_frame, if_neg (Ne.symm hg), h]
  · rw [Ctx.shedFrame_frame, if_pos rfl, h]
  · rw [Ctx.shedFrame_frame, if_neg (Ne.symm hg), h]

theorem Ctx.storeShed_sheds (c : Ctx) : c.Sheds N V (fun a b => b = a.shed) c.storeShed := by
  have steps := c.storeShed_steps (N := fun _ => False)
  have order (e : EntryNo) : c.storeShed.order? e = c.order? e := State.order?_of_table c.storeShed_table e
  refine ⟨by rw [steps.view], fun v => .inl (State.view_drive steps.view v), fun e _ o ho => ⟨o, (order e).trans ho, .inl rfl⟩,
    fun e _ ho => (order e).trans ho, fun e ho => by rw [order]; exact ho, fun w hw => (steps.fwq w hw).resolve_left id,
    steps.waiters.1, c.storeShed_frame, fun hr => ?_, fun v => .inl (by rw [(steps.drive v).rest]), fun p hp => ?_⟩
  · rw [State.readyOrder_none_iff] at hr ⊢
    intro e o ho
    exact hr e o ((order e).symm.trans ho)
  · rw [State.chan_of_channels steps.channels.1]
    exact hp

/-! #### An attempt that is cut short (R50, R62, R76) -/

/-- A read or a check that ends ABANDONED is counted nowhere and owes nothing (R52, R53). -/
theorem Ctx.endAttempt_cut (hw : (c.chan p).work = some r) :
    c.endAttempt p .abandoned = ((c.modChan p fun h => h.closeGate c.g).reportOutcome p r .abandoned).toIdle p := by
  have counted (c : Ctx) : c.countOutcome r .abandoned = c := by
    unfold Ctx.countOutcome State.outcomeCounters
    cases r.kind <;> simp [Outcome.failed]
  have owed (c : Ctx) : c.oweRecal p r .abandoned = c := by
    simp [Ctx.oweRecal, owesRecal, Outcome.failed]
  rw [Ctx.endAttempt, hw]
  dsimp only
  rw [counted, owed]
  rfl

/-- A change of the sector of a key, where it is in a state: what a report of an ABANDONED attempt is. -/
def Ctx.cutSector (c : Ctx) (k : Key) (n : Nat) (st : SectorState) (g : Sector → Sector) : Ctx :=
  match c.sectorAt k n with
  | none => c
  | some (f, x) => if x.state = st then c.modSector f n g else c

theorem Ctx.readOutcome_abandoned (c : Ctx) (k : Key) (n a : Nat) (b : List Byte) :
    c.readOutcome k n a .abandoned b = c.cutSector k n .reading Sector.unread := by
  unfold Ctx.readOutcome Ctx.cutSector
  cases c.sectorAt k n with
  | none => rfl
  | some found =>
    obtain ⟨f, x⟩ := found
    dsimp only
    by_cases hx : x.state = .reading
    · rw [if_neg (not_not.mpr hx), if_neg (by decide), if_neg (by decide), if_pos hx]
      rfl
    · rw [if_pos hx, if_neg hx]

theorem Ctx.checkOutcome_abandoned (c : Ctx) (k : Key) (n a : Nat) (hc : c.ctl = .shedding) :
    c.checkOutcome k n a .abandoned = c.cutSector k n .checking Sector.uncheck := by
  unfold Ctx.checkOutcome Ctx.cutSector
  cases c.sectorAt k n with
  | none => rfl
  | some found =>
    obtain ⟨f, x⟩ := found
    dsimp only
    by_cases hx : x.state = .checking
    · rw [if_neg (not_not.mpr hx), if_neg (by decide), if_neg (by decide), if_pos hx, hc]
      rfl
    · rw [if_pos hx, if_neg hx]

theorem Ctx.cutSector_table (c : Ctx) (k : Key) (n : Nat) (st : SectorState) (g : Sector → Sector) :
    (c.cutSector k n st g).table = c.table := by
  unfold Ctx.cutSector
  split
  · rfl
  · split
    · exact c.putFrame_table _ _
    · rfl

theorem Ctx.cutSector_steps (c : Ctx) (k : Key) (n : Nat) {st : SectorState} {g : Sector → Sector}
    (cut : ∀ x : Sector, x.state = st → x.Cut (g x)) : Steps N Frame.Cut c (c.cutSector k n st g) := by
  unfold Ctx.cutSector
  split
  · exact .refl
  · next f x found =>
    split
    · next hx => exact .frame f _ .refl (Frame.modSlot_cut (State.sectorAt_some found) (cut x hx)) fun h => .inl ⟨h, rfl⟩
    · exact .refl

theorem Ctx.cutSector_sheds (c : Ctx) (k : Key) (n : Nat) {st : SectorState} {g : Sector → Sector}
    (cut : ∀ x : Sector, x.state = st → x.Cut (g x)) : c.Sheds N V Frame.Cut (c.cutSector k n st g) :=
  .of_steps (c.cutSector_steps k n cut) fun e _ => State.order?_of_table (c.cutSector_table k n st g) e

theorem Ctx.cutSector_sector (c : Ctx) {k : Key} {n : Nat} {st : SectorState} (g : Sector → Sector) {f : FrameNo} {x : Sector}
    (found : c.sectorAt k n = some (f, x)) (hx : x.state = st) :
    ((c.cutSector k n st g).frame f).sectors[n]? = some (g x) := by
  have here := State.sectorAt_some found
  unfold Ctx.cutSector
  rw [found]
  dsimp only
  rw [if_pos hx, (c.modSector_sectors here g).1]
  exact List.getElem?_set_self (List.getElem?_eq_some_iff.mp here).1

/-- The report of the port's work, cut short. -/
theorem Ctx.reportOutcome_abandoned (c : Ctx) (p : PortNo) (r : Request) (hc : c.ctl = .shedding) :
    (r.kind = .read → c.reportOutcome p r .abandoned
      = c.cutSector ⟨r.drive, r.cylinder, r.head⟩ r.slot .reading Sector.unread)
    ∧ (r.kind = .check → c.reportOutcome p r .abandoned
      = c.cutSector ⟨r.drive, r.cylinder, r.head⟩ r.slot .checking Sector.uncheck) := by
  unfold Ctx.reportOutcome
  refine ⟨fun hk => ?_, fun hk => ?_⟩
  · rw [hk]
    exact c.readOutcome_abandoned _ _ _ _
  · rw [hk]
    exact c.checkOutcome_abandoned _ _ _ hc

/-! #### A port at the entry to SHEDDING (R40, R62) -/

/-- The port's work is cut at the entry to SHEDDING: a read, a check or a listening revolution. -/
def Ctx.cutShed (c : Ctx) (p : PortNo) : Ctx :=
  match (c.chan p).work with
  | none => c
  | some r =>
    if r.kind = .read ∨ r.kind = .check then c.endAttempt p .abandoned
    else if r.kind = .discover then c.listenEnd p r none
    else c

/-- The port's pending requests go. -/
def Ctx.dropAsks (c : Ctx) (p : PortNo) : Ctx := c.modChan p fun h => { h with pendLow := none, pendHigh := none }

theorem Ctx.channelShed_eq (c : Ctx) (p : PortNo) : c.channelShed p = (c.dropAsks p).cutShed p := rfl

theorem Ctx.dropAsks_work (c : Ctx) (p q : PortNo) : ((c.dropAsks p).chan q).work = (c.chan q).work := by
  rw [Ctx.dropAsks, Ctx.modChan, Ctx.setChan_chan]
  split
  · next eq => rw [eq]
  · rfl

theorem Ctx.dropAsks_sheds (c : Ctx) (p : PortNo) : c.Sheds N V Frame.Cut (c.dropAsks p) :=
  c.setChan_sheds p _ fun _ => ⟨rfl, rfl⟩

theorem Ctx.closeGate_sheds (c : Ctx) (p : PortNo) : c.Sheds N V Frame.Cut (c.modChan p fun h => h.closeGate c.g) :=
  c.setChan_sheds p _ fun h => by
    dsimp only
    rw [Channel.closeGate_eq]
    exact h

theorem Ctx.cutShed_sheds (c : Ctx) (p : PortNo) (hc : c.ctl = .shedding)
    (hV : ∀ r, (c.chan p).work = some r → r.kind = .discover → V r.drive) : c.Sheds N V Frame.Cut (c.cutShed p) := by
  unfold Ctx.cutShed
  split
  · exact .refl c
  · next r work =>
    split
    · next kind =>
      have report (c : Ctx) (hc : c.ctl = .shedding) : c.Sheds N V Frame.Cut (c.reportOutcome p r .abandoned) := by
        obtain ⟨read, check⟩ := c.reportOutcome_abandoned p r hc
        obtain hk | hk := kind
        · rw [read hk]
          exact c.cutSector_sheds _ _ fun _ => .read
        · rw [check hk]
          exact c.cutSector_sheds _ _ fun _ => .check
      rw [Ctx.endAttempt_cut work]
      exact ((c.closeGate_sheds p).trans (report _ hc)).trans (Ctx.toIdle_sheds _ p)
    · split
      · next kind => exact c.listenEnd_sheds p r (hV r work kind)
      · exact .refl c

theorem Ctx.toIdle_chan_ne (c : Ctx) {p q : PortNo} (h : q ≠ p) : (c.toIdle p).chan q = c.chan q := by
  unfold Ctx.toIdle
  dsimp only
  split
  · exact Ctx.setChan_chan_ne _ _ _ _ h
  · exact Ctx.setChan_chan_ne _ _ _ _ h

theorem Ctx.cutSector_channels (c : Ctx) (k : Key) (n : Nat) (st : SectorState) (g : Sector → Sector) :
    (c.cutSector k n st g).channels = c.channels := by
  unfold Ctx.cutSector
  split
  · rfl
  · split
    · exact c.putFrame_channels _ _
    · rfl

/-- The other port's channel stands. -/
theorem Ctx.cutShed_chan_ne (c : Ctx) {q : PortNo} (hc : c.ctl = .shedding) (hq : q ≠ p) : (c.cutShed p).chan q = c.chan q := by
  unfold Ctx.cutShed
  split
  · rfl
  · next r work =>
    split
    · next kind =>
      have report (c : Ctx) (hc : c.ctl = .shedding) : (c.reportOutcome p r .abandoned).chan q = c.chan q := by
        obtain ⟨read, check⟩ := c.reportOutcome_abandoned p r hc
        obtain hk | hk := kind
        · rw [read hk]
          exact State.chan_of_channels (c.cutSector_channels _ _ _ _) q
        · rw [check hk]
          exact State.chan_of_channels (c.cutSector_channels _ _ _ _) q
      rw [Ctx.endAttempt_cut work, Ctx.toIdle_chan_ne _ hq, report (c.modChan p fun h => h.closeGate c.g) hc,
        Ctx.modChan, Ctx.setChan_chan_ne _ _ _ _ hq]
    · split
      · have ended : ((c.jobEnded r.drive).toIdle p).chan q = c.chan q := by
          rw [Ctx.toIdle_chan_ne _ hq, State.chan_of_channels (c.jobEnded_jobs r.drive).channels]
        unfold Ctx.listenEnd Ctx.discoveryReport
        dsimp only
        split
        · exact ended
        · rw [State.chan_of_channels (Ctx.postDiscover_jobs _ r.drive).channels]
          exact ended
      · rfl

theorem Ctx.channelShed_sheds (c : Ctx) (p : PortNo) (hc : c.ctl = .shedding)
    (hV : ∀ r, (c.chan p).work = some r → r.kind = .discover → V r.drive) : c.Sheds N V Frame.Cut (c.channelShed p) := by
  rw [Ctx.channelShed_eq]
  exact (c.dropAsks_sheds p).trans (Ctx.cutShed_sheds _ p hc fun r work => hV r ((c.dropAsks_work p p).symm.trans work))

/-- No request of the port is left pending (R40). -/
theorem Ctx.channelShed_asks (c : Ctx) (p : PortNo) (hc : c.ctl = .shedding) : ((c.channelShed p).chan p).NoneAsk := by
  have cut : (c.dropAsks p).Sheds (fun _ => True) (fun _ => True) Frame.Cut (c.channelShed p) :=
    Ctx.cutShed_sheds _ p hc fun _ _ _ => trivial
  refine cut.asks p ?_
  rw [Ctx.dropAsks, Ctx.modChan, Ctx.setChan_chan_self]
  exact ⟨rfl, rfl⟩

theorem Ctx.channelShed_chan_ne (c : Ctx) {q : PortNo} (hc : c.ctl = .shedding) (hq : q ≠ p) :
    (c.channelShed p).chan q = c.chan q := by
  rw [Ctx.channelShed_eq, Ctx.cutShed_chan_ne (c.dropAsks p) hc hq, Ctx.dropAsks, Ctx.modChan, Ctx.setChan_chan_ne _ _ _ _ hq]

/-- The sector that the port reads or checks is cut (R62, R76). -/
theorem Ctx.channelShed_sector (c : Ctx) (hc : c.ctl = .shedding) (work : (c.chan p).work = some r) {f : FrameNo} {x : Sector}
    (found : c.sectorAt ⟨r.drive, r.cylinder, r.head⟩ r.slot = some (f, x)) :
    (r.kind = .read → x.state = .reading → ((c.channelShed p).frame f).sectors[r.slot]? = some x.unread)
    ∧ (r.kind = .check → x.state = .checking → ((c.channelShed p).frame f).sectors[r.slot]? = some x.uncheck) := by
  have idled (c : Ctx) : (c.toIdle p).frames = c.frames := by
    obtain ⟨channels, drives, rounds, eq⟩ := c.toIdle_parts p
    rw [eq]
  have frame (c : Ctx) : (c.toIdle p).frame f = c.frame f := by
    rw [State.frame, idled]
    rfl
  have worked := (c.dropAsks_work p p).trans work
  have shed (h : r.kind = .read ∨ r.kind = .check) : (c.channelShed p).frame f
      = (((c.dropAsks p).modChan p fun h => h.closeGate c.g).reportOutcome p r .abandoned).frame f := by
    rw [Ctx.channelShed_eq, Ctx.cutShed, worked]
    dsimp only
    rw [if_pos h, Ctx.endAttempt_cut worked, frame]
    rfl
  obtain ⟨read, check⟩ := Ctx.reportOutcome_abandoned ((c.dropAsks p).modChan p fun h => h.closeGate c.g) p r hc
  refine ⟨fun hk hx => ?_, fun hk hx => ?_⟩
  · rw [shed (.inl hk), read hk]
    exact Ctx.cutSector_sector _ _ found hx
  · rw [shed (.inr hk), check hk]
    exact Ctx.cutSector_sector _ _ found hx

/-! #### The orders (R152) -/

/-- The entry to SHEDDING at one order. -/
def Ctx.shedOrder (c : Ctx) (e : EntryNo) : Ctx :=
  match c.order? e with
  | none => c
  | some o => if o.shedEnds then c.endOrder e .abandoned 0 else c

theorem Ctx.engineShed_eq (c : Ctx) : c.engineShed = c.forEntries fun e c => c.shedOrder e := rfl

theorem Order.Freed.shedEnds {o o' : Order} (h : o.Freed o') : o'.shedEnds = o.shedEnds := by
  obtain rfl | ⟨_, rfl⟩ := h
  · rfl
  · rfl

/-- The shed names every order that it ends. -/
def Ctx.NamesShed (N : EntryNo → Prop) (c : Ctx) : Prop := ∀ e o, c.order? e = some o → o.shedEnds = true → N e

theorem Ctx.Sheds.namesShed {F : Frame → Frame → Prop} (h : c.Sheds N V F c') (names : c.NamesShed N) : c'.NamesShed N := by
  intro e o' ho' ends
  by_contra he
  cases h0 : c.order? e with
  | none => rw [h.absent e he h0] at ho'; cases ho'
  | some o =>
    obtain ⟨o1, ho1, freed⟩ := h.orders e he o h0
    rw [ho1] at ho'
    cases ho'
    exact he (names e o h0 (freed.shedEnds ▸ ends))

theorem Ctx.shedOrder_sheds (c : Ctx) (e : EntryNo) (names : c.NamesShed N) (apart : c.Apart N) :
    c.Sheds N V Frame.Cut (c.shedOrder e) := by
  unfold Ctx.shedOrder
  split
  · exact .refl c
  · next o ho =>
    split
    · next ends => exact c.endOrder_sheds _ _ (names e o ho ends) apart
    · exact .refl c

theorem Ctx.engineShed_sheds (c : Ctx) (names : c.NamesShed N) (apart : c.Apart N) : c.Sheds N V Frame.Cut c.engineShed := by
  have walk : ∀ (l : List EntryNo) (c : Ctx), c.NamesShed N → c.Apart N →
      c.Sheds N V Frame.Cut (l.foldl (fun c e => c.shedOrder e) c) := by
    intro l
    induction l with
    | nil => exact fun c _ _ => .refl c
    | cons e l ih =>
      intro c names apart
      have one : c.Sheds N V Frame.Cut (c.shedOrder e) := c.shedOrder_sheds e names apart
      exact one.trans (ih _ (one.namesShed names) (one.apart apart))
  exact walk _ c names apart

/-! #### The FORMATs (R174) -/

theorem Ctx.abandonFormat_sheds (c : Ctx) {e : EntryNo} (o : Order) (v : DriveNo) (he : N e) (apart : c.Apart N) :
    c.Sheds N V Frame.Cut (c.abandonFormat e o v) := by
  unfold Ctx.abandonFormat
  split
  · have blank : c.Sheds N V Frame.Cut (c.blankIncomplete v) := c.blankIncomplete_sheds v
    exact blank.trans (Ctx.endOrder_sheds _ _ _ he (blank.apart apart))
  · exact c.endOrder_sheds _ _ he apart

/-- A FORMAT's job at its drive. -/
theorem State.jobOf?_some {s : State} {v : DriveNo} {e : EntryNo} {j : Job} :
    s.jobOf? v e = some j ↔ (s.drive v).sched.job = some j ∧ j.requester = .format e := by
  unfold State.jobOf?
  cases h : (s.drive v).sched.job with
  | none => simp
  | some j' =>
    dsimp only
    split
    · next requester =>
      exact ⟨fun h => by cases h; exact ⟨rfl, requester⟩, fun h => h.1⟩
    · next other =>
      exact ⟨fun h => (nomatch h), fun ⟨h, requester⟩ => by cases h; exact absurd requester other⟩

theorem Ctx.formatAtShed_sheds (c : Ctx) {e : EntryNo} (he : N e) (apart : c.Apart N)
    (hV : ∀ v j, c.jobOf? v e = some j → V v) : c.Sheds N V Frame.Cut (c.formatAtShed e) := by
  unfold Ctx.formatAtShed
  split
  · exact .refl c
  · next o v _ =>
    split
    · next j job =>
      split
      · exact .refl c
      · have withdrawn : c.Sheds N V Frame.Cut (c.withdrawJob v) := c.withdrawJob_sheds (hV v j job)
        exact withdrawn.trans (Ctx.abandonFormat_sheds _ o v he (withdrawn.apart apart))
    · exact c.abandonFormat_sheds o v he apart

/-- An order that has ended is no FORMAT to be ended. -/
theorem Ctx.formatAtShed_finished (c : Ctx) {e : EntryNo} (h : ∀ o, c.order? e = some o → o.stage = .finish) :
    c.formatAtShed e = c := by
  rw [Ctx.formatAtShed, State.format?_finished h]

theorem Ctx.refiles_sheds (c : Ctx) : c.Sheds N V Frame.Cut (c.forDrives fun v c => c.refile v) := by
  have walk : ∀ (l : List DriveNo) (c : Ctx), c.Sheds N V Frame.Cut (l.foldl (fun c v => c.refile v) c) := by
    intro l
    induction l with
    | nil => exact fun c => .refl c
    | cons v l ih => exact fun c => (c.refile_sheds v).trans (ih _)
  exact walk _ c

end Ports
end Sys2Proof.Machine

-- ==== Sys2Proof/Proofs/ShedEnds.lean ====
namespace Sys2Proof.Machine

open Sys2Proof

/-! ### What the entry to SHEDDING ends, and what is left where nothing is (R91, R152, R154, R174, R185) -/

/-! #### A table without orders (R185) -/

section Bare
variable {c : Ctx}

/-- The table holds no order, and what is held of the diskettes is empty. -/
def Ctx.Bare (c : Ctx) : Prop :=
  (∀ e, c.order? e = none) ∧ ∀ f, (c.frame f).held = true → ∀ x ∈ (c.frame f).sectors, x.state = .absent

theorem Ctx.Bare.putFrame (h : c.Bare) (f : FrameNo) {new : Frame}
    (hn : new.held = true → ∀ x ∈ new.sectors, x.state = .absent) : (c.putFrame f new).Bare := by
  refine ⟨fun e => (State.order?_of_table (c.putFrame_table f new) e).trans (h.1 e), fun g => ?_⟩
  rw [Ctx.putFrame_frame]
  split
  · exact hn
  · exact h.2 g

theorem Ctx.Bare.endOrder (h : c.Bare) (e : EntryNo) (code : Code) (n : Nat) : c.endOrder e code n = c :=
  c.endOrder_finished e code n fun o ho => by rw [h.1 e] at ho; cases ho

theorem Ctx.Bare.modOrder (h : c.Bare) (e : EntryNo) (k : Order → Order) : (c.modOrder e k).Bare := by
  rw [Ctx.modOrder, h.1 e]
  exact h

theorem Ctx.Bare.grantHeld (h : c.Bare) (e : EntryNo) (f : FrameNo) : (c.grantHeld e f).Bare :=
  Ctx.Bare.modOrder (h.putFrame f (new := { c.frame f with uses := (c.frame f).uses + 1, lru := c.g }) (h.2 f)) e _

theorem Ctx.Bare.grantNew (h : c.Bare) (e : EntryNo) (f : FrameNo) (k : Key) : (c.grantNew e f k).Bare := by
  unfold Ctx.grantNew
  dsimp only
  split
  · exact h
  · refine Ctx.Bare.modOrder (h.putFrame f fun _ x hx => ?_) e _
    obtain ⟨n, _, rfl⟩ := List.mem_map.mp hx
    rfl

theorem Ctx.Bare.serveOne {acc : Ctx × Bool} (h : acc.1.Bare) (w : Waiting) : (serveOne acc w).1.Bare := by
  obtain ⟨c, blocked⟩ := acc
  have gone : ({ c with fwq := c.fwq.filter fun x => x.order ≠ w.order } : Ctx).Bare := h
  unfold Machine.serveOne
  dsimp only
  split
  · rw [gone.endOrder]
    exact gone
  · split
    · exact gone.grantHeld _ _
    · split
      · exact h
      · split
        · exact gone.grantNew _ _ _
        · exact h

theorem Ctx.Bare.cascadeN : ∀ (n : Nat) {c : Ctx}, c.Bare → (c.cascadeN n).Bare
  | 0, _, h => h
  | n + 1, c, h => by
    have served : c.serveQueue.Bare := by
      have walk : ∀ (l : List Waiting) (acc : Ctx × Bool), acc.1.Bare → (l.foldl Machine.serveOne acc).1.Bare := by
        intro l
        induction l with
        | nil => exact fun _ h => h
        | cons w l ih => exact fun acc h => ih _ (h.serveOne w)
      exact walk c.fwq ({ c with serve := false }, false) h
    have ready : c.readyOrder? = none := c.readyOrder_none fun e o ho => by rw [h.1 e] at ho; cases ho
    unfold Ctx.cascadeN
    rw [ready]
    dsimp only
    split
    · exact Ctx.Bare.cascadeN n served
    · exact h

/-- Nothing is left to save. -/
theorem Ctx.Bare.shedOver (h : c.Bare) : c.shedOver := by
  refine ⟨c.tableEmpty_iff.mpr h.1, ?_⟩
  have clean (v : DriveNo) : c.countSectors v SectorState.holdsShed = 0 := by
    unfold State.countSectors
    refine List.sum_eq_zero fun n hn => ?_
    obtain ⟨fr, hfr, rfl⟩ := List.mem_map.mp hn
    rw [List.countP_eq_zero]
    intro x hx
    have held := List.mem_filter.mp hfr
    obtain ⟨i, hi, rfl⟩ := Vector.mem_iff_getElem.mp (Vector.mem_toList_iff.mp held.1)
    rw [h.2 ⟨i, hi⟩ (Bool.and_eq_true_iff.mp held.2).1 x hx]
    decide
  unfold State.anySector
  rw [List.any_eq_false]
  intro v _
  simp [clean v]

end Bare

/-! #### Whose job a scheduler holds (R94) -/

section Owners
variable {e : EntryNo} {v : DriveNo} {c c' : Ctx} {d d' : Drive}

/-- The job that the drive's scheduler holds, if any, is not that of the FORMAT in entry `e`. -/
def Drive.NotOf (e : EntryNo) (d : Drive) : Prop := ∀ j, d.sched.job = some j → j.requester ≠ .format e

theorem Drive.NotOf.of_job (h : d.NotOf e) (same : d'.sched.job = d.sched.job) : d'.NotOf e := fun j hj => h j (same ▸ hj)

theorem Drive.NotOf.sameJob (h : d.NotOf e) (same : d.SameJob d') : d'.NotOf e := by
  obtain ⟨job | job, _⟩ := same
  · exact h.of_job job
  · intro j hj
    rw [job] at hj
    obtain ⟨j', hj', rfl⟩ := Option.map_eq_some_iff.mp hj
    exact h j' hj'

theorem Drive.JobGone.notOf (h : d.JobGone) : d.NotOf e := fun j hj => by
  rw [h j hj]
  nofun

theorem Ctx.recalJobDone_notOf (h : (c.drive v).NotOf e) : ((c.recalJobDone v).drive v).NotOf e := by
  unfold Ctx.recalJobDone
  split
  · split
    · have ended := (Ctx.jobEnded_gone (c.modChan (portOf v) fun h => h.setOwed v false) v).notOf (e := e)
      generalize (c.modChan (portOf v) fun h => h.setOwed v false).jobEnded v = c2 at ended
      have quiet := ended.of_job (c2.modSched_job v v (fun x => { x with state := .quiet }) fun _ => rfl)
      dsimp only
      split
      · split
        · exact quiet
        · rw [Ctx.flagPick_drive]
          exact quiet
      · exact ended
    · exact h
  · exact h

theorem Ctx.startRecal_notOf (n : Nat) (h : (c.drive v).NotOf e) : ((c.startRecal v (some n)).drive v).NotOf e := by
  unfold Ctx.startRecal
  dsimp only
  split
  · have zeroed : (((c.count v .recal).modDrive v fun d => { d with cylinder := 0, arm := .free }).drive v).NotOf e := by
      refine h.of_job ?_
      rw [Ctx.modDrive, Ctx.setDrive_drive_self, Ctx.count, Ctx.modDrive, Ctx.setDrive_drive_self]
    unfold Ctx.recalSucceeded
    dsimp only
    split
    · exact Ctx.recalJobDone_notOf zeroed
    · refine zeroed.of_job ?_
      rw [Ctx.startSeek_drive]
  · refine h.of_job ?_
    rw [Ctx.setDrive_drive_self]

theorem Ctx.recalPick_notOf (h : (c.drive v).NotOf e) : ((c.recalPick v).drive v).NotOf e := by
  refine Ctx.startRecal_notOf _ fun j hj => ?_
  rw [Ctx.modSched, Ctx.modDrive, Ctx.setDrive_drive_self] at hj
  obtain ⟨j', hj', rfl⟩ := Option.map_eq_some_iff.mp hj
  exact h j' hj'

/-- Picks and release rounds post no job for a FORMAT. -/
theorem Picked.notOf {ps : List PortNo} (h : Picked ps c c') (hn : (c.drive v).NotOf e) : (c'.drive v).NotOf e := by
  have step {c1 c2 : Ctx} {w : DriveNo} (a : c1.AtPick w c2) (ih : (c1.drive v).NotOf e)
      (here : w = v → (c2.drive v).NotOf e) : (c2.drive v).NotOf e := by
    by_cases hw : v = w
    · exact here hw.symm
    · rw [a.others v hw]
      exact ih
  have granted {c1 : Ctx} (p : PortNo) (r : Request) (ih : (c1.drive v).NotOf e) : ((c1.grant p r).drive v).NotOf e := by
    rw [Ctx.grant_drive]
    split
    · refine ih.sameJob ⟨?_, rfl, rfl⟩
      dsimp only
      split
      · exact .inr rfl
      · exact .inl rfl
    · exact ih
  induction h with
  | refl => exact hn
  | lists _ _ _ ih => exact ih
  | quiet w _ ih => exact ih.of_job (Ctx.modSched_job _ w v _ fun _ => rfl)
  | recal w _ _ _ ih =>
    refine step (Ctx.recalPick_atPick _ w) ih ?_
    rintro rfl
    exact Ctx.recalPick_notOf ih
  | move w x _ _ _ _ ih =>
    refine step (Ctx.movePick_atPick _ w x) ih ?_
    rintro rfl
    exact ih.of_job (by rw [Ctx.movePick_drive])
  | file w x a r _ _ _ _ ih =>
    have filed := step (Ctx.filePick_atPick _ w x a) ih (by
      rintro rfl
      exact ih.of_job (by rw [Ctx.filePick_drive]))
    have asked := filed.of_job (Ctx.modSched_job _ r.drive v (fun x => { x with state := .filed }) fun _ => rfl)
    unfold Ctx.fileRequest
    dsimp only
    split
    · exact granted _ r asked
    · exact asked
  | close p _ _ ih => exact ih
  | grant p r _ _ _ ih => exact granted p r ih

theorem Ctx.finish_notOf (c : Ctx) (h : (c.drive v).NotOf e) : (c.finish.drive v).NotOf e := by
  refine c.finish_picked.notOf (h.of_job ?_)
  rw [(c.tested_drive v).1]

end Owners

/-! #### An order that the shed ends (R152, R154) -/

section Abandoned
variable {N : EntryNo → Prop} {V : DriveNo → Prop} {F : Frame → Frame → Prop} {c c' : Ctx} {e : EntryNo} {o o' o'' : Order}
  {g : Word}

/-- The order has ended ABANDONED at `g`. -/
structure Order.ShedEnd (o : Order) (g : Word) (o' : Order) : Prop where
  stage : o'.stage = .finish
  result : o'.result = some ⟨.abandoned, 0, g⟩
  frame : o'.frame = none
  tracks : o'.tracks = o.tracks

theorem Order.finished_shedEnd (o : Order) (g : Word) : o.ShedEnd g (o.finished g .abandoned 0) := ⟨rfl, rfl, rfl, rfl⟩

theorem Order.ShedEnd.alike (h : o.ShedEnd g o') (a : o'.Alike o'') : o.ShedEnd g o'' :=
  ⟨a.stage.trans h.stage, a.result.trans h.result, by rw [a.rest]; exact h.frame, a.tracks.trans h.tracks⟩

theorem Order.ShedEnd.of_alike (h : o'.ShedEnd g o'') (a : o.Alike o') : o.ShedEnd g o'' :=
  { h with tracks := h.tracks.trans a.tracks }

/-- The order that stood in the entry has ended ABANDONED, and nothing that waits names the entry. -/
structure Ctx.Abandoned (e : EntryNo) (o : Order) (g : Word) (c : Ctx) : Prop where
  order : ∃ o', c.order? e = some o' ∧ o.ShedEnd g o'
  free : c.notQueued e

theorem Ctx.Abandoned.finished (h : c.Abandoned e o g) : ∀ o', c.order? e = some o' → o'.stage = .finish := fun o' ho' => by
  obtain ⟨o1, ho1, ended⟩ := h.order
  rw [ho1] at ho'
  cases ho'
  exact ended.stage

theorem Ctx.Abandoned.apart (h : c.Abandoned e o g) : c.Apart (· ≠ e) := fun e' he => by
  obtain rfl := not_not.mp he
  exact h.free.2

theorem Ctx.Abandoned.sheds (h : c.Abandoned e o g) (sheds : c.Sheds (· ≠ e) V F c') : c'.Abandoned e o g := by
  obtain ⟨o1, ho1, ended⟩ := h.order
  obtain ⟨o2, ho2, freed⟩ := sheds.orders e (by simp) o1 ho1
  refine ⟨⟨o2, ho2, ended.alike freed.alike⟩, fun w hw hwe => ?_, fun w hw => h.free.2 w (sheds.waiters w hw)⟩
  obtain ⟨x, hx, same⟩ := sheds.fwq w hw
  exact h.free.1 x hx (same.trans hwe)

theorem Ctx.endOrder_abandoned (ho : c.order? e = some o) (hs : o.stage ≠ .finish) :
    (c.endOrder e .abandoned 0).Abandoned e o c.g :=
  ⟨⟨_, c.endOrder_self e o .abandoned 0 ho hs, o.finished_shedEnd c.g⟩, (c.endOrder_endedWith .abandoned 0 ho hs).2⟩

theorem Ctx.Abandoned.endOrder (h : c.Abandoned e o g) (e' : EntryNo) (code : Code) (n : Nat) :
    (c.endOrder e' code n).Abandoned e o g := by
  by_cases he : e' = e
  · rw [he, c.endOrder_finished e code n h.finished]
    exact h
  · exact h.sheds (V := fun _ => True) (c.endOrder_sheds code n he h.apart)

theorem Ctx.Abandoned.finishOrder (h : c.Abandoned e o g) (e' : EntryNo) (code : Code) (n : Nat) :
    (c.finishOrder e' code n).Abandoned e o g := by
  by_cases he : e' = e
  · obtain ⟨o1, ho1, ended⟩ := h.order
    have same : c.finishOrder e' code n = c := by
      unfold Ctx.finishOrder
      rw [he, ho1]
      dsimp only
      rw [if_pos ended.stage]
    rw [same]
    exact h
  · refine h.sheds (V := fun _ => True) (.of_steps
      (c.finishOrder_steps (N := (· ≠ e)) (F := Frame.Cut) (fun _ _ => Frame.UsesOnly.cut rfl) code n he) fun e'' he'' => ?_)
    obtain rfl := not_not.mp he''
    exact c.finishOrder_other code n he

/-- The end of the waiting CHECKOUTs ends every order that one of them is, and leaves the others (R165). -/
theorem Ctx.abandonAllWaiters_fate (ho : c.order? e = some o) (hs : o.stage ≠ .finish) :
    c.abandonAllWaiters.Abandoned e o c.g ∨ ((∀ w ∈ c.waiters, w.order ≠ e) ∧ c.abandonAllWaiters.order? e = some o) := by
  have stays (g : Word) : ∀ (l : List Waiter) (c : Ctx), c.Abandoned e o g →
      (l.foldl (fun c w => c.finishOrder w.order .abandoned 0) c).Abandoned e o g := by
    intro l
    induction l with
    | nil => exact fun _ h => h
    | cons w l ih => exact fun c h => ih _ (h.finishOrder w.order _ _)
  have walk : ∀ (l : List Waiter) (c : Ctx), c.order? e = some o →
      (l.foldl (fun c w => c.finishOrder w.order .abandoned 0) c).Abandoned e o c.g
      ∨ ((∀ w ∈ l, w.order ≠ e) ∧ (l.foldl (fun c w => c.finishOrder w.order .abandoned 0) c).order? e = some o) := by
    intro l
    induction l with
    | nil => exact fun c ho => .inr ⟨fun _ h => (nomatch h), ho⟩
    | cons w l ih =>
      intro c ho
      by_cases hw : w.order = e
      · refine .inl (stays c.g l _ ?_)
        dsimp only
        rw [hw]
        exact ⟨⟨_, c.finishOrder_self e o .abandoned 0 ho hs, o.finished_shedEnd c.g⟩, c.finishOrder_free _ _ ho hs⟩
      · have g : (c.finishOrder w.order .abandoned 0).g = c.g := State.view_g (c.finishOrder_view ..)
        obtain ended | ⟨others, stands⟩ := ih _ ((c.finishOrder_other .abandoned 0 hw).trans ho)
        · exact .inl (g ▸ ended)
        · exact .inr ⟨List.forall_mem_cons.mpr ⟨hw, others⟩, stands⟩
  have all : c.waiters.filter (fun _ => true) = c.waiters := List.filter_true ..
  unfold Ctx.abandonAllWaiters Ctx.endWaiters
  rw [all]
  exact walk c.waiters c ho

theorem Ctx.shedOrder_cases (c : Ctx) (e : EntryNo) : c.shedOrder e = c ∨ c.shedOrder e = c.endOrder e .abandoned 0 := by
  unfold Ctx.shedOrder
  split
  · exact .inl rfl
  · split
    · exact .inr rfl
    · exact .inl rfl

theorem Ctx.Abandoned.shedOrder (h : c.Abandoned e o g) (e' : EntryNo) : (c.shedOrder e').Abandoned e o g := by
  obtain eq | eq := c.shedOrder_cases e' <;> rw [eq]
  · exact h
  · exact h.endOrder e' _ _

theorem Ctx.Abandoned.engineShed (h : c.Abandoned e o g) : c.engineShed.Abandoned e o g :=
  Ctx.forEntries_keeps c h fun e' _ h => h.shedOrder e'

/-- An order that the shed does not carry on ends (R152). -/
theorem Ctx.engineShed_abandons (ho : c.order? e = some o) (hs : o.stage ≠ .finish) (ends : o.shedEnds = true)
    (free : ∀ w ∈ c.waiters, w.order ≠ e) : c.engineShed.Abandoned e o c.g := by
  refine Ctx.forEntries_meet (e := e) (P := fun c' => c'.Stands e o c.g) (Q := fun c' => c'.Abandoned e o c.g) c ⟨ho, free, rfl⟩
    (fun e' c' he h => ?_) (fun c' h => ?_) fun e' _ _ h => h.shedOrder e'
  · change (c'.shedOrder e').Stands e o c.g
    obtain eq | eq := c'.shedOrder_cases e' <;> rw [eq]
    · exact h
    · exact h.endOrder he _ _
  · obtain ⟨here, _, g⟩ := h
    change (c'.shedOrder e).Abandoned e o c.g
    unfold Ctx.shedOrder
    rw [here]
    dsimp only
    rw [if_pos ends, ← g]
    exact Ctx.endOrder_abandoned here hs

theorem Ctx.Abandoned.formatAtShed (h : c.Abandoned e o g) (e' : EntryNo) : (c.formatAtShed e').Abandoned e o g := by
  by_cases he : e' = e
  · rw [he, c.formatAtShed_finished h.finished]
    exact h
  · exact h.sheds (V := fun _ => True) (c.formatAtShed_sheds he h.apart fun _ _ _ => trivial)

/-- The result of an order that was abandoned stands (R154). -/
theorem Ctx.Abandoned.finish (h : c.Abandoned e o g) :
    (∃ o', c.finish.order? e = some o' ∧ o.ShedEnd g o') ∧ c.finish.notQueued e := by
  obtain ⟨o1, ho1, ended⟩ := h.order
  obtain ⟨⟨o2, ho2, alike⟩, free⟩ := c.finish_order ho1 (.inl ended.stage) h.free
  exact ⟨⟨o2, ho2, ended.alike alike⟩, free⟩

/-- An order that goes on by no report stands exactly, where no job slot is told of. -/
theorem Ctx.finish_orderStays (ho : c.order? e = some o) (hp : o.Parked) (hq : c.notQueued e) (phase : o.phase ≠ .busy) :
    c.finish.order? e = some o := by
  have covers : c.Covers (· ≠ e) Order.Parked True := fun e' he => by
    obtain rfl := not_not.mp he
    exact ⟨hq.2, fun _ => hq.1, fun o' ho' => by rw [ho] at ho'; cases ho'; exact hp⟩
  have cascaded := ((c.cascade_quiets covers).orders e (by simp)).trans ho
  have tested : c.cascade.testDone.order? e = some o := by
    rw [← cascaded]
    exact State.order?_of_table (by rw [c.cascade.testDone_turns.rest]) e
  obtain ⟨o1, ho1, alike⟩ := (c.finish_picked.orders e).1 o tested
  obtain ⟨o2, ho2, same⟩ := State.order_of_store (s := c.cascade.testDone.toState) (t := c.finish) c.finish_picked.store tested
  have eq : o2 = o1 := Option.some.inj (ho2.symm.trans ho1)
  rw [eq, alike.phase.resolve_right fun h => phase h.1] at same
  exact ho1.trans (congrArg some same)

theorem Ctx.finish_waiters (h : c.waiters = []) : c.finish.waiters = [] := by
  have cascaded := c.cascade_steps.waiters_nil h
  exact (congrArg StoreView.waiters c.finish_picked.store).trans (by rw [c.cascade.testDone_turns.rest]; exact cascaded)

end Abandoned
end Sys2Proof.Machine

-- ==== Sys2Proof/Proofs/SheddingEntries.lean ====
namespace Sys2Proof.Machine

open Sys2Proof

/-! ### The entry to SHEDDING as a whole (R185) -/

/-- The frame was cut, shed, and cut again. -/
def Frame.ShedTo (a b : Frame) : Prop := ∃ x : Frame, a.Cut x ∧ x.shed.Cut b

/-- The orders and the store at the entry to SHEDDING (R91, R152). -/
def Ctx.storeLeft (c : Ctx) : Ctx := c.abandonAllWaiters.engineShed.storeShed

/-- The ports at the entry to SHEDDING (R62). -/
def Ctx.portsLeft (c : Ctx) : Ctx := (c.channelShed 0).channelShed 1

/-- The drives pick again (R98). -/
def Ctx.drivesRefiled (c : Ctx) : Ctx := c.forDrives fun v c => c.refile v

/-- The entry to SHEDDING after its desks. -/
def Ctx.shedDone (c : Ctx) : Ctx := c.storeLeft.portsLeft.formatsAtShed.drivesRefiled

theorem Ctx.enterShedding_eq (c : Ctx) : c.enterShedding = (c.setCtl .shedding).parkDesks.shedDone := rfl

section Entry
variable {N : EntryNo → Prop} {V : DriveNo → Prop} {c c' c'' : Ctx} {e : EntryNo} {o : Order} {v : DriveNo}

theorem Ctx.Sheds.thenCut (h : c.Sheds N V Frame.ShedTo c') (h' : c'.Sheds N V Frame.Cut c'') : c.Sheds N V Frame.ShedTo c'' :=
  (h.comp h').mono fun _ _ ⟨_, ⟨x, before, after⟩, cut⟩ => ⟨x, before, after.trans cut⟩

theorem Ctx.Sheds.ctl {F : Frame → Frame → Prop} (h : c.Sheds N V F c') : c'.ctl = c.ctl := (congrArg View.ctl h.view).trans rfl

theorem Ctx.Sheds.g {F : Frame → Frame → Prop} (h : c.Sheds N V F c') : c'.g = c.g := (congrArg View.g h.view).trans rfl

/-! #### The parts -/

theorem Ctx.ordersLeft_steps (c : Ctx) : Steps (fun _ => True) Frame.UsesOnly c c.abandonAllWaiters.engineShed := by
  have waiting : Works (fun _ => True) (fun _ => True) False Frame.UsesOnly c c.abandonAllWaiters :=
    .endWaiters (fun _ _ => rfl) c _ _
  have works := waiting.trans (.forEntries _ (fun e c => c.shedOrder e) fun e c' => by
    obtain eq | eq := c'.shedOrder_cases e <;> rw [eq]
    · exact .refl c'
    · exact .endOrder (fun _ _ => rfl) c' _ _ trivial)
  exact works (fun _ _ _ _ => trivial) fun _ h => absurd trivial h

theorem Ctx.storeLeft_channels (c : Ctx) : c.storeLeft.channels = c.channels := by
  have orders := c.ordersLeft_steps
  unfold Ctx.storeLeft
  generalize c.abandonAllWaiters.engineShed = c' at orders ⊢
  have stored : Steps (fun _ => False) (fun _ _ => True) c' c'.storeShed := c'.storeShed_steps
  exact stored.channels.1.trans orders.channels.1

theorem Ctx.storeLeft_frame (c : Ctx) (f : FrameNo) : ∃ x, (c.frame f).UsesOnly x ∧ c.storeLeft.frame f = x.shed := by
  have orders := c.ordersLeft_steps
  unfold Ctx.storeLeft
  generalize c.abandonAllWaiters.engineShed = c' at orders ⊢
  refine ⟨c'.frame f, ?_, c'.storeShed_frame f⟩
  exact orders.frame_rel (R := Frame.UsesOnly) (fun _ => rfl) (fun a b d h h' => by rw [Frame.UsesOnly, h', h]) (fun _ _ h => h) f

theorem Ctx.storeLeft_sheds (c : Ctx) (names : c.NamesShed N) (apart : c.Apart N) : c.Sheds N V Frame.ShedTo c.storeLeft := by
  have waiting : c.Sheds N V Frame.Cut c.abandonAllWaiters := c.abandonAllWaiters_sheds apart
  have orders := waiting.trans (Ctx.engineShed_sheds _ (waiting.namesShed names) (waiting.apart apart))
  exact (orders.comp (Ctx.storeShed_sheds _)).mono fun _ _ ⟨x, cut, shed⟩ => ⟨x, cut, shed ▸ .refl _⟩

theorem Ctx.portsLeft_sheds (c : Ctx) (hc : c.ctl = .shedding)
    (hV : ∀ p r, (c.chan p).work = some r → r.kind = .discover → V r.drive) : c.Sheds N V Frame.Cut c.portsLeft := by
  have low : c.Sheds N V Frame.Cut (c.channelShed 0) := c.channelShed_sheds 0 hc (hV 0)
  refine low.trans (Ctx.channelShed_sheds _ 1 (low.ctl.trans hc) fun r work => hV 1 r ?_)
  rwa [c.channelShed_chan_ne hc (by decide)] at work

theorem Ctx.portsLeft_asks (c : Ctx) (hc : c.ctl = .shedding) (p : PortNo) : (c.portsLeft.chan p).NoneAsk := by
  have low : c.Sheds (fun _ => True) (fun _ => True) Frame.Cut (c.channelShed 0) := c.channelShed_sheds 0 hc fun _ _ _ => trivial
  have high : (c.channelShed 0).Sheds (fun _ => True) (fun _ => True) Frame.Cut c.portsLeft :=
    Ctx.channelShed_sheds _ 1 (low.ctl.trans hc) fun _ _ _ => trivial
  match p with
  | 0 => exact high.asks 0 (c.channelShed_asks 0 hc)
  | 1 => exact Ctx.channelShed_asks _ 1 (low.ctl.trans hc)

theorem Ctx.formatsAtShed_sheds (c : Ctx) : c.Sheds (fun _ => True) (fun _ => True) Frame.Cut c.formatsAtShed :=
  Ctx.forEntries_keeps (P := fun c' => c.Sheds (fun _ => True) (fun _ => True) Frame.Cut c') c (.refl c) fun _ c' h =>
    h.trans (c'.formatAtShed_sheds trivial (fun _ h => absurd trivial h) fun _ _ _ => trivial)

theorem Ctx.portsReached_sheds (c : Ctx) (hc : c.ctl = .shedding) (names : c.NamesShed N) (apart : c.Apart N)
    (hV : ∀ p r, (c.chan p).work = some r → r.kind = .discover → V r.drive) :
    c.Sheds N V Frame.ShedTo c.storeLeft.portsLeft := by
  have stored : c.Sheds N V Frame.ShedTo c.storeLeft := c.storeLeft_sheds names apart
  refine stored.thenCut (Ctx.portsLeft_sheds _ (stored.ctl.trans hc) fun p r work => hV p r ?_)
  rwa [State.chan_of_channels c.storeLeft_channels] at work

theorem Ctx.shedDone_sheds (c : Ctx) (hc : c.ctl = .shedding) :
    c.Sheds (fun _ => True) (fun _ => True) Frame.ShedTo c.shedDone := by
  have ports : c.Sheds (fun _ => True) (fun _ => True) Frame.ShedTo c.storeLeft.portsLeft :=
    c.portsReached_sheds hc (fun _ _ _ _ => trivial) (fun _ h => absurd trivial h) fun _ _ _ _ => trivial
  exact (ports.thenCut (Ctx.formatsAtShed_sheds _)).thenCut (Ctx.refiles_sheds _)

/-- No request is pending after the entry (R40). -/
theorem Ctx.shedDone_asks (c : Ctx) (hc : c.ctl = .shedding) (p : PortNo) : (c.shedDone.chan p).NoneAsk := by
  have stored : c.Sheds (fun _ => True) (fun _ => True) Frame.ShedTo c.storeLeft :=
    c.storeLeft_sheds (fun _ _ _ _ => trivial) fun _ h => absurd trivial h
  have asks := c.storeLeft.portsLeft_asks (stored.ctl.trans hc) p
  have later : c.storeLeft.portsLeft.Sheds (fun _ => True) (fun _ => True) Frame.Cut c.shedDone :=
    (Ctx.formatsAtShed_sheds _).trans (Ctx.refiles_sheds _)
  exact later.asks p asks

/-! #### Where no order stands -/

/-- Where no order stands, none is ended. -/
theorem Ctx.ordersLeft_none (c : Ctx) (none : ∀ e, c.order? e = none) : c.abandonAllWaiters.engineShed = c := by
  have waiting : c.abandonAllWaiters = c :=
    List.foldlRecOn (motive := fun c' => c' = c) _ _ rfl fun c' h w _ => by rw [h, Ctx.finishOrder, none]
  rw [waiting, Ctx.engineShed_eq]
  exact Ctx.forEntries_keeps (P := fun c' => c' = c) c rfl fun e c' h => by rw [h, Ctx.shedOrder, none]

theorem Ctx.formatsAtShed_none (c : Ctx) (none : ∀ e, c.order? e = none) : c.formatsAtShed = c :=
  Ctx.forEntries_keeps (P := fun c' => c' = c) c rfl fun e c' h => by
    rw [h]
    exact c.formatAtShed_finished fun o ho => by rw [none e] at ho; cases ho

theorem Ctx.shedDone_bare (c : Ctx) (hc : c.ctl = .shedding) (none : ∀ e, c.order? e = none)
    (free : ∀ f, (c.frame f).held = false) : c.shedDone.Bare := by
  have stored : c.Sheds (fun _ => True) (fun _ => True) Frame.ShedTo c.storeLeft :=
    c.storeLeft_sheds (fun _ _ _ _ => trivial) fun _ h => absurd trivial h
  have ports : c.storeLeft.Sheds (fun _ => False) (fun _ => True) Frame.Cut c.storeLeft.portsLeft :=
    Ctx.portsLeft_sheds _ (stored.ctl.trans hc) fun _ _ _ _ => trivial
  have gone (e : EntryNo) : c.storeLeft.portsLeft.order? e = Option.none := by
    refine ports.absent e id ?_
    rw [Ctx.storeLeft, c.ordersLeft_none none, State.order?_of_table c.storeShed_table e, none]
  have refiled : c.storeLeft.portsLeft.Sheds (fun _ => False) (fun _ => True) Frame.Cut c.shedDone := by
    rw [Ctx.shedDone, Ctx.formatsAtShed_none _ gone]
    exact Ctx.refiles_sheds _
  refine ⟨fun e => refiled.absent e id (gone e), fun f held => ?_⟩
  obtain ⟨x, before, after⟩ := (c.shedDone_sheds hc).frames f
  have freed : x.shed.held = false := by
    rw [Frame.shed, before.held, free f, if_neg Bool.false_ne_true, before.held, free f]
  rw [after.held, freed] at held
  cases held

/-! #### A FORMAT (R174) -/

theorem Ctx.namesShed_format (h : c.format? e = some (o, v)) : c.NamesShed (· ≠ e) := by
  rintro e' o' ho' ends rfl
  obtain ⟨ho, format, _⟩ := State.format?_some h
  rw [ho] at ho'
  cases ho'
  rw [Order.isFormat_iff] at format
  rw [Order.shedEnds, format] at ends
  cases ends

theorem State.notQueued.apart (h : c.notQueued e) : c.Apart (· ≠ e) := fun e' he => by
  obtain rfl := not_not.mp he
  exact h.2

theorem Ctx.Sheds.notQueued {F : Frame → Frame → Prop} (h : c.Sheds N V F c') (hq : c.notQueued e) : c'.notQueued e := by
  refine ⟨fun w hw hwe => ?_, fun w hw => hq.2 w (h.waiters w hw)⟩
  obtain ⟨x, hx, same⟩ := h.fwq w hw
  exact hq.1 x hx (same.trans hwe)

/-- A FORMAT whose job is granted waits for the outcome. -/
theorem Ctx.shedDone_granted (hc : c.ctl = .shedding) (hf : c.format? e = some (o, v)) (hq : c.notQueued e) {j : Job}
    (job : (c.drive v).sched.job = some j) (own : j.requester = .format e) (running : j.running = true)
    (alone : ∀ p r, (c.chan p).work = some r → r.drive = v → r.kind = .formatTrack) :
    c.Sheds (· ≠ e) (· ≠ v) Frame.ShedTo c.shedDone := by
  have ports : c.Sheds (· ≠ e) (· ≠ v) Frame.ShedTo c.storeLeft.portsLeft :=
    c.portsReached_sheds hc (Ctx.namesShed_format hf) hq.apart fun p r work kind here => by
      rw [alone p r work here] at kind
      cases kind
  have formats : c.Sheds (· ≠ e) (· ≠ v) Frame.ShedTo c.storeLeft.portsLeft.formatsAtShed := by
    refine Ctx.forEntries_keeps (P := fun c' => c.Sheds (· ≠ e) (· ≠ v) Frame.ShedTo c') _ ports fun e' c' h => ?_
    have job' : (c'.drive v).sched.job = some j := ((h.jobs v).resolve_right fun gone => gone.1 rfl).trans job
    by_cases he : e' = e
    · obtain ⟨ho, _⟩ := State.format?_some hf
      obtain ⟨o1, ho1, freed⟩ := h.orders e (by simp) o ho
      have waits : c'.formatAtShed e' = c' := by
        rw [he, Ctx.formatAtShed, State.format?_alike hf ho1 freed.alike]
        dsimp only
        rw [State.jobOf?_some.mpr ⟨job', own⟩]
        exact if_pos running
      rw [waits]
      exact h
    · refine h.thenCut (c'.formatAtShed_sheds he (h.apart hq.apart) ?_)
      rintro w j' own' rfl
      obtain ⟨held, requester⟩ := State.jobOf?_some.mp own'
      rw [job'] at held
      cases held
      rw [own] at requester
      cases requester
      exact he rfl
  exact formats.thenCut (Ctx.refiles_sheds _)

/-- A FORMAT that the shed ended: its order, the job slot of its drive, and the drive where it was left in FORMATTING, which had
been `d`. -/
structure Ctx.FormatEnded (e : EntryNo) (o : Order) (v : DriveNo) (g : Word) (d : Drive) (c : Ctx) : Prop where
  order : c.Abandoned e o g
  job : (c.drive v).NotOf e
  blank : o.stage = .job → o.fields.trackScope = false → d.state = .formatting → (c.drive v).LeftIncomplete

theorem Ctx.FormatEnded.sheds {F : Frame → Frame → Prop} {g : Word} {d : Drive} (h : c.FormatEnded e o v g d)
    (sheds : c.Sheds (· ≠ e) V F c') : c'.FormatEnded e o v g d := by
  refine ⟨h.order.sheds sheds, ?_, fun stage scope formatting => (sheds.drives v).left (h.blank stage scope formatting)⟩
  obtain same | ⟨_, gone⟩ := sheds.jobs v
  · exact h.job.of_job same
  · exact gone.notOf

theorem Ctx.blankIncomplete_left {d : Drive} (h : d.FormatGone (c.drive v)) (formatting : d.state = .formatting) :
    ((c.blankIncomplete v).drive v).LeftIncomplete := by
  obtain same | ⟨_, left⟩ := h
  · obtain ⟨state, cause, known, _⟩ := c.blankIncomplete_drive ((congrArg DriveView.state same).trans formatting)
    exact ⟨state, cause, known⟩
  · rw [c.blankIncomplete_away fun h => by rw [left.1] at h; cases h]
    exact left

theorem Ctx.blankIncomplete_sched (c : Ctx) (v : DriveNo) : ((c.blankIncomplete v).drive v).sched = (c.drive v).sched := by
  rw [c.blankIncomplete_kept v]

/-- The end of a FORMAT, after the shed has come to it. -/
theorem Ctx.abandonFormat_ends {F : Frame → Frame → Prop} (h : c.Sheds (· ≠ e) V F c') (ho : c.order? e = some o)
    (alive : o.stage ≠ .finish) {o1 : Order} (stage : o1.stage = o.stage) (fields : o1.fields = o.fields)
    (job : (c'.drive v).NotOf e) : (c'.abandonFormat e o1 v).FormatEnded e o v c.g (c.drive v) := by
  obtain ⟨o2, ho2, freed⟩ := h.orders e (by simp) o ho
  have ends (c2 : Ctx) (table : c2.order? e = c'.order? e) (g : c2.g = c'.g) (job : (c2.drive v).NotOf e)
      (blank : o.stage = .job → o.fields.trackScope = false → (c.drive v).state = .formatting → (c2.drive v).LeftIncomplete) :
      (c2.endOrder e .abandoned 0).FormatEnded e o v c.g (c.drive v) := by
    have steps := c2.endOrder_ends e .abandoned 0
    obtain ⟨⟨o3, ho3, ended⟩, free⟩ := Ctx.endOrder_abandoned (table.trans ho2) (freed.alike.stage ▸ alive)
    rw [g, h.g] at ended
    refine ⟨⟨⟨o3, ho3, ended.of_alike freed.alike⟩, free⟩, job.of_job (by rw [(steps.drive v).rest]), fun s t d => ?_⟩
    exact (blank s t d).of_view (State.view_drive steps.view v)
  unfold Ctx.abandonFormat
  rw [stage, fields]
  split
  · have rest := c'.blankIncomplete_rest v
    exact ends _ (by rw [rest]; rfl) (by rw [rest]) (job.of_job (by rw [Ctx.blankIncomplete_sched])) fun _ _ formatting =>
      Ctx.blankIncomplete_left (h.drives v) formatting
  · next other =>
    exact ends _ rfl rfl job fun s t _ => absurd ⟨s, by rw [t]; rfl⟩ other

theorem Ctx.withdrawJob_notOf (c : Ctx) (v : DriveNo) : ((c.withdrawJob v).drive v).NotOf e := (Ctx.jobEnded_gone _ v).notOf

/-- A FORMAT whose job is not granted is ended, and its pending job withdrawn. -/
theorem Ctx.formatAtShed_ends {F : Frame → Frame → Prop} (h : c.Sheds (· ≠ e) (fun _ => True) F c')
    (hf : c.format? e = some (o, v)) (waits : ∀ j, (c.drive v).sched.job = some j → j.requester = .format e → j.running = false) :
    (c'.formatAtShed e).FormatEnded e o v c.g (c.drive v) := by
  obtain ⟨ho, _, alive, _⟩ := State.format?_some hf
  obtain ⟨o1, ho1, freed⟩ := h.orders e (by simp) o ho
  unfold Ctx.formatAtShed
  rw [State.format?_alike hf ho1 freed.alike]
  dsimp only
  cases own : c'.jobOf? v e with
  | none =>
    refine Ctx.abandonFormat_ends h ho alive freed.alike.stage freed.alike.fields fun j held requester => ?_
    rw [State.jobOf?_some.mpr ⟨held, requester⟩] at own
    cases own
  | some j =>
    obtain ⟨held, requester⟩ := State.jobOf?_some.mp own
    have pending : j.running = false := by
      obtain same | ⟨_, gone⟩ := h.jobs v
      · exact waits j (same.symm.trans held) requester
      · rw [gone j held] at requester
        cases requester
    dsimp only
    rw [if_neg (by rw [pending]; exact Bool.false_ne_true)]
    have withdrawn : c'.Sheds (· ≠ e) (fun _ => True) Frame.Cut (c'.withdrawJob v) := c'.withdrawJob_sheds trivial
    exact Ctx.abandonFormat_ends (h.comp withdrawn) ho alive freed.alike.stage freed.alike.fields (c'.withdrawJob_notOf v)

/-- Such a FORMAT over the whole entry. -/
theorem Ctx.shedDone_format (hc : c.ctl = .shedding) (hf : c.format? e = some (o, v)) (hq : c.notQueued e)
    (waits : ∀ j, (c.drive v).sched.job = some j → j.requester = .format e → j.running = false) :
    c.shedDone.FormatEnded e o v c.g (c.drive v) := by
  have ports : c.Sheds (· ≠ e) (fun _ => True) Frame.ShedTo c.storeLeft.portsLeft :=
    c.portsReached_sheds hc (Ctx.namesShed_format hf) hq.apart fun _ _ _ _ => trivial
  have formats : c.storeLeft.portsLeft.formatsAtShed.FormatEnded e o v c.g (c.drive v) :=
    Ctx.forEntries_meet (e := e) (P := fun c' => c.Sheds (· ≠ e) (fun _ => True) Frame.ShedTo c')
      (Q := fun c' => c'.FormatEnded e o v c.g (c.drive v)) _ ports
      (fun e' c' he h => h.thenCut (c'.formatAtShed_sheds he (h.apart hq.apart) fun _ _ _ => trivial))
      (fun c' h => Ctx.formatAtShed_ends h hf waits)
      fun e' c' he h => h.sheds (V := fun _ => True) (c'.formatAtShed_sheds he h.order.apart fun _ _ _ => trivial)
  exact formats.sheds (V := fun _ => True) (Ctx.refiles_sheds _)

/-! #### The other orders (R152, R165) -/

theorem Ctx.Abandoned.formatsAtShed {g : Word} (h : c.Abandoned e o g) : c.formatsAtShed.Abandoned e o g :=
  Ctx.forEntries_keeps c h fun e' _ h => h.formatAtShed e'

theorem Ctx.shedDone_abandoned {g : Word} (hc : c.ctl = .shedding) (h : c.abandonAllWaiters.engineShed.Abandoned e o g) :
    c.shedDone.Abandoned e o g := by
  have ctl : c.storeLeft.ctl = .shedding := ((c.storeLeft_sheds (N := fun _ => True) (V := fun _ => True)
    (fun _ _ _ _ => trivial) fun _ h => absurd trivial h).ctl).trans hc
  have stored : c.storeLeft.Abandoned e o g := h.sheds (V := fun _ => True) (Ctx.storeShed_sheds _)
  have ports : c.storeLeft.portsLeft.Abandoned e o g :=
    stored.sheds (V := fun _ => True) (Ctx.portsLeft_sheds _ ctl fun _ _ _ _ => trivial)
  exact ports.formatsAtShed.sheds (V := fun _ => True) (Ctx.refiles_sheds _)

/-- An order that waits for a lock ends. -/
theorem Ctx.shedDone_waiter (hc : c.ctl = .shedding) (ho : c.order? e = some o) (alive : o.stage ≠ .finish)
    (waits : ∃ w ∈ c.waiters, w.order = e) : c.shedDone.Abandoned e o c.g := by
  obtain ended | ⟨others, _⟩ := Ctx.abandonAllWaiters_fate ho alive
  · exact Ctx.shedDone_abandoned hc ended.engineShed
  · obtain ⟨w, hw, here⟩ := waits
    exact absurd here (others w hw)

/-- An order that the shed does not carry on ends. -/
theorem Ctx.shedDone_order (hc : c.ctl = .shedding) (ho : c.order? e = some o) (alive : o.stage ≠ .finish)
    (ends : o.shedEnds = true) (unlocked : c.abandonAllWaiters.waiters = []) : c.shedDone.Abandoned e o c.g := by
  obtain ended | ⟨_, stands⟩ := Ctx.abandonAllWaiters_fate ho alive
  · exact Ctx.shedDone_abandoned hc ended.engineShed
  · have g : c.abandonAllWaiters.g = c.g := State.view_g c.abandonAllWaiters_view
    refine Ctx.shedDone_abandoned hc ?_
    rw [← g]
    exact Ctx.engineShed_abandons stands alive ends fun w hw => by rw [unlocked] at hw; cases hw

/-- No CHECKOUT is left waiting, where every one that waited was an order in flight. -/
theorem Ctx.abandonAllWaiters_none (live : ∀ w ∈ c.waiters, ∃ o, c.order? w.order = some o ∧ o.stage ≠ .finish) :
    c.abandonAllWaiters.waiters = [] := by
  refine List.eq_nil_iff_forall_not_mem.mpr fun w hw => ?_
  have before : w ∈ c.waiters := by
    have sheds : c.Sheds (fun _ => True) (fun _ => True) Frame.Cut c.abandonAllWaiters :=
      c.abandonAllWaiters_sheds fun _ h => absurd trivial h
    exact sheds.waiters w hw
  obtain ⟨o, ho, alive⟩ := live w before
  obtain ended | ⟨others, _⟩ := Ctx.abandonAllWaiters_fate ho alive
  · exact ended.free.2 w hw rfl
  · exact others w before rfl

theorem Ctx.storeLeft_ctl (c : Ctx) : c.storeLeft.ctl = c.ctl :=
  (c.storeLeft_sheds (N := fun _ => True) (V := fun _ => True) (fun _ _ _ _ => trivial) fun _ h => absurd trivial h).ctl

theorem Ctx.storeLeft_done (c : Ctx) (hc : c.ctl = .shedding) :
    c.storeLeft.Sheds (fun _ => True) (fun _ => True) Frame.Cut c.shedDone := by
  have ports : c.storeLeft.Sheds (fun _ => True) (fun _ => True) Frame.Cut c.storeLeft.portsLeft :=
    Ctx.portsLeft_sheds _ (c.storeLeft_ctl.trans hc) fun _ _ _ _ => trivial
  exact (ports.trans (Ctx.formatsAtShed_sheds _)).trans (Ctx.refiles_sheds _)

theorem Ctx.shedDone_waiters (c : Ctx) (hc : c.ctl = .shedding) (unlocked : c.abandonAllWaiters.waiters = []) :
    c.shedDone.waiters = [] := by
  refine List.eq_nil_iff_forall_not_mem.mpr fun w hw => ?_
  have engine : c.abandonAllWaiters.Sheds (fun _ => True) (fun _ => True) Frame.Cut c.abandonAllWaiters.engineShed :=
    Ctx.engineShed_sheds _ (fun _ _ _ _ => trivial) fun _ h => absurd trivial h
  have stored : c.abandonAllWaiters.Sheds (fun _ => True) (fun _ => True)
      (Relation.Comp Frame.Cut fun a b => b = a.shed) c.storeLeft := by
    unfold Ctx.storeLeft
    exact engine.comp (Ctx.storeShed_sheds _)
  have still := stored.waiters w ((c.storeLeft_done hc).waiters w hw)
  rw [unlocked] at still
  cases still

/-! #### The frames (R76, R91) -/

theorem Frame.shed_key (a : Frame) : a.shed.held = a.held ∧ a.shed.key = a.key := by
  unfold Frame.shed
  split
  · exact ⟨rfl, rfl⟩
  · exact ⟨rfl, rfl⟩

theorem State.frameOf_same {s t : State} (h : ∀ f, (t.frame f).held = (s.frame f).held ∧ (t.frame f).key = (s.frame f).key)
    (k : Key) : t.frameOf k = s.frameOf k := by
  unfold State.frameOf
  congr 1
  funext f
  obtain ⟨held, key⟩ := h f
  rw [held, key]

/-- A sector that is found under its key is found there again, where frames keep their keys. -/
theorem State.sectorAt_same {s t : State}
    (h : ∀ f, (t.frame f).held = (s.frame f).held ∧ (t.frame f).key = (s.frame f).key) {k : Key} {n : Nat} {f : FrameNo}
    {x y : Sector} (found : s.sectorAt k n = some (f, x)) (slot : (t.frame f).sectors[n]? = some y) :
    t.sectorAt k n = some (f, y) := by
  unfold State.sectorAt at found ⊢
  rw [State.frameOf_same h k]
  cases hf : s.frameOf k with
  | none => rw [hf] at found; cases found
  | some g =>
    rw [hf] at found
    obtain ⟨_, _, eq⟩ := Option.map_eq_some_iff.mp found
    cases eq
    dsimp only
    rw [slot]
    rfl

theorem Frame.Cut.key {a b : Frame} (h : a.Cut b) : b.held = a.held ∧ b.key = a.key := ⟨h.held, by rw [h.rest]⟩

/-- What a port read or checked is cut at the ports' part of the entry (R62). -/
theorem Ctx.portsLeft_sector (c : Ctx) (hc : c.ctl = .shedding) {p : PortNo} {r : Request} (work : (c.chan p).work = some r)
    {f : FrameNo} {x : Sector} (found : c.sectorAt ⟨r.drive, r.cylinder, r.head⟩ r.slot = some (f, x)) :
    (r.kind = .read → x.state = .reading → (c.portsLeft.frame f).sectors[r.slot]? = some x.unread)
    ∧ (r.kind = .check → x.state = .checking → (c.portsLeft.frame f).sectors[r.slot]? = some x.uncheck) := by
  have low : c.Sheds (fun _ => True) (fun _ => True) Frame.Cut (c.channelShed 0) := c.channelShed_sheds 0 hc fun _ _ _ => trivial
  have high : (c.channelShed 0).Sheds (fun _ => True) (fun _ => True) Frame.Cut c.portsLeft :=
    Ctx.channelShed_sheds _ 1 (low.ctl.trans hc) fun _ _ _ => trivial
  have stays {y : Sector} (slot : ((c.channelShed 0).frame f).sectors[r.slot]? = some y) (hr : y.state ≠ .reading)
      (hk : y.state ≠ .checking) : (c.portsLeft.frame f).sectors[r.slot]? = some y := by
    obtain ⟨z, hz, cut⟩ := (high.frames f).sectors r.slot y slot
    rw [hz, cut.eq hr hk]
  match p with
  | 0 =>
    obtain ⟨read, check⟩ := c.channelShed_sector hc work found
    exact ⟨fun kind reading => stays (read kind reading) nofun nofun, fun kind checking => stays (check kind checking) nofun nofun⟩
  | 1 =>
    obtain ⟨y, slot, cut⟩ := (low.frames f).sectors r.slot x (State.sectorAt_some found)
    have again := State.sectorAt_same (t := (c.channelShed 0).toState) (fun g => (low.frames g).key) found slot
    have work' : ((c.channelShed 0).chan 1).work = some r := by rw [c.channelShed_chan_ne hc (by decide)]; exact work
    obtain ⟨read, check⟩ := Ctx.channelShed_sector (c.channelShed 0) (low.ctl.trans hc) work' again
    refine ⟨fun kind reading => ?_, fun kind checking => ?_⟩
    · cases cut with
      | kept => exact read kind reading
      | read _ => exact stays slot nofun nofun
      | check checking => rw [reading] at checking; cases checking
    · cases cut with
      | kept => exact check kind checking
      | read reading => rw [reading] at checking; cases checking
      | check _ => exact stays slot nofun nofun

/-- What the entry leaves of a HELD frame and of its sectors. -/
structure Frame.Left (a b : Frame) : Prop where
  held : b.held = true
  key : b.key = a.key
  area : b.area = a.area
  length : b.sectors.length = a.sectors.length
  sectors : ∀ (k : Nat) x, a.sectors[k]? = some x → x.state ≠ .reading → x.state ≠ .checking → b.sectors[k]? = some x.shed

theorem Sector.shed_idle {x : Sector} (hr : x.state ≠ .reading) (hc : x.state ≠ .checking) :
    x.shed.state ≠ .reading ∧ x.shed.state ≠ .checking := by
  unfold Sector.shed
  split
  · exact ⟨nofun, nofun⟩
  · exact ⟨nofun, nofun⟩
  · exact ⟨hr, hc⟩

theorem Ctx.storeLeft_held (c : Ctx) {f : FrameNo} (held : (c.frame f).held = true) :
    ∃ n, c.storeLeft.frame f = { c.frame f with uses := n, sectors := (c.frame f).sectors.map Sector.shed } := by
  obtain ⟨x, same, shed⟩ := c.storeLeft_frame f
  refine ⟨x.uses, ?_⟩
  rw [shed, same, Frame.shed, if_pos held, Frame.mapSectors]

theorem Ctx.storeLeft_key (c : Ctx) (f : FrameNo) :
    (c.storeLeft.frame f).held = (c.frame f).held ∧ (c.storeLeft.frame f).key = (c.frame f).key := by
  obtain ⟨x, same, shed⟩ := c.storeLeft_frame f
  rw [shed, x.shed_key.1, x.shed_key.2, same]
  exact ⟨rfl, rfl⟩

theorem Ctx.shedDone_left (c : Ctx) (hc : c.ctl = .shedding) {f : FrameNo} (held : (c.frame f).held = true) :
    (c.frame f).Left (c.shedDone.frame f) := by
  obtain ⟨n, stored⟩ := c.storeLeft_held held
  have cut := (c.storeLeft_done hc).frames f
  rw [stored] at cut
  refine ⟨cut.held.trans held, cut.key.2, by rw [cut.rest], cut.length.trans (List.length_map ..), fun k x hx hr hk => ?_⟩
  obtain ⟨y, hy, sector⟩ := cut.sectors k x.shed (by rw [List.getElem?_map, hx]; rfl)
  rw [hy, sector.eq (Sector.shed_idle hr hk).1 (Sector.shed_idle hr hk).2]

/-- The sector that a port reads or checks is left as one that is read or checked no more. -/
theorem Ctx.shedDone_sector (c : Ctx) (hc : c.ctl = .shedding) {p : PortNo} {r : Request} (work : (c.chan p).work = some r)
    {f : FrameNo} {x : Sector} (held : (c.frame f).held = true)
    (found : c.sectorAt ⟨r.drive, r.cylinder, r.head⟩ r.slot = some (f, x)) :
    (r.kind = .read → x.state = .reading → (c.shedDone.frame f).sectors[r.slot]? = some x.unread)
    ∧ (r.kind = .check → x.state = .checking → (c.shedDone.frame f).sectors[r.slot]? = some x.uncheck) := by
  obtain ⟨n, stored⟩ := c.storeLeft_held held
  have stands (busy : x.shed = x) : c.storeLeft.sectorAt ⟨r.drive, r.cylinder, r.head⟩ r.slot = some (f, x) := by
    refine State.sectorAt_same (t := c.storeLeft.toState) c.storeLeft_key found ?_
    rw [stored, List.getElem?_map, State.sectorAt_some found]
    exact congrArg some busy
  have worked : (c.storeLeft.chan p).work = some r := by rw [State.chan_of_channels c.storeLeft_channels]; exact work
  have later : c.storeLeft.portsLeft.Sheds (fun _ => True) (fun _ => True) Frame.Cut c.shedDone :=
    (Ctx.formatsAtShed_sheds _).trans (Ctx.refiles_sheds _)
  have stays {y : Sector} (slot : (c.storeLeft.portsLeft.frame f).sectors[r.slot]? = some y) (hr : y.state ≠ .reading)
      (hk : y.state ≠ .checking) : (c.shedDone.frame f).sectors[r.slot]? = some y := by
    obtain ⟨z, hz, cut⟩ := (later.frames f).sectors r.slot y slot
    rw [hz, cut.eq hr hk]
  have ctl := c.storeLeft_ctl.trans hc
  refine ⟨fun kind reading => ?_, fun kind checking => ?_⟩
  · have busy : x.shed = x := by rw [Sector.shed, reading]
    exact stays ((c.storeLeft.portsLeft_sector ctl worked (stands busy)).1 kind reading) nofun nofun
  · have busy : x.shed = x := by rw [Sector.shed, checking]
    exact stays ((c.storeLeft.portsLeft_sector ctl worked (stands busy)).2 kind checking) nofun nofun

/-- No sector of a HELD frame is to be read or checked after the entry (R91). -/
theorem Ctx.shedDone_calmed (c : Ctx) (hc : c.ctl = .shedding) : c.shedDone.Calmed := fun f => by
  obtain ⟨x, _, shed⟩ := c.storeLeft_frame f
  exact ((c.storeLeft_done hc).frames f).calm (shed ▸ x.shed_calm)

end Entry
end Sys2Proof.Machine

-- ==== Sys2Proof/Proofs/PowerWarnings.lean ====
namespace Sys2Proof.Machine

open Sys2Proof

/-! ### POWER_WARNING_RISE (R91, R117, R152, R165, R174, R181, R185) -/

section Rise
variable {s : State} {e : EntryNo} {o : Order} {v : DriveNo} {f : FrameNo}

/-- The warning's level is held. -/
def Ctx.warned (s : State) : Ctx := { Ctx.of s with warning := true }

/-- SHEDDING, with the desks parked (R117). -/
def Ctx.shedBegun (s : State) : Ctx := ((Ctx.warned s).setCtl .shedding).parkDesks

/-- The state after the command in RUNNING or DRAINING. -/
def State.shed (s : State) : State := (Ctx.shedBegun s).shedDone.finish

theorem Ctx.warningRises_enters (h : s.ctl = .running ∨ s.ctl = .draining) :
    (Ctx.of s).warningRises = (Ctx.shedBegun s).shedDone := (if_pos h).trans (Ctx.warned s).enterShedding_eq

theorem State.shed_eq (h : s.ctl = .running ∨ s.ctl = .draining) : (Ctx.of s).warningRises.finish = s.shed := by
  rw [Ctx.warningRises_enters h, State.shed]

theorem Ctx.warningRises_away (h : ¬ (s.ctl = .running ∨ s.ctl = .draining)) : (Ctx.of s).warningRises = Ctx.warned s := if_neg h

/-! #### The desks are parked -/

theorem Ctx.shedBegun_rest (s : State) : Ctx.shedBegun s = { Ctx.warned s with
    ctl := .shedding, picks := (Ctx.shedBegun s).picks, tableWait := [], desks := (Ctx.shedBegun s).desks
    table := (Ctx.shedBegun s).table } := by
  obtain ⟨⟨rest, tableWait, _⟩, _⟩ := ((Ctx.warned s).setCtl .shedding).parkDesks_parks
  have entered := (Ctx.warned s).setCtl_rest .shedding
  unfold Ctx.shedBegun
  generalize ((Ctx.warned s).setCtl .shedding).parkDesks = c at rest tableWait ⊢
  generalize (Ctx.warned s).setCtl .shedding = c0 at rest entered
  rw [rest, tableWait, entered]

theorem Ctx.shedBegun_order (s : State) (e : EntryNo) : (Ctx.shedBegun s).order? e = s.order? e := by
  have parks := ((Ctx.warned s).setCtl .shedding).parkDesks_parks.1
  refine (parks.orders e).trans ?_
  rw [(Ctx.warned s).setCtl_rest .shedding]
  rfl

theorem Ctx.shedBegun_desk (s : State) (d : DeskNo) : ((s.desk d).state ≠ .fetching → (Ctx.shedBegun s).desk d = s.desk d)
    ∧ ((s.desk d).state = .fetching → ∃ l, (Ctx.shedBegun s).desk d = { (s.desk d).parked with entryWrites := l }) := by
  have desk : ((Ctx.warned s).setCtl .shedding).desk d = s.desk d := by
    rw [(Ctx.warned s).setCtl_rest .shedding]
    rfl
  have parks := ((Ctx.warned s).setCtl .shedding).parkDesks_parks.2 d
  rw [desk] at parks
  exact parks

theorem Ctx.shedBegun_ctl (s : State) : (Ctx.shedBegun s).ctl = .shedding := by rw [Ctx.shedBegun_rest]
theorem Ctx.shedBegun_g (s : State) : (Ctx.shedBegun s).g = s.g := by rw [Ctx.shedBegun_rest]; rfl
theorem Ctx.shedBegun_warning (s : State) : (Ctx.shedBegun s).warning = true := by rw [Ctx.shedBegun_rest]; rfl
theorem Ctx.shedBegun_run (s : State) : (Ctx.shedBegun s).run = s.run := by rw [Ctx.shedBegun_rest]; rfl
theorem Ctx.shedBegun_tableWait (s : State) : (Ctx.shedBegun s).tableWait = [] := by rw [Ctx.shedBegun_rest]
theorem Ctx.shedBegun_fwq (s : State) : (Ctx.shedBegun s).fwq = s.fwq := by rw [Ctx.shedBegun_rest]; rfl
theorem Ctx.shedBegun_waiters (s : State) : (Ctx.shedBegun s).waiters = s.waiters := by rw [Ctx.shedBegun_rest]; rfl
theorem Ctx.shedBegun_drive (s : State) (v : DriveNo) : (Ctx.shedBegun s).drive v = s.drive v := by
  rw [Ctx.shedBegun_rest]; rfl
theorem Ctx.shedBegun_chan (s : State) (p : PortNo) : (Ctx.shedBegun s).chan p = s.chan p := by rw [Ctx.shedBegun_rest]; rfl
theorem Ctx.shedBegun_frames (s : State) : (Ctx.shedBegun s).frames = s.frames := by rw [Ctx.shedBegun_rest]; rfl
theorem Ctx.shedBegun_frame (s : State) (f : FrameNo) : (Ctx.shedBegun s).frame f = s.frame f := by
  rw [Ctx.shedBegun_rest]; rfl

theorem Ctx.shedBegun_notQueued (hq : s.notQueued e) : (Ctx.shedBegun s).notQueued e := by
  rw [State.notQueued, Ctx.shedBegun_fwq, Ctx.shedBegun_waiters]
  exact hq

theorem Ctx.shedBegun_format (h : s.format? e = some (o, v)) : (Ctx.shedBegun s).format? e = some (o, v) :=
  State.format?_alike h ((Ctx.shedBegun_order s e).trans (State.format?_some h).1) (.refl o)

/-! #### The end of the command -/

theorem Ctx.shedBegun_sheds (s : State) :
    (Ctx.shedBegun s).Sheds (fun _ => True) (fun _ => True) Frame.ShedTo (Ctx.shedBegun s).shedDone :=
  Ctx.shedDone_sheds _ (Ctx.shedBegun_ctl s)

theorem Ctx.shedDone_ctl (s : State) : (Ctx.shedBegun s).shedDone.ctl = .shedding :=
  (Ctx.shedBegun_sheds s).ctl.trans (Ctx.shedBegun_ctl s)

theorem Ctx.Sheds.warning {N : EntryNo → Prop} {V : DriveNo → Prop} {F : Frame → Frame → Prop} {c c' : Ctx}
    (h : c.Sheds N V F c') : c'.warning = c.warning := (congrArg View.warning h.view).trans rfl

theorem Ctx.shedDone_warning (s : State) : (Ctx.shedBegun s).shedDone.warning = true :=
  (Ctx.shedBegun_sheds s).warning.trans (Ctx.shedBegun_warning s)

theorem State.view_settle {t b : State} {d : Vector DriveView 4} (h : t.view = { b.view with drives := d }) :
    t.view = { b.view with ctl := t.ctl, notice := t.notice, drives := d } :=
  congrArg (fun x : View => { x with ctl := t.ctl, notice := t.notice }) h

/-- What of the view is neither the controller state, nor NOTICE, nor a drive. -/
theorem State.view_levels {t b : State} {x : CtlState} {n : Word} {l : Vector DriveView 4}
    (h : t.view = { b.view with ctl := x, notice := n, drives := l }) :
    t.warning = b.warning ∧ t.run = b.run ∧ t.tableWait = b.tableWait ∧ (∀ d, t.desk d = b.desk d)
    ∧ ∀ v : DriveNo, (t.drive v).view = l[v.val] := by
  refine ⟨congrArg View.warning h, congrArg View.run h, congrArg View.tableWait h,
    fun d => congrArg (fun x : View => x.desks[d.val]) h, fun v => ?_⟩
  have drives := congrArg (fun x : View => x.drives[v.val]) h
  simpa [State.view, State.drive] using drives

/-- The command ends in SHEDDING, or in SAFE with its NOTICE bit set and the heads unloaded; but for these, for the desks and for
the drives all of the view stands. -/
theorem State.shed_ends (s : State) :
    s.shed.view = { (Ctx.shedBegun s).view with
      ctl := s.shed.ctl, notice := s.shed.notice, drives := (Ctx.shedBegun s).shedDone.view.drives }
    ∧ ((¬ (Ctx.shedBegun s).shedDone.cascade.shedOver ∧ s.shed.ctl = .shedding)
      ∨ ((Ctx.shedBegun s).shedDone.cascade.shedOver ∧ s.shed.ctl = .safe ∧ s.shed.notice.getLsbD 23 = true
        ∧ ∀ v, (s.shed.drive v).heads = .unloaded)) := by
  have sheds := (Ctx.shedBegun_sheds s).view
  have ends := Ctx.finish_shedding (Ctx.shedDone_ctl s) (Ctx.shedDone_warning s) fun p _ =>
    Ctx.shedDone_asks _ (Ctx.shedBegun_ctl s) p
  have ctl := Ctx.shedDone_ctl s
  unfold State.shed
  generalize (Ctx.shedBegun s).shedDone = c at sheds ends ctl ⊢
  obtain ⟨goes, view⟩ | ⟨over', view, heads⟩ := ends
  · refine ⟨view.trans ?_, .inl ⟨goes, (State.view_ctl view).trans ctl⟩⟩
    rw [State.view_ctl view, State.view_notice view]
    exact State.view_settle sheds
  · have safe : c.finish.ctl = .safe := congrArg View.ctl view
    have notice : c.finish.notice = c.notice ||| bitMask safeBit := congrArg View.notice view
    refine ⟨?_, .inr ⟨over', safe, ?_, heads⟩⟩
    · rw [view, safe, notice, sheds]
    · rw [notice, BitVec.getLsbD_or, show (bitMask safeBit).getLsbD 23 = true from by decide, Bool.or_true]

theorem State.shed_levels (s : State) : s.shed.warning = true ∧ s.shed.run = s.run ∧ s.shed.tableWait = []
    ∧ (∀ d, s.shed.desk d = (Ctx.shedBegun s).desk d)
    ∧ ∀ v, (s.shed.drive v).view = ((Ctx.shedBegun s).shedDone.drive v).view := by
  obtain ⟨warning, run, tableWait, desks, drives⟩ := State.view_levels s.shed_ends.1
  rw [Ctx.shedBegun_warning] at warning
  rw [Ctx.shedBegun_run] at run
  rw [Ctx.shedBegun_tableWait] at tableWait
  refine ⟨warning, run, tableWait, desks, fun v => (drives v).trans ?_⟩
  generalize (Ctx.shedBegun s).shedDone = c
  simp [State.view, State.drive]

/-- While an order stands the shed goes on. -/
theorem State.shed_ctl_orders (h : s.tableEmpty = false) : s.shed.ctl = .shedding := by
  have stands : (Ctx.shedBegun s).shedDone.tableEmpty = false := by
    rw [Bool.eq_false_iff, Ne, State.tableEmpty_iff] at h ⊢
    intro empty
    refine h fun e => ?_
    rw [← Ctx.shedBegun_order]
    cases ho : (Ctx.shedBegun s).order? e with
    | none => rfl
    | some o =>
      have present := (Ctx.shedBegun_sheds s).present e (by rw [ho]; rfl)
      rw [empty e] at present
      cases present
  exact (State.view_ctl (Ctx.finish_orderStands (Ctx.shedDone_ctl s) (Ctx.shedDone_warning s) stands)).trans (Ctx.shedDone_ctl s)

/-- Where nothing is left to save, SAFE is entered at once. -/
theorem State.shed_ctl_bare (h : s.tableEmpty = true) (free : ∀ f, (s.frame f).held = false) : s.shed.ctl = .safe := by
  have bare := Ctx.shedDone_bare (Ctx.shedBegun s) (Ctx.shedBegun_ctl s)
    (fun e => (Ctx.shedBegun_order s e).trans (s.tableEmpty_iff.mp h e)) fun f => by rw [Ctx.shedBegun_frame]; exact free f
  obtain ⟨goes, _⟩ | ⟨_, safe, _⟩ := s.shed_ends.2
  · exact absurd (bare.cascadeN 256).shedOver goes
  · exact safe

/-! #### The FORMATs (R174) -/

theorem State.shed_granted (hf : s.format? e = some (o, v)) (hq : s.notQueued e) {j : Job}
    (job : (s.drive v).sched.job = some j) (own : j.requester = .format e) (running : j.running = true) (stage : o.stage = .job)
    (phase : o.phase = .posted) (alone : ∀ p r, (s.chan p).work = some r → r.drive = v → r.kind = .formatTrack) :
    s.shed.order? e = some o := by
  obtain ⟨ho, format, _⟩ := State.format?_some hf
  have queued := Ctx.shedBegun_notQueued hq
  have sheds : (Ctx.shedBegun s).Sheds (· ≠ e) (· ≠ v) Frame.ShedTo (Ctx.shedBegun s).shedDone :=
    Ctx.shedDone_granted (Ctx.shedBegun_ctl s) (Ctx.shedBegun_format hf) queued (by rw [Ctx.shedBegun_drive]; exact job) own running
      fun p r work => alone p r (by rw [← Ctx.shedBegun_chan]; exact work)
  have free : o.phase ≠ .busy := by rw [phase]; decide
  obtain ⟨o', ho', freed⟩ := sheds.orders e (by simp) o ((Ctx.shedBegun_order s e).trans ho)
  rw [freed.eq free] at ho'
  exact Ctx.finish_orderStays ho' (.inr ⟨format, .inr stage⟩) (sheds.notQueued queued) free

theorem State.shed_format (hf : s.format? e = some (o, v)) (hq : s.notQueued e)
    (waits : ∀ j, (s.drive v).sched.job = some j → j.requester = .format e → j.running = false) :
    (∃ o', s.shed.order? e = some o' ∧ o.ShedEnd s.g o') ∧ (s.shed.drive v).NotOf e
    ∧ (o.stage = .job → o.fields.trackScope = false → (s.drive v).state = .formatting → (s.shed.drive v).LeftIncomplete) := by
  have ended := Ctx.shedDone_format (Ctx.shedBegun_ctl s) (Ctx.shedBegun_format hf) (Ctx.shedBegun_notQueued hq)
    (by rw [Ctx.shedBegun_drive]; exact waits)
  rw [Ctx.shedBegun_g, Ctx.shedBegun_drive] at ended
  obtain ⟨_, _, _, _, views⟩ := s.shed_levels
  exact ⟨ended.order.finish.1, Ctx.finish_notOf _ ended.job, fun stage scope formatting =>
    (ended.blank stage scope formatting).of_view (views v)⟩

/-! #### The orders and the CHECKOUTs (R152, R165) -/

theorem State.shed_waiter {w : Waiter} (hw : w ∈ s.waiters) (ho : s.order? w.order = some o) (alive : o.stage ≠ .finish) :
    ∃ o', s.shed.order? w.order = some o' ∧ o.ShedEnd s.g o' := by
  have ended := Ctx.shedDone_waiter (Ctx.shedBegun_ctl s) ((Ctx.shedBegun_order s w.order).trans ho) alive
    ⟨w, by rw [Ctx.shedBegun_waiters]; exact hw, rfl⟩
  rw [Ctx.shedBegun_g] at ended
  exact ended.finish.1

section Live
variable (live : ∀ w ∈ s.waiters, ∃ o, s.order? w.order = some o ∧ o.stage ≠ .finish)
include live

theorem State.shed_unlocked : (Ctx.shedBegun s).abandonAllWaiters.waiters = [] :=
  Ctx.abandonAllWaiters_none fun w hw => by
    rw [Ctx.shedBegun_waiters] at hw
    rw [Ctx.shedBegun_order]
    exact live w hw

theorem State.shed_waiters : s.shed.waiters = [] :=
  Ctx.finish_waiters (Ctx.shedDone_waiters _ (Ctx.shedBegun_ctl s) (State.shed_unlocked live))

theorem State.shed_order (ho : s.order? e = some o) (alive : o.stage ≠ .finish) (ends : o.shedEnds = true) :
    (∃ o', s.shed.order? e = some o' ∧ o.ShedEnd s.g o') ∧ s.shed.notQueued e := by
  have ended := Ctx.shedDone_order (Ctx.shedBegun_ctl s) ((Ctx.shedBegun_order s e).trans ho) alive ends (State.shed_unlocked live)
  rw [Ctx.shedBegun_g] at ended
  exact ended.finish

end Live

/-- The orders that the shed ends are those that R152 names. -/
theorem Order.shedEnds_of (h : (o.fields.kind? = some .read ∧ o.stage ≠ .finish)
    ∨ (o.fields.kind? = some .write ∧ o.stage ≠ .settle ∧ o.stage ≠ .finish)
    ∨ (o.fields.kind? = some .exchange ∧ (o.stage = .frame ∨ o.stage = .fetch ∨ o.stage = .fill))) :
    o.shedEnds = true ∧ o.stage ≠ .finish := by
  obtain ⟨kind, alive⟩ | ⟨kind, unsettled, alive⟩ | ⟨kind, stage⟩ := h
  · exact ⟨by rw [Order.shedEnds, kind], alive⟩
  · exact ⟨by rw [Order.shedEnds, kind]; simpa using unsettled, alive⟩
  · refine ⟨by rw [Order.shedEnds, kind]; simpa [or_assoc] using stage, ?_⟩
    obtain stage | stage | stage := stage <;> rw [stage] <;> decide

/-! #### The frames (R76, R91) -/

theorem Ctx.finish_frame (c : Ctx) (f : FrameNo) : c.finish.frame f = c.cascade.frame f := by
  rw [State.frame, c.finish_frames.1]
  rfl

theorem State.shed_calm (s : State) (f : FrameNo) : (s.shed.frame f).Calm := by
  have calmed := (Ctx.cascade_quiets (N := fun _ => True) (Ctx.shedBegun s).shedDone fun _ h => absurd trivial h).calmed
    (Ctx.shedDone_ctl s) (Ctx.shedDone_calmed _ (Ctx.shedBegun_ctl s)) f
  rw [State.shed, Ctx.finish_frame]
  exact calmed

/-- Where no order can go on and none waits for a frame, the store is as the entry left it. -/
theorem State.shed_frame (ready : s.readyOrder? = none) (hq : s.fwq = []) (f : FrameNo) :
    s.shed.frame f = (Ctx.shedBegun s).shedDone.frame f := by
  have sheds := Ctx.shedBegun_sheds s
  have ready' : (Ctx.shedBegun s).readyOrder? = none := by
    rw [State.readyOrder_none_iff] at ready ⊢
    intro e o ho
    exact ready e o ((Ctx.shedBegun_order s e).symm.trans ho)
  have queue : (Ctx.shedBegun s).shedDone.fwq = [] := List.eq_nil_iff_forall_not_mem.mpr fun w hw => by
    obtain ⟨x, hx, _⟩ := sheds.fwq w hw
    rw [Ctx.shedBegun_fwq, hq] at hx
    cases hx
  rw [State.shed, Ctx.finish_frame, Ctx.cascade_noQueue _ (sheds.ready ready') queue]

theorem State.shed_left (ready : s.readyOrder? = none) (hq : s.fwq = []) (held : (s.frame f).held = true) :
    (s.frame f).Left (s.shed.frame f) := by
  rw [State.shed_frame ready hq, ← Ctx.shedBegun_frame s f]
  exact Ctx.shedDone_left _ (Ctx.shedBegun_ctl s) (by rw [Ctx.shedBegun_frame]; exact held)

theorem State.shed_sector (ready : s.readyOrder? = none) (hq : s.fwq = []) (held : (s.frame f).held = true) {p : PortNo}
    {r : Request} {x : Sector} (work : (s.chan p).work = some r)
    (found : s.sectorAt ⟨r.drive, r.cylinder, r.head⟩ r.slot = some (f, x)) :
    (r.kind = .read → x.state = .reading → (s.shed.frame f).sectors[r.slot]? = some x.unread)
    ∧ (r.kind = .check → x.state = .checking → (s.shed.frame f).sectors[r.slot]? = some x.uncheck) := by
  rw [State.shed_frame ready hq]
  exact Ctx.shedDone_sector _ (Ctx.shedBegun_ctl s) (by rw [Ctx.shedBegun_chan]; exact work)
    (by rw [Ctx.shedBegun_frame]; exact held) ((State.sectorAt_of_frames (Ctx.shedBegun_frames s) _ _).trans found)

theorem State.shed_parked (d : DeskNo) : ((s.desk d).state ≠ .fetching → s.shed.desk d = s.desk d)
    ∧ ((s.desk d).state = .fetching → ({ s.shed.desk d with entryWrites := [] } : Desk) =
        { s.desk d with state := .idle, latch := false, look := .none, entryWrites := [] }) := by
  obtain ⟨_, _, _, desks, _⟩ := s.shed_levels
  obtain ⟨away, parked⟩ := Ctx.shedBegun_desk s d
  rw [desks]
  refine ⟨away, fun fetching => ?_⟩
  obtain ⟨l, eq⟩ := parked fetching
  rw [eq, Desk.parked, if_pos fetching]

end Rise

/-- Settles O10: the desks, the orders, the store, the ports, the FORMATs and the drives at the entry to SHEDDING, and the end
of the command; elsewhere the level alone. -/
theorem powerWarningRise : Obligations.PowerWarningRise := by
  intro s
  refine ⟨(Ctx.of s).warningRises.finish, rfl, ?_⟩
  by_cases entering : s.ctl = .running ∨ s.ctl = .draining
  · rw [State.shed_eq entering]
    obtain ⟨warning, run, tableWait, _⟩ := s.shed_levels
    have ends := s.shed_ends.2
    refine ⟨warning, run, fun running draining => absurd entering (not_or.mpr ⟨running, draining⟩), fun _ => State.shed_ctl_orders,
      fun _ => ⟨?_, State.shed_ctl_orders, State.shed_ctl_bare, fun safe => ?_, tableWait, fun e o v hf hq => ⟨?_, fun waits => ?_⟩,
        fun d => (State.shed_parked d).1, fun d => (State.shed_parked d).2, fun f x held => s.shed_calm f held x,
        fun ready queue f held => ?_, fun live => ⟨State.shed_waiters live, fun w hw => ?_, fun e o ho named => ?_⟩⟩⟩
    · exact ends.imp (fun h => h.2) fun h => h.2.1
    · obtain ⟨_, shedding⟩ | ⟨_, _, told, heads⟩ := ends
      · rw [shedding] at safe
        cases safe
      · exact ⟨told, heads⟩
    · rintro ⟨j, job, own, running⟩ stage phase alone
      exact State.shed_granted hf hq job own running stage phase alone
    · obtain ⟨⟨o', ho', ended⟩, job, blank⟩ := State.shed_format hf hq fun j job own => by
        cases running : j.running with
        | false => rfl
        | true => exact absurd ⟨j, job, own, running⟩ waits
      exact ⟨⟨o', ho', ended.stage, ended.result, ended.tracks⟩, job, blank⟩
    · obtain ⟨held', key, area, length, sectors⟩ := State.shed_left ready queue held
      refine ⟨held', key, area, length, fun k x hx reading checking => ?_, fun p r x work found =>
        State.shed_sector ready queue held work found⟩
      refine (sectors k x hx reading checking).trans (congrArg some ?_)
      unfold Sector.shed
      cases x.state <;> rfl
    · obtain ⟨o, ho, alive⟩ := live w hw
      obtain ⟨o', ho', ended⟩ := State.shed_waiter hw ho alive
      exact ⟨o', ho', ended.result⟩
    · obtain ⟨ends, alive⟩ := Order.shedEnds_of named
      obtain ⟨⟨o', ho', ended⟩, free⟩ := State.shed_order live ho alive ends
      exact ⟨⟨o', ho', ended.stage, ended.result, ended.frame, ended.tracks⟩, free.1⟩
  · rw [Ctx.warningRises_away entering]
    have view : (Ctx.warned s).view = { s.view with warning := true } := rfl
    have orders (hc : s.ctl = .shedding) (empty : s.tableEmpty = false) : (Ctx.warned s).finish.view = (Ctx.warned s).view :=
      Ctx.finish_orderStands hc rfl empty
    have away (draining : s.ctl ≠ .draining) (shedding : s.ctl ≠ .shedding) :
        (Ctx.warned s).finish.view = (Ctx.warned s).view := (Ctx.warned s).finish_view draining shedding
    have levels : (Ctx.warned s).finish.warning = true ∧ (Ctx.warned s).finish.run = s.run := by
      by_cases shedding : s.ctl = .shedding
      · obtain ⟨_, same⟩ | ⟨_, same, _⟩ := Ctx.finish_shedding (c := Ctx.warned s) shedding rfl fun p hp => nomatch hp
        · exact ⟨congrArg View.warning same, congrArg View.run same⟩
        · exact ⟨congrArg View.warning same, congrArg View.run same⟩
      · have same := away (fun h => entering (.inr h)) shedding
        exact ⟨congrArg View.warning same, congrArg View.run same⟩
    exact ⟨levels.1, levels.2, fun _ draining shedding => (away draining shedding).trans view,
      fun hc empty => (State.view_ctl (orders hc empty)).trans hc, fun h => absurd h entering⟩

end Sys2Proof.Machine
